-- ==== Sys2Proof/Word.lean ====
section
/-! DEFINITION. The word types of the ZD-416: what the manual itself treats as bits. -/

namespace Sys2Proof

/-- One byte of a frame, of a link word or of packet data. -/
abbrev Byte := BitVec 8

/-- A 16-bit field: lengths, episode tags and grant numbers as a word carries them (11, Tables 11-2, 11-7). -/
abbrev Half := BitVec 16

/-- An endpoint: a 32-bit opaque identifier, compared for equality only (00, section 5). -/
abbrev Endpoint := BitVec 32

end Sys2Proof
end

