-- ==== Sys2Proof/Syntax.lean ====
section
/-! DEFINITION. The commands of the block: one constructor per row of spec/opcode_table.json. -/

namespace Sys2Proof

/-- What the receive side finds in one lane's block of a damaged word (R142): `framing`, a bad sync header; `code`, a failed
line-code check; `both`, the two in one block; `absent`, the event says nothing of the lane. -/
inductive BlockCheck where
  | good | framing | code | both | absent
  deriving DecidableEq, Repr

/-- The commands and events of the ZD-416 (spec/opcode_table.json). A row named after a host command is the host sending that
command: the bytes of its frame, with the tag and the body fields of Table 11-2 that are its operands, arrive on the
management receive line (R169, log entry 1); an operand of theirs that is not written is 0 or empty. The operands of the
other rows are what the event brings with it. -/
inductive Instr where
  /-- FRAME_RECEIVED (R169): bytes arrive on the management receive line. -/
  | frameReceived (bytes : List Byte)
  /-- IDENTIFY (R176). -/
  | identify (tag : Byte := 0)
  /-- RESET_PART (R177). -/
  | resetPart (tag : Byte := 0)
  /-- SET_PORT (R124), with the 18 bytes of a policy record (Table 11-3). -/
  | setPort (tag port : Byte := 0) (policy : Vector Byte 18 := Vector.replicate 18 0)
  /-- ENABLE_PORT (R127). -/
  | enablePort (tag port : Byte := 0)
  /-- DISABLE_PORT with mode DRAIN (R130). -/
  | disablePortDrain (tag port : Byte := 0)
  /-- DISABLE_PORT with mode FLUSH (R131). -/
  | disablePortFlush (tag port : Byte := 0)
  /-- RESUME_PORT (R137). -/
  | resumePort (tag port : Byte := 0)
  /-- PORT_STATUS (R139). -/
  | portStatus (tag port : Byte := 0)
  /-- SET_RATE (R112). -/
  | setRate (tag port x : Byte := 0) (a b : Half := 0) (burst : BitVec 24 := 0) (apply continuity : Byte := 0)
  /-- COMMIT_RATE (R114): the ports it names, one a byte. -/
  | commitRate (tag : Byte := 0) (ports : List Byte := [])
  /-- RATE_STATUS (R119). -/
  | rateStatus (tag port : Byte := 0)
  /-- LIST_EPISODES (R29). -/
  | listEpisodes (tag port : Byte := 0) (start : Half := 0)
  /-- EPISODE_STATUS (R28). -/
  | episodeStatus (tag : Byte := 0) (handle : Half := 0)
  /-- HALT_EPISODE (R25). -/
  | haltEpisode (tag : Byte := 0) (handle : Half := 0)
  /-- RESUME_EPISODE (R25). -/
  | resumeEpisode (tag : Byte := 0) (handle : Half := 0)
  /-- ABORT_EPISODE (R26). -/
  | abortEpisode (tag : Byte := 0) (handle : Half := 0)
  /-- EXTEND_DEADLINE (R22). -/
  | extendDeadline (tag : Byte := 0) (handle : Half := 0) (value : Byte := 0)
  /-- ADD_RESERVATION (R56). -/
  | addReservation (tag : Byte := 0) (handle cells : Half := 0)
  /-- CAPTURE (R95). -/
  | capture (tag : Byte := 0) (handle : Half := 0)
  /-- READ_COUNTERS (R166). -/
  | readCounters (tag port : Byte := 0)
  /-- CLEAR_COUNTERS (R167). -/
  | clearCounters (tag port : Byte := 0)
  /-- SET_THRESHOLD (R165). -/
  | setThreshold (tag value : Byte := 0)
  /-- STORE_STATUS (R78). -/
  | storeStatus (tag : Byte := 0)
  /-- SET_POOL (R77). -/
  | setPool (tag : Byte := 0) (floor : BitVec 24 := 0)
  /-- LINK_STATUS (R155). -/
  | linkStatus (tag : Byte := 0)
  /-- SET_LINK_PARAMS (R156). -/
  | setLinkParams (tag : Byte := 0) (linkId : Half := 0) (laneCount portCount : Byte := 0) (maxLength : Half := 0)
  /-- RELINK (R157). -/
  | relink (tag : Byte := 0)
  /-- TRANSMIT_COMPLETE (R180). -/
  | transmitComplete
  /-- RESET_INPUT_ASSERT (R158). -/
  | resetInputAssert
  /-- RESET_INPUT_RELEASE (R98, R158). -/
  | resetInputRelease
  /-- CLOCK_START_DECISION (R121): whether reference edges were seen without a 1 µs gap since the release of reset. -/
  | clockStartDecision (edgesSeen : Bool)
  /-- STORE_INIT_COMPLETE (R98). -/
  | storeInitComplete
  /-- REFERENCE_LOST (R120). -/
  | referenceLost
  /-- REFERENCE_RETURNED (R121). -/
  | referenceReturned
  /-- PACER_TICK (R102). -/
  | pacerTick
  /-- GRANT_TIMER_EXPIRY (R53): the episode's slot, the responder's place in the roster from 0, the grant number. -/
  | grantTimerExpiry (slot position number : Nat)
  /-- DEADLINE_EXPIRY (R18): the episode's slot. -/
  | deadlineExpiry (slot : Nat)
  /-- IDLE_EXPIRY (R12): the episode's slot. -/
  | idleExpiry (slot : Nat)
  /-- LINGER_EXPIRY (R15): the episode's slot. -/
  | lingerExpiry (slot : Nat)
  /-- FRAMING_ERROR (R142): a block with a bad sync header on a lane. -/
  | framingError (lane : Fin 4)
  /-- DAMAGED_WORD (R142): each lane's block, the type code as received, and whether the word is one of the words of the
  packet that is open (log entry 18). -/
  | damagedWord (blocks : Vector BlockCheck 4) (typeCode : Byte) (ofPacket : Bool)
  /-- ALIGNMENT_WORD (R143): the lanes on which an alignment block arrives (bit l for lane l). -/
  | alignmentWord (lanes : BitVec 4)
  /-- LANE_MARKER_WORD (R144): the lanes on which a lane-marker block arrives (bit l for lane l). -/
  | laneMarkerWord (lanes : BitVec 4)
  /-- PARAMETER_BLOCK (R145), with the fields of Table 11-7, type 08h. -/
  | parameterBlock (linkId : Half) (laneCount portCount : Byte) (maxLength : Half) (checksum : Byte)
  /-- PACKET_DESCRIPTOR (R149), with the fields of Table 11-7, type 01h. -/
  | packetDescriptor (port flags : Byte) (length : Half) (dest src : Endpoint) (tag grant : Half)
  /-- PAYLOAD_WORD (R149), with the fields of Table 11-7, type 02h: the last bit, the byte count and the 28 data bytes. -/
  | payloadWord (last : Bool) (count : Byte) (data : List Byte)
  /-- SIGHTING (R5), with the fields of Table 11-7, type 03h; an E of 0 is not announced (R31). -/
  | sighting (port : Byte) (requester : Endpoint) (tag : Half) (n : Byte) (e : Half) (cls : BitVec 2) (report : Bool)
  /-- DIVERT_STARTED (R128): a MARKER with code 01h. -/
  | divertStarted (port : Byte)
  /-- DIVERT_STOPPED (R126): a MARKER with code 02h. -/
  | divertStopped (port : Byte)
  /-- STATUS_WORD (R109): bit p is the egress-full flag of port p. -/
  | statusWord (full : BitVec 48)
  /-- HOLD_RETURN (R154). -/
  | holdReturn
  /-- RESUME_RETURN (R154). -/
  | resumeReturn
  /-- IDLE_WORD (R148). -/
  | idleWord
  /-- STORE_WRITE_COMPLETE (R81). -/
  | storeWriteComplete
  /-- RELEASE_READ_COMPLETE (R89): the words the read corrected, and whether it found an uncorrectable one (R92). -/
  | releaseReadComplete (corrected : Nat) (uncorrectable : Bool)
  /-- CAPTURE_READ_COMPLETE (R96): the words the read corrected, and whether it found an uncorrectable one (R92). -/
  | captureReadComplete (corrected : Nat) (uncorrectable : Bool)
  /-- RETURN_ITEM_COMPLETE (R153). -/
  | returnItemComplete
  /-- UNKNOWN_TYPE_WORD (R148, R185): an undamaged word of no type of Table 11-7, or (`marker`) a MARKER of no code of it. -/
  | unknownTypeWord (marker : Bool)
  deriving DecidableEq, Repr

end Sys2Proof
end

