-- ==== Sys2Proof/Decode.lean ====
section
/-! DEFINITION. The commands that words spell by the bits of spec/opcode_table.json: its rows give no bits. -/

namespace Sys2Proof

/-- The command that a word spells by the table's bits: no row of the table gives any, so no word spells one. -/
def decodeTableWord (_nbits _w : Nat) : Option Instr := none

end Sys2Proof
end

