-- ==== Sys2Proof/Config.lean ====
section
/-! DEFINITION. What is fixed for the part: the capacities of the manual, and the values the manual leaves open
(opaque constants, so that nothing in Lean knows a value of them). -/

namespace Sys2Proof.Config

/-- Downlink ports (00, Table 4-1). -/
abbrev portCount : Nat := 48
/-- Slots of the Episode Table (R2). -/
abbrev slotCount : Nat := 1024
/-- Entries of the Roster Pool (R35). -/
abbrev rosterEntries : Nat := 16384
/-- Cells in the store, C (R6). -/
abbrev cellCount : Nat := 2097152
/-- The default shared floor S (R99). -/
abbrev defaultFloor : Nat := 524288
/-- The least claim of a sighting, in cells (R6). -/
abbrev leastClaim : Nat := 16
/-- The staging buffer in bytes (R149). -/
abbrev stagingBytes : Nat := 196608
/-- The staging fill at which the part pauses the switch (R151). -/
abbrev pauseLevel : Nat := 147456
/-- The staging fill at which the part resumes the switch (R151). -/
abbrev resumeLevel : Nat := 49152
/-- The staging fill from which the arrival writer goes first (R85, case 2). -/
abbrev writerFirstLevel : Nat := 98304
/-- Places of the grant frame queue (R68). -/
abbrev grantQueuePlaces : Nat := 512
/-- Places of the UNPACE backlog (R70). -/
abbrev backlogPlaces : Nat := 16384
/-- Places of the stub queue (R50). -/
abbrev stubPlaces : Nat := 256
/-- Places of the pass-through queue; the rest of the pass-through list is the backlog (R152). -/
abbrev passPlaces : Nat := 64
/-- Places of the released-packet queue (R90). -/
abbrev releasedPlaces : Nat := 16
/-- Places of the command queue (R171). -/
abbrev commandPlaces : Nat := 8
/-- Places of the reply queue (R172). -/
abbrev replyPlaces : Nat := 16
/-- Places of the notice queue (R178). -/
abbrev noticePlaces : Nat := 256
/-- Pacer ticks from one grant tick to the next (R103). -/
abbrev grantTickPeriod : Nat := 2000
/-- Pacer ticks from one deadline tick to the next (R103). -/
abbrev deadlineTickPeriod : Nat := 32000
/-- Bytes of a held packet that CAPTURE returns at most (R96). -/
abbrev captureBytes : Nat := 128

/-- DESIGN CHOICE (free value, log entry 11): the family code IDENTIFY reports; the manual names it and gives no number (R176). -/
opaque familyCode : Nat
/-- DESIGN CHOICE (free value, log entry 11): the part code IDENTIFY reports (R176). -/
opaque partCode : Nat
/-- DESIGN CHOICE (free value, log entry 11): the revision number of the die (R176). -/
opaque dieRevision : Nat
/-- DESIGN CHOICE (free value, log entries 8 and 9): decides between events that the manual lets be taken in either order,
applied to the model's counter of such choices. -/
opaque choice : Nat → Nat
/-- DESIGN CHOICE (free value, log entry 10): where the search for the first free cell of a packet starts (R73). -/
opaque firstCell : Nat → Nat
/-- DESIGN CHOICE (free value, log entry 12): an unlisted count past 32 bits, from the old count and the addend (R39). -/
opaque unlistedOverflow : Nat → Nat → BitVec 32
/-- DESIGN CHOICE (free value, log entry 13): whether the clock state reported before the start decision is FALLBACK (R121, R176). -/
opaque fallbackBeforeDecision : Bool
/-- DESIGN CHOICE (free value, log entry 15): whether a MARKER word with an undefined code breaks an open packet (R148, R185). -/
opaque badMarkerBreaks : Bool
/-- DESIGN CHOICE (free value, log entry 27): the byte by which PORT_STATUS's reply names a drain cause, HOST, STAND_DOWN and
FLUSH being 0, 1 and 2 here (R139; the manual gives no code). -/
opaque drainCauseByte : Nat → Byte

end Sys2Proof.Config
end

