-- ==== Sys2Proof/Machine/State.lean ====
section
/-! DEFINITION. The state of the ZD-416 as plain data, block by block, and its value after reset. -/

namespace Sys2Proof.Machine

/-! ### Episodes and responders (01, Table 1-1; 02, Table 2-1) -/

/-- The name of an episode to the host: slot and generation (R2). -/
structure Handle where
  slot : Nat
  gen : BitVec 6
  deriving DecidableEq, Repr

/-- The name of an episode to the switch: drain group, requester endpoint, episode tag (R1). -/
structure Key where
  group : Nat
  requester : Endpoint
  tag : Half
  deriving DecidableEq, Repr

/-- How an episode came to be (R3). -/
inductive Origin where
  | sighted | adopted
  deriving DecidableEq, Repr

/-- The states of a non-FREE episode (Table 1-2); FREE is the absence of the record. -/
inductive EpState where
  | armed | active | draining | linger
  deriving DecidableEq, Repr

/-- Why an episode went to LINGER (R13). -/
inductive CloseReason where
  | completed | expired | aborted
  deriving DecidableEq, Repr

/-- A responder's states (Table 2-2). -/
inductive RespState where
  | opening | waiting | granted | finished | retired
  deriving DecidableEq, Repr

/-- An outstanding grant (Table 2-1). `due`: a grant tick that brings the timer to 0 has come and its expiry is not yet
taken (R52, log entry 5). -/
structure Grant where
  number : Nat
  remaining : Nat
  timer : Nat
  due : Bool
  deriving DecidableEq, Repr

/-- A responder entry (Table 2-1). -/
structure Responder where
  endpoint : Endpoint
  state : RespState
  allowance : Nat
  grants : List Grant
  nextNumber : Nat
  strikes : Nat
  unpaced : Bool
  packetsArrived : Nat
  deriving DecidableEq, Repr

/-- Packets and bytes counted together (R4). -/
structure Tally where
  packets : Nat
  bytes : Nat
  deriving DecidableEq, Repr

/-- A counter of deadline ticks (R12, R15); `due` as in `Grant`. -/
structure Countdown where
  value : Nat
  due : Bool
  deriving DecidableEq, Repr

/-- The deadline counter with its last loaded value (R18); `due` as in `Grant`. -/
structure Deadline where
  value : Nat
  last : Nat
  due : Bool
  deriving DecidableEq, Repr

/-- A packet's admission kind (R74). -/
inductive HoldKind where
  | own | borrowed
  deriving DecidableEq, Repr

/-- A packet the store has admitted: its packet record (R74), its data, and, once its write is granted, its chain of cells,
first cell first (R73). The record's first cell is the head of the chain. -/
structure HeldPacket where
  handle : Handle
  responder : Endpoint
  length : Nat
  cls : Nat
  kind : HoldKind
  data : List Byte
  chain : List Nat
  deriving DecidableEq, Repr

/-- An episode record that is not FREE (Table 1-1). The outstanding granted packets G are the sum over the roster's grants; the
roster cursor counts positions from 0, where Table 3-1 counts from 1. -/
structure Episode where
  slot : Nat
  key : Key
  origin : Origin
  state : EpState
  halted : Bool
  expired : Bool
  damaged : Bool
  closeReason : Option CloseReason
  cls : Nat
  report : Bool
  n : Option Nat
  e : Option Nat
  reservation : Nat
  heldOwn : Nat
  borrowed : Nat
  holdQueue : List HeldPacket
  inFlight : Bool
  roster : List Responder
  rosterCursor : Option Nat
  unlisted : Tally
  finished : Nat
  deadline : Option Deadline
  idle : Option Countdown
  linger : Option Countdown
  arrived : Tally
  released : Tally
  trimmed : Tally
  discarded : Tally
  deriving DecidableEq, Repr

/-- The Episode Table: the slots' generations, the non-FREE records in ascending slot order, the refusing mark (R2, R7). -/
structure EpisodeTable where
  generations : Vector (BitVec 6) 1024
  episodes : List Episode
  refusing : Bool
  deriving DecidableEq, Repr

/-! ### Grant Scheduler (03, Table 3-1) -/

/-- A GRANT frame, or with count 0 an UNPACE frame (R33, R34). -/
structure GrantFrame where
  responder : Endpoint
  requester : Endpoint
  tag : Half
  number : Nat
  count : Nat
  deriving DecidableEq, Repr

structure Scheduler where
  classCursors : Vector (Vector (Option Nat) 4) 48
  queue : List GrantFrame
  backlog : List GrantFrame
  notMade : Nat
  deriving DecidableEq, Repr

/-! ### Cell Store, store arbiter, Release Engine (04) -/

/-- What a capture read copies at its grant (R96): the head record and bytes, and the hold queue's length. -/
structure CaptureSnap where
  record : HeldPacket
  queueLength : Nat
  deriving DecidableEq, Repr

/-- What the DRAM is doing (R84). -/
inductive Transfer where
  | none
  | write (packet : HeldPacket)
  | release (group : Nat)
  | capture (snap : CaptureSnap)
  deriving DecidableEq, Repr

/-- The two requesters whose turns the store arbiter alternates (R84). -/
inductive Served where
  | writer | reader
  deriving DecidableEq, Repr

/-- A release begun and not yet complete (R88). -/
structure Release where
  packet : HeldPacket
  granted : Bool
  deriving DecidableEq, Repr

/-- A released packet waiting to be sent (R90). -/
structure ReleasedPacket where
  port : Nat
  requester : Endpoint
  responder : Endpoint
  length : Nat
  data : List Byte
  deriving DecidableEq, Repr

structure Store where
  initialising : Bool
  floor : Nat
  corrected : Nat
  writeList : List HeldPacket
  transfer : Transfer
  lastServed : Option Served
  passCount : Nat
  groupCursor : Option Nat
  releases : Vector (Option Release) 48
  released : List ReleasedPacket
  deriving DecidableEq, Repr

/-! ### Drain Pacers and Timebase (05) -/

structure Rate where
  x : Nat
  a : Nat
  b : Nat
  deriving DecidableEq, Repr

inductive ApplyMode where
  | now | onCommit | onNextEpisode
  deriving DecidableEq, Repr

inductive Continuity where
  | keep | reset
  deriving DecidableEq, Repr

structure PendingRate where
  rate : Rate
  burst : Nat
  apply : ApplyMode
  continuity : Continuity
  deriving DecidableEq, Repr

/-- A drain pacer (Table 5-1). -/
structure Pacer where
  rate : Rate
  burst : Nat
  pending : Option PendingRate
  commit : Bool
  remainder : Nat
  releaseCredit : Int
  grantCredit : Int
  cursors : Vector (Option Nat) 4
  deriving DecidableEq, Repr

inductive Clock where
  | reference | fallback
  deriving DecidableEq, Repr

/-- The Timebase (R103, R120, R121). `clock` is absent until the start decision. -/
structure Timebase where
  clock : Option Clock
  ticks : Nat
  deriving DecidableEq, Repr

/-! ### Event counters (08) -/

inductive EvType where
  | overrun | stray | trim | late | retire | expire
  deriving DecidableEq, Repr

structure CounterSet where
  counts : Vector Nat 6
  marks : Vector Bool 6
  deriving DecidableEq, Repr

structure Counters where
  sets : Vector CounterSet 48
  threshold : Nat
  deriving DecidableEq, Repr

/-! ### Downlink ports (06, Tables 6-1, 6-2) -/

inductive Bond where
  | none | pair
  deriving DecidableEq, Repr

inductive ExpiryAction where
  | drain | discard
  deriving DecidableEq, Repr

inductive NoticePolicy where
  | none | marked | every
  deriving DecidableEq, Repr

inductive CounterMode where
  | hold | wrap
  deriving DecidableEq, Repr

/-- The port policy record (Table 6-2). Bit i of the protect mask is the i-th of OVERRUN, STRAY, TRIM, LATE, RETIRE, EXPIRE. -/
structure Policy where
  bond : Bond
  mtu : Nat
  allowance : Nat
  grantSize : Nat
  reservation : Nat
  borrowCap : Nat
  deadline : Nat
  grantTimeout : Nat
  linger : Nat
  idle : Nat
  expiry : ExpiryAction
  notice : NoticePolicy
  adopt : Bool
  mode : CounterMode
  protect : BitVec 6
  deriving DecidableEq, Repr

/-- The defaults of Table 6-2. -/
def Policy.default : Policy :=
  { bond := .none, mtu := 4096, allowance := 2, grantSize := 4, reservation := 1024, borrowCap := 4096, deadline := 40,
    grantTimeout := 25, linger := 8, idle := 4, expiry := .drain, notice := .marked, adopt := true, mode := .hold, protect := 0 }

inductive BondRole where
  | single | pairEven | pairOdd
  deriving DecidableEq, Repr

inductive PortState where
  | disabled | starting | active | drainOut | faulted
  deriving DecidableEq, Repr

inductive Clearing where
  | none | awaitingStatus | statusRead
  deriving DecidableEq, Repr

inductive DrainCause where
  | host | standDown | flush
  deriving DecidableEq, Repr

/-- The fault record (R134). -/
structure FaultRecord where
  stateAtFault : PortState
  member : Nat
  src : Endpoint
  dest : Endpoint
  length : Nat
  deriving DecidableEq, Repr

/-- A port record (Table 6-1). The two seen flags are those of the member that is this port (log entry 26). -/
structure Port where
  policy : Policy
  role : BondRole
  state : PortState
  startedSeen : Bool
  stoppedSeen : Bool
  suspended : Bool
  clearing : Clearing
  drainCause : Option DrainCause
  fault : Option FaultRecord
  strayMarkers : Nat
  deriving DecidableEq, Repr

/-! ### The divert link (07) -/

inductive LinkState where
  | down | aligning | deskew | params | up
  deriving DecidableEq, Repr

/-- One lane's counts (Table 7-2). `sinceMarker`: in DESKEW, the words delivered since the lane's marker, absent before it (R144). -/
structure Lane where
  alignRun : Nat
  framingRun : Nat
  codeErrors : Nat
  sinceMarker : Option Nat
  deriving DecidableEq, Repr

structure LinkParams where
  linkId : Nat
  laneCount : Nat
  portCount : Nat
  maxLength : Nat
  deriving DecidableEq, Repr

/-- The fields of a PACKET descriptor (Table 11-7). -/
structure Descriptor where
  port : Nat
  flags : Byte
  length : Nat
  dest : Endpoint
  src : Endpoint
  tag : Half
  grant : Half
  deriving DecidableEq, Repr

/-- A packet between its descriptor and its last payload word (R149). `staged` is false for a packet whose words are only
consumed and dropped. -/
structure OpenPacket where
  desc : Descriptor
  staged : Bool
  received : Nat
  data : List Byte
  deriving DecidableEq, Repr

/-- A passed-through packet in the pass-through list (R152). -/
structure PassPacket where
  desc : Descriptor
  data : List Byte
  deriving DecidableEq, Repr

/-- A loss stub (R50). -/
structure Stub where
  requester : Endpoint
  src : Endpoint
  tag : Half
  grant : Half
  length : Nat
  deriving DecidableEq, Repr

/-- START_DIVERT (`start`) or STOP_DIVERT for a port (R126). -/
structure ControlWord where
  start : Bool
  port : Nat
  deriving DecidableEq, Repr

/-- An item of the return arbiter (Table 7-4). -/
inductive OutItem where
  | control (word : ControlWord)
  | grant (frame : GrantFrame)
  | stub (stub : Stub)
  | passed (packet : PassPacket)
  | released (packet : ReleasedPacket)
  deriving DecidableEq, Repr

structure Link where
  state : LinkState
  lanes : Vector Lane 4
  expected : LinkParams
  lastGood : Option LinkParams
  established : Option LinkParams
  mismatch : Bool
  loss : Bool
  discards : Nat
  stagingDrops : Nat
  ignoredSightings : Nat
  rejectedWords : Nat
  returnLosses : Nat
  openPacket : Option OpenPacket
  paused : Bool
  hold : Bool
  egressFull : BitVec 48
  control : List ControlWord
  stubs : List Stub
  passList : List PassPacket
  sending : Option OutItem
  deriving DecidableEq, Repr

/-! ### Management link: frames, replies, notices (09, 11) -/

/-- An accepted frame (R169): its kind, tag and body. -/
structure Frame where
  kind : Byte
  tag : Byte
  body : List Byte
  deriving DecidableEq, Repr

/-- The reply statuses (R174, Table 11-4). -/
inductive Status where
  | ok | accepted | busy | notReady | frameError | badKind | badLength | badValue | wrongState | wrongPort
  | staleHandle | faultPending | noRate | early | noSpace | empty | dataError
  deriving DecidableEq, Repr

inductive StartCause where
  | powerOn | resetPart
  deriving DecidableEq, Repr

/-- The part's identification (R176). -/
structure Identity where
  family : Nat
  part : Nat
  revision : Nat
  deriving DecidableEq, Repr

/-- IDENTIFY's reply (R176). -/
structure IdentifyReply where
  identity : Identity
  ready : Bool
  initialising : Bool
  cause : StartCause
  clock : Clock
  frameErrors : Nat
  busyCount : Nat
  busyBacklog : Nat
  noticeFill : Nat
  overflow : Bool
  deriving DecidableEq, Repr

/-- EPISODE_STATUS's reply (R28). -/
structure EpisodeReply where
  handle : Handle
  key : Key
  origin : Origin
  state : EpState
  halted : Bool
  expired : Bool
  damaged : Bool
  closeReason : Option CloseReason
  cls : Nat
  report : Bool
  n : Option Nat
  e : Option Nat
  reservation : Nat
  heldOwn : Nat
  borrowed : Nat
  granted : Nat
  queueLength : Nat
  inFlight : Nat
  rosterSize : Nat
  finished : Nat
  unlisted : Tally
  deadline : Option (Nat × Nat)
  idle : Option Nat
  linger : Option Nat
  arrived : Tally
  released : Tally
  trimmed : Tally
  discarded : Tally
  deriving DecidableEq, Repr

/-- One member's figures in PORT_STATUS's reply (R139). -/
structure MemberReply where
  port : Nat
  startedSeen : Bool
  stoppedSeen : Bool
  egressFull : Bool
  deriving DecidableEq, Repr

/-- PORT_STATUS's reply (R139). -/
structure PortReply where
  port : Nat
  role : BondRole
  group : Nat
  state : PortState
  members : List MemberReply
  suspended : Bool
  clearing : Clearing
  drainCause : Option DrainCause
  fault : Option FaultRecord
  strayMarkers : Nat
  policy : Policy
  armed : Nat
  active : Nat
  draining : Nat
  linger : Nat
  deriving DecidableEq, Repr

/-- RATE_STATUS's reply (R119). -/
structure RateReply where
  rate : Rate
  burst : Nat
  releaseCredit : Int
  grantCredit : Int
  remainder : Nat
  pending : Option PendingRate
  commit : Bool
  cursors : Vector (Option Nat) 4
  releaseInFlight : Bool
  gateOpen : Bool
  suspended : Bool
  clock : Clock
  grantQueueFill : Nat
  backlogLength : Nat
  notMade : Nat
  deriving DecidableEq, Repr

/-- STORE_STATUS's reply (R78). -/
structure StoreReply where
  cells : Nat
  freeCells : Nat
  sumR : Nat
  sumB : Nat
  floor : Nat
  claimableRoom : Nat
  writesWaiting : Nat
  writesBytes : Nat
  releasedFill : Nat
  corrected : Nat
  freeEntries : Nat
  episodes : Nat
  deriving DecidableEq, Repr

/-- READ_COUNTERS's reply (R166). -/
structure CountersReply where
  set : CounterSet
  threshold : Nat
  mode : CounterMode
  protect : BitVec 6
  deriving DecidableEq, Repr

/-- A lane's figures in LINK_STATUS's reply (R155). -/
structure LaneReply where
  alignRun : Nat
  framingRun : Nat
  codeErrors : Nat
  deriving DecidableEq, Repr

/-- LINK_STATUS's reply (R155). -/
structure LinkReply where
  state : LinkState
  lanes : Vector LaneReply 4
  expected : LinkParams
  lastGood : Option LinkParams
  established : Option LinkParams
  mismatch : Bool
  loss : Bool
  paused : Bool
  hold : Bool
  stagingFill : Nat
  controlFill : Nat
  stubFill : Nat
  passFill : Nat
  passBacklog : Nat
  discards : Nat
  stagingDrops : Nat
  ignoredSightings : Nat
  rejectedWords : Nat
  returnLosses : Nat
  deriving DecidableEq, Repr

/-- CAPTURE's reply (R96): the packet record's fields (R74), the bytes read, the hold queue's length at the grant. -/
structure CaptureReply where
  handle : Handle
  responder : Endpoint
  length : Nat
  cls : Nat
  firstCell : Nat
  kind : HoldKind
  bytes : List Byte
  queueLength : Nat
  deriving DecidableEq, Repr

/-- What a reply carries after its status, by named fields (R174, log entry 27). -/
inductive ReplyBody where
  | nothing
  /-- the answered number of BUSY and FRAME_ERROR (R184); the new counter value of EXTEND_DEADLINE (R22), the new R of
  ADD_RESERVATION (R56), the previous T of SET_THRESHOLD (R165) -/
  | number (n : Nat)
  | identify (r : IdentifyReply)
  | handles (list : List Handle) (next : Nat)
  | episode (r : EpisodeReply)
  | port (r : PortReply)
  | rate (r : RateReply)
  | ports (list : List Nat)
  | flag (earlier : Bool)
  | store (r : StoreReply)
  | pool (floor room : Nat)
  | counters (r : CountersReply)
  | cleared (set : CounterSet)
  | link (r : LinkReply)
  | captured (r : CaptureReply)
  deriving DecidableEq, Repr

/-- A reply (R174). -/
structure Reply where
  tag : Byte
  kind : Byte
  status : Status
  body : ReplyBody
  deriving DecidableEq, Repr

/-- EPISODE_CLOSED's fields (R14). -/
structure ClosedNotice where
  handle : Handle
  key : Key
  origin : Origin
  closeReason : Option CloseReason
  expired : Bool
  damaged : Bool
  rosterSize : Nat
  finished : Nat
  unlisted : Tally
  arrived : Tally
  released : Tally
  trimmed : Tally
  discarded : Tally
  deriving DecidableEq, Repr

/-- EPISODE_EXPIRED's fields (R19); `action` is absent for an ARMED expiry. -/
structure ExpiredNotice where
  handle : Handle
  key : Key
  fromState : EpState
  action : Option ExpiryAction
  deriving DecidableEq, Repr

inductive PortCause where
  | started | drained | fault | standDown | store
  deriving DecidableEq, Repr

/-- PORT_STATE's fields (R140). -/
structure PortNotice where
  port : Nat
  cause : PortCause
  state : PortState
  suspended : Bool
  stopAwaited : Bool
  fault : Option FaultRecord
  deriving DecidableEq, Repr

/-- THRESHOLD's fields (R162). -/
structure ThresholdNotice where
  port : Nat
  type : EvType
  count : Nat
  threshold : Nat
  mode : CounterMode
  inMask : Bool
  ordered : Bool
  state : PortState
  deriving DecidableEq, Repr

/-- RATE_APPLIED's fields (R117). -/
structure RateNotice where
  port : Nat
  rate : Rate
  burst : Nat
  apply : ApplyMode
  continuity : Continuity
  releaseCredit : Int
  grantCredit : Int
  remainder : Nat
  deriving DecidableEq, Repr

/-- LINK_STATE's cause with what it carries (R145 to R147). -/
inductive LinkCause where
  | up (established : LinkParams)
  | mismatch (received expected : LinkParams)
  | framing
  | relink
  deriving DecidableEq, Repr

inductive FullCause where
  | table | store
  deriving DecidableEq, Repr

/-- The notices (Table 9-2). -/
inductive Notice where
  | ready (identity : Identity) (cause : StartCause) (clock : Clock)
  | episodeClosed (n : ClosedNotice)
  | episodeExpired (n : ExpiredNotice)
  | portState (n : PortNotice)
  | threshold (n : ThresholdNotice)
  | rateApplied (n : RateNotice)
  | linkState (cause : LinkCause)
  | clockState (clock : Clock)
  | tableFull (cause : FullCause)
  deriving DecidableEq, Repr

/-- A notice's kind and object (Table 9-2). -/
inductive NoticeKey where
  | ready
  | episodeClosed (h : Handle)
  | episodeExpired (h : Handle)
  | portState (port : Nat)
  | threshold (port : Nat) (type : EvType)
  | rateApplied (port : Nat)
  | linkState
  | clockState
  | tableFull
  deriving DecidableEq, Repr

/-- A frame on the transmit line (R180); a notice with its notices-dropped flag (R179). -/
inductive TxFrame where
  | reply (r : Reply)
  | notice (n : Notice) (dropped : Bool)
  deriving DecidableEq, Repr

/-- What the command engine holds from one event to the next (R173): only CAPTURE and RESET_PART span more than one event.
`capturing`: a CAPTURE not yet answered (R95), whose reply place is reserved (R172). `resetting`: a RESET_PART answered
ACCEPTED (R177). -/
inductive Engine where
  | idle
  | capturing (tag : Byte) (handle : Handle)
  | resetting
  deriving DecidableEq, Repr

/-- An entry of the BUSY backlog (R171). -/
structure BusyEntry where
  tag : Byte
  kind : Byte
  answered : Nat
  deriving DecidableEq, Repr

structure Mgmt where
  framer : List Byte
  frameErrors : Nat
  pendingErrors : Nat
  busyCount : Nat
  commands : List Frame
  engine : Engine
  owed : List Frame
  busyBacklog : List BusyEntry
  replies : List Reply
  notices : List Notice
  overflow : Bool
  ready : Bool
  sending : Option TxFrame
  startCause : StartCause
  deriving DecidableEq, Repr

/-! ### The part -/

/-- What the transmit sides begin to send in an event: flow words (R151), items of the return arbiter (R153), frames of the
management link (R180). The model's own record (log entry 22). -/
inductive Output where
  | pause
  | resume
  | item (i : OutItem)
  | frame (f : TxFrame)
  deriving DecidableEq, Repr

/-- The state of the part. `pending`, `choices`, `out` and `evThresholds` are the model's own fields (log entry 33). -/
structure State where
  pending : List Instr
  inReset : Bool
  mgmt : Mgmt
  table : EpisodeTable
  sched : Scheduler
  store : Store
  pacers : Vector Pacer 48
  time : Timebase
  counters : Counters
  ports : Vector Port 48
  link : Link
  choices : Nat
  out : List Output
  evThresholds : List (Nat × EvType)
  deriving DecidableEq, Repr

/-- No command or event of the ZD-416 stops the part with a fault: port faults (R134), store errors (R93) and refused
commands (R174) are effects on State. So there is no constructor, and no one raises one. -/
inductive Fault where
  deriving DecidableEq, Repr

/-- Why a step refuses a command. -/
inductive Refusal where
  /-- Raised only by an arm of exec whose row has no meaning yet; none is left. Safe: nothing can be proved of a run past it. -/
  | notModelled (mnemonic : String)
  deriving DecidableEq, Repr

/-! ### Reset values -/

/-- A pacer after reset (R122). -/
def Pacer.powerOn : Pacer :=
  { rate := ⟨0, 0, 1⟩, burst := 16384, pending := none, commit := false, remainder := 0, releaseCredit := 0, grantCredit := 0,
    cursors := Vector.replicate 4 none }

/-- A port after reset (R141). -/
def Port.powerOn : Port :=
  { policy := Policy.default, role := .single, state := .disabled, startedSeen := false, stoppedSeen := false,
    suspended := false, clearing := .none, drainCause := none, fault := none, strayMarkers := 0 }

/-- A lane with its counts at 0 (R147). -/
def Lane.zero : Lane := ⟨0, 0, 0, none⟩

/-- A counter set with every count 0 and every mark clear (R168). -/
def CounterSet.zero : CounterSet := ⟨Vector.replicate 6 0, Vector.replicate 6 false⟩

/-- The Grant Scheduler after reset (R72). -/
def Scheduler.powerOn : Scheduler :=
  { classCursors := Vector.replicate 48 (Vector.replicate 4 none), queue := [], backlog := [], notMade := 0 }

/-- The Cell Store after reset (R98, R99). -/
def Store.powerOn (initialising : Bool) : Store :=
  { initialising := initialising, floor := Config.defaultFloor, corrected := 0, writeList := [], transfer := .none,
    lastServed := none, passCount := 0, groupCursor := none, releases := Vector.replicate 48 none, released := [] }

/-- The counters after reset (R168). -/
def Counters.powerOn : Counters := ⟨Vector.replicate 48 CounterSet.zero, 255⟩

/-- The expected parameters at power-on (R158). -/
def LinkParams.powerOn : LinkParams := ⟨0, 4, 48, 9216⟩

/-- The Divert Link Interface after reset, in the state given and with the expected parameters given (R158). -/
def Link.afterReset (state : LinkState) (expected : LinkParams) : Link :=
  { state := state, lanes := Vector.replicate 4 Lane.zero, expected := expected, lastGood := none, established := none,
    mismatch := false, loss := false, discards := 0, stagingDrops := 0, ignoredSightings := 0, rejectedWords := 0,
    returnLosses := 0, openPacket := none, paused := false, hold := false, egressFull := BitVec.allOnes 48, control := [],
    stubs := [], passList := [], sending := none }

/-- The Management Link Controller at power-on (R182). -/
def Mgmt.powerOn : Mgmt :=
  { framer := [], frameErrors := 0, pendingErrors := 0, busyCount := 0, commands := [], engine := .idle, owed := [],
    busyBacklog := [], replies := [], notices := [], overflow := false, ready := false, sending := none,
    startCause := .powerOn }

/-- The part at power-on: held in reset with the link DOWN while the reset input is asserted (`held`), and at its release
with the link ALIGNING and the store initialising (R98, R158). -/
def State.powerOn (held : Bool) : State :=
  { pending := [], inReset := held, mgmt := Mgmt.powerOn,
    table := ⟨Vector.replicate 1024 0, [], false⟩,
    sched := Scheduler.powerOn, store := Store.powerOn (!held), pacers := Vector.replicate 48 Pacer.powerOn,
    time := ⟨none, 0⟩, counters := Counters.powerOn, ports := Vector.replicate 48 Port.powerOn,
    link := Link.afterReset (if held then .down else .aligning) LinkParams.powerOn,
    choices := 0, out := [], evThresholds := [] }

/-- The machine right after reset: the part at the release of the reset input (log entry 4). -/
def State.reset : State := State.powerOn false

end Sys2Proof.Machine
end

