-- ==== Sys2Proof/Machine/Bytes.lean ====
section
/-! DEFINITION. Bytes and their order (11: most significant byte first), saturating counts, the frame check (R169), and
small helpers over vectors that evaluate by structural recursion. -/

namespace Sys2Proof.Machine

/-- The number that bytes spell, most significant byte first (11). -/
def beNat (bytes : List Byte) : Nat := bytes.foldl (fun acc b => acc * 256 + b.toNat) 0

/-- The `size` bytes that spell a number, most significant byte first (11). -/
def toBe : Nat → Nat → List Byte
  | 0, _ => []
  | size + 1, n => toBe size (n / 256) ++ [BitVec.ofNat 8 n]

/-- The byte at an offset of a body; a body is long enough wherever this is used (R183). -/
def byteAt (body : List Byte) (i : Nat) : Byte := body.getD i 0

/-- The number in `size` bytes at an offset of a body. -/
def fieldAt (body : List Byte) (i size : Nat) : Nat := beNat ((body.drop i).take size)

/-- One bit of the CRC-16 with polynomial x^16 + x^12 + x^5 + 1 (R169). -/
def crcBit (crc : BitVec 16) : BitVec 16 :=
  if crc.msb then (crc <<< 1) ^^^ 0x1021 else crc <<< 1

/-- One byte of the CRC, most significant bit first, no reflection (R169). -/
def crcByte (crc : BitVec 16) (b : Byte) : BitVec 16 :=
  let c := crc ^^^ (b.setWidth 16 <<< 8)
  crcBit (crcBit (crcBit (crcBit (crcBit (crcBit (crcBit (crcBit c)))))))

/-- The CRC-16 of a frame's bytes from the kind to the end of the body: initial value all ones, no final XOR (R169). -/
def crc16 (bytes : List Byte) : BitVec 16 := bytes.foldl crcByte (BitVec.allOnes 16)

/-- A 32-bit count that saturates. -/
def sat32 (n : Nat) : Nat := min n 4294967295

/-- A tally with one more packet of `length` bytes; 32-bit counts that saturate (R4). -/
def Tally.add (t : Tally) (length : Nat) : Tally := ⟨sat32 (t.packets + 1), sat32 (t.bytes + length)⟩

/-- One unlisted count raised: past 32 bits the manual gives no value (R39, log entry 12). -/
def unlistedSum (old n : Nat) : Nat :=
  if old + n < 4294967296 then old + n else (Config.unlistedOverflow old n).toNat

/-- The unlisted counts with one more packet of `length` bytes (R39). -/
def Tally.addUnlisted (t : Tally) (length : Nat) : Tally := ⟨unlistedSum t.packets 1, unlistedSum t.bytes length⟩

/-- The cells a packet of L bytes occupies: L divided by 256, rounded up (00, section 6; R73). -/
def cellsOf (length : Nat) : Nat := (length + 255) / 256

/-- A vector with the entry at `i` changed, and unchanged where `i` is no index of it. -/
def vupd {α : Type} {n : Nat} (v : Vector α n) (i : Nat) (f : α → α) : Vector α n :=
  if h : i < n then v.set i (f v[i]) else v

/-- The entry at `i`, or `d` where `i` is no index. -/
def vget {α : Type} {n : Nat} (v : Vector α n) (i : Nat) (d : α) : α :=
  if h : i < n then v[i] else d

/-- A vector with every entry changed by a function of its index. -/
def vmapIdx {α β : Type} {n : Nat} (v : Vector α n) (f : Nat → α → β) : Vector β n :=
  ⟨⟨v.toList.zipIdx.map (fun p => f p.2 p.1)⟩, by simp⟩

/-- A vector with every entry changed. -/
def vmap {α β : Type} {n : Nat} (v : Vector α n) (f : α → β) : Vector β n :=
  ⟨⟨v.toList.map f⟩, by simp⟩

/-- The elements of a list in ring order after a place: those above the cursor, then the rest up to the cursor's own
(R64, R65, R86, R108). -/
def ringAfter {α : Type} (place : α → Nat) (cursor : Option Nat) (l : List α) : List α :=
  match cursor with
  | none => l
  | some c => l.filter (fun x => c < place x) ++ l.filter (fun x => place x ≤ c)

end Sys2Proof.Machine
end

