-- ==== Sys2Proof/Machine/Flags.lean ====
section
/-! DEFINITION. The flag and mark computations: event counts and reached marks (08), notice keys and replacement (R178),
reservation and pacing tests on single records. Functions of the records alone. -/

namespace Sys2Proof.Machine

/-! ### Event counters -/

/-- The place of a counter type in a counter set and in the protect mask (Tables 6-2, 11-3). -/
def EvType.index : EvType → Nat
  | .overrun => 0
  | .stray => 1
  | .trim => 2
  | .late => 3
  | .retire => 4
  | .expire => 5

/-- A count after an increment (R161). -/
def bumpCount (mode : CounterMode) (count : Nat) : Nat :=
  if count < 255 then count + 1
  else match mode with
    | .hold => count
    | .wrap => 0

/-- Whether an increment reaches the threshold: it changes the count to a value equal to T (R161, R162). -/
def reachesThreshold (mode : CounterMode) (count threshold : Nat) : Bool :=
  bumpCount mode count != count && bumpCount mode count == threshold

/-- Whether a type is in a protect mask (R163). -/
def protects (mask : BitVec 6) (type : EvType) : Bool := mask.getLsbD type.index

/-! ### Notices -/

/-- A notice's kind and object (Table 9-2). -/
def Notice.key : Notice → NoticeKey
  | .ready _ _ _ => .ready
  | .episodeClosed n => .episodeClosed n.handle
  | .episodeExpired n => .episodeExpired n.handle
  | .portState n => .portState n.port
  | .threshold n => .threshold n.port n.type
  | .rateApplied n => .rateApplied n.port
  | .linkState _ => .linkState
  | .clockState _ => .clockState
  | .tableFull _ => .tableFull

/-- A notice is raised: it replaces a waiting notice of the same kind and object in place, else joins the tail, else is
dropped and sets the overflow mark (R178, R179). -/
def Mgmt.raise (m : Mgmt) (n : Notice) : Mgmt :=
  if m.notices.any (fun x => x.key == n.key) then
    { m with notices := m.notices.map (fun x => if x.key == n.key then n else x) }
  else if m.notices.length < Config.noticePlaces then { m with notices := m.notices ++ [n] }
  else { m with overflow := true }

/-! ### Episodes and responders -/

/-- Whether an episode is empty: held-own and borrowed cells are both 0 (R4). -/
def Episode.isEmpty (e : Episode) : Bool := e.heldOwn == 0 && e.borrowed == 0

/-- Whether an episode is LINGER and closed: its linger counter runs (section 1.5). -/
def Episode.isClosed (e : Episode) : Bool := e.state == .linger && e.linger.isSome

/-- Whether an episode is in ARMED, ACTIVE or DRAINING. -/
def Episode.isOpen (e : Episode) : Bool := e.state != .linger

/-- Packets remaining over a responder's outstanding grants. -/
def Responder.remaining (r : Responder) : Nat := (r.grants.map (fun g => g.remaining)).sum

/-- The episode's outstanding granted packets G (Table 1-1). -/
def Episode.granted (e : Episode) : Nat := (e.roster.map Responder.remaining).sum

/-- FINISHED and RETIRED are final (Table 2-2). -/
def Responder.isFinal (r : Responder) : Bool := r.state == .finished || r.state == .retired

/-- Whether an UNPACE frame is produced for a responder (R17, R69). -/
def Responder.wantsUnpace (r : Responder) : Bool := !r.isFinal && !r.unpaced

/-- A responder after an UNPACE is produced for it (R34). -/
def Responder.unpace (r : Responder) : Responder :=
  { r with unpaced := true, grants := [],
           state := if r.state == .opening || r.state == .granted then .waiting else r.state }

/-- A responder whose outstanding grants are all withdrawn without a strike (R17, R37). -/
def Responder.withdraw (r : Responder) : Responder :=
  { r with grants := [], state := if r.state == .granted then .waiting else r.state }

/-- The state that follows the grants of a responder that is neither FINISHED nor RETIRED, after one was removed (R37). -/
def Responder.followGrants (r : Responder) : Responder :=
  { r with state := if r.state == .granted && r.grants.isEmpty then .waiting else r.state }

/-- Whether the scheduler may offer a grant to a responder (R60). -/
def Responder.eligible (r : Responder) : Bool :=
  !r.unpaced && (r.state == .waiting || (r.state == .granted && decide (r.grants.length < 2)))

/-- The grant size offered to a responder, with E if announced (R61). -/
def grantSizeFor (policySize : Nat) (e : Option Nat) (r : Responder) : Nat :=
  match e with
  | none => policySize
  | some e => min policySize (e - r.packetsArrived - r.remaining)

/-- The reservation check: held-own plus k·(G + g′) within R (R62). -/
def passesReservation (e : Episode) (k size : Nat) : Bool :=
  decide (e.heldOwn + k * (e.granted + size) ≤ e.reservation)

/-- The own test of an opening packet: held-own plus k·G plus cells(L) within R (R42). -/
def fitsOwn (e : Episode) (k length : Nat) : Bool :=
  decide (e.heldOwn + k * e.granted + cellsOf length ≤ e.reservation)

/-- The judgement of a listed responder's packet (R41, Table 2-3). -/
inductive Verdict where
  | overrun | unpaced | opening | overAllowance | cited (number : Nat) | stray
  deriving DecidableEq, Repr

/-- The first condition of R41 that holds for a packet of `length` bytes with grant number `grant`. -/
def judge (r : Responder) (mtu length grant : Nat) : Verdict :=
  if mtu < length then .overrun
  else if r.isFinal then .overrun
  else if r.unpaced then .unpaced
  else if grant = 0 then (if 0 < r.allowance then .opening else .overAllowance)
  else if r.grants.any (fun g => g.number == grant) then .cited grant
  else .stray

/-! ### Pacers -/

/-- Whether a rate is zero (R118). -/
def Rate.isZero (r : Rate) : Bool := r.x == 0 && r.a == 0

/-- Whether a pending rate is due at a tick (R113, R114). -/
def Pacer.rateDue (p : Pacer) : Bool :=
  match p.pending with
  | none => false
  | some r => r.apply == .now || (r.apply == .onCommit && p.commit)

/-- A pacer after its pending rate applies (R116). -/
def Pacer.applyRate (p : Pacer) (r : PendingRate) : Pacer :=
  match r.continuity with
  | .keep => { p with rate := r.rate, burst := r.burst, pending := none, commit := false,
                      releaseCredit := min p.releaseCredit r.burst, grantCredit := min p.grantCredit r.burst,
                      remainder := if p.remainder < r.rate.b then p.remainder else 0 }
  | .reset => { p with rate := r.rate, burst := r.burst, pending := none, commit := false,
                       releaseCredit := 0, grantCredit := 0, remainder := 0 }

/-- A pacer after the accrual of one tick: second to fourth steps of R102. -/
def Pacer.accrue (p : Pacer) : Pacer :=
  let sum := p.remainder + p.rate.a
  let extra : Nat := if p.rate.b ≤ sum then 1 else 0
  let gain : Int := (p.rate.x + extra : Nat)
  { p with remainder := if p.rate.b ≤ sum then sum - p.rate.b else sum,
           releaseCredit := min (p.releaseCredit + gain) p.burst, grantCredit := min (p.grantCredit + gain) p.burst }

/-! ### Ports -/

/-- Whether a member expects diverts, from its drain group's state and its own flags (R129). -/
def expectsDiverts (state : PortState) (startedSeen stoppedSeen : Bool) : Bool :=
  match state with
  | .active => true
  | .starting => startedSeen
  | .drainOut => !stoppedSeen
  | .faulted => !stoppedSeen
  | .disabled => false

end Sys2Proof.Machine
end

