-- ==== Sys2Proof/Machine/Ops.lean ====
section
/-! DEFINITION. The named operations over the state: the views, the accessors of ports, pacers, episodes and counters, and
the shared effects (raising a notice, handing a control word, producing UNPACE, counting, closing and freeing an episode). -/

namespace Sys2Proof.Machine

/-! ### Ports and drain groups -/

/-- The record of a port. -/
def State.port (s : State) (p : Nat) : Port := vget s.ports p Port.powerOn

/-- The state with one port's record changed. -/
def State.updPort (s : State) (p : Nat) (f : Port → Port) : State := { s with ports := vupd s.ports p f }

/-- The drain group a port belongs to: the even port of a bonded pair (R1, R123). -/
def State.groupOf (s : State) (p : Nat) : Nat := if (s.port p).role == .pairOdd then p - 1 else p

/-- A drain group's members: the port itself, or both ports of the pair (section 6.1). -/
def State.members (s : State) (g : Nat) : List Nat := if (s.port g).role == .pairEven then [g, g + 1] else [g]

/-- The drain groups in ascending port order. -/
def State.groups (s : State) : List Nat :=
  (List.range Config.portCount).filter (fun p => (s.port p).role != .pairOdd)

/-- The drain group's policy (R123). -/
def State.policy (s : State) (g : Nat) : Policy := (s.port g).policy

/-- The drain group's largest packet in cells, k (00, section 6). -/
def State.k (s : State) (g : Nat) : Nat := cellsOf (s.policy g).mtu

/-- The stop-marker-awaited condition: DRAIN_OUT or FAULTED with some member's stopped-seen flag clear (section 6.1). -/
def State.stopAwaited (s : State) (g : Nat) : Bool :=
  ((s.port g).state == .drainOut || (s.port g).state == .faulted) &&
    (s.members g).any (fun m => !(s.port m).stoppedSeen)

/-- Whether every member's stopped-seen flag is set. -/
def State.allStopped (s : State) (g : Nat) : Bool := (s.members g).all (fun m => (s.port m).stoppedSeen)

/-- Whether every member's started-seen flag is set. -/
def State.allStarted (s : State) (g : Nat) : Bool := (s.members g).all (fun m => (s.port m).startedSeen)

/-- Whether a member expects diverts (R129). -/
def State.expecting (s : State) (member : Nat) : Bool :=
  expectsDiverts (s.port (s.groupOf member)).state (s.port member).startedSeen (s.port member).stoppedSeen

/-- Changes the records of all members of a drain group. -/
def State.updMembers (s : State) (g : Nat) (f : Port → Port) : State :=
  (s.members g).foldl (fun s m => s.updPort m f) s

/-- Whether a drain group's egress gate is open (R109). -/
def State.gateOpen (s : State) (g : Nat) : Bool := (s.members g).all (fun m => !s.link.egressFull.getLsbD m)

/-- Whether the divert link is UP. -/
def State.linkUp (s : State) : Bool := s.link.state == .up

/-! ### Pacers -/

/-- The pacer of a port. -/
def State.pacer (s : State) (p : Nat) : Pacer := vget s.pacers p Pacer.powerOn

/-- The state with one pacer changed. -/
def State.updPacer (s : State) (p : Nat) (f : Pacer → Pacer) : State := { s with pacers := vupd s.pacers p f }

/-! ### Episodes -/

/-- The non-FREE record in a slot. -/
def State.ep? (s : State) (slot : Nat) : Option Episode := s.table.episodes.find? (fun e => e.slot == slot)

/-- The state with the record in one slot changed. -/
def State.updEp (s : State) (slot : Nat) (f : Episode → Episode) : State :=
  { s with table := { s.table with episodes := s.table.episodes.map (fun e => if e.slot == slot then f e else e) } }

/-- The key map: the record in use under a key (R1). -/
def State.lookup (s : State) (k : Key) : Option Episode := s.table.episodes.find? (fun e => e.key == k)

/-- A slot's generation (R2). -/
def State.generation (s : State) (slot : Nat) : BitVec 6 := vget s.table.generations slot 0

/-- The handle of the record in a slot (R2). -/
def State.handleOf (s : State) (slot : Nat) : Handle := ⟨slot, s.generation slot⟩

/-- The record a handle names, unless the handle is stale: its slot FREE or of another generation (R2). -/
def State.live? (s : State) (h : Handle) : Option Episode :=
  if s.generation h.slot = h.gen then s.ep? h.slot else none

/-- The lowest-numbered FREE slot (R6, R9). -/
def State.freeSlot? (s : State) : Option Nat :=
  (List.range Config.slotCount).find? (fun n => (s.ep? n).isNone)

/-- The records of a drain group, in slot order. -/
def State.groupEpisodes (s : State) (g : Nat) : List Episode := s.table.episodes.filter (fun e => e.key.group == g)

/-- A record put in its place in slot order. -/
def insertEpisode (e : Episode) : List Episode → List Episode
  | [] => [e]
  | x :: rest => if e.slot < x.slot then e :: x :: rest else x :: insertEpisode e rest

/-! ### Views of the accounting -/

/-- ΣR: the reservations of ARMED, ACTIVE and DRAINING episodes (R76). -/
def State.sumR (s : State) : Nat := ((s.table.episodes.filter Episode.isOpen).map (fun e => e.reservation)).sum

/-- ΣB: the borrowed cells of all episodes (R76). -/
def State.sumB (s : State) : Nat := (s.table.episodes.map (fun e => e.borrowed)).sum

/-- The claimable room: the smaller of C − S − ΣR and C − ΣR − ΣB, 0 when negative (R6, R76). -/
def State.claimableRoom (s : State) : Nat :=
  min (Config.cellCount - s.store.floor - s.sumR) (Config.cellCount - s.sumR - s.sumB)

/-- The packet of the transfer in progress, if it is a store write. -/
def Transfer.written? : Transfer → Option HeldPacket
  | .write p => some p
  | .none => Option.none
  | .release _ => Option.none
  | .capture _ => Option.none

/-- Every packet that has cells: held in a hold queue, being written, or in flight (R73). -/
def State.packetsWithCells (s : State) : List HeldPacket :=
  (s.table.episodes.map (fun e => e.holdQueue)).flatten ++ s.store.transfer.written?.toList ++
    (s.store.releases.toList.filterMap (fun r => r.map (fun x => x.packet)))

/-- The number of free cells (R73): none during initialisation, then C less the cells of chains (R98). -/
def State.freeCells (s : State) : Nat :=
  if s.store.initialising then 0
  else Config.cellCount - (s.packetsWithCells.map (fun p => cellsOf p.length)).sum

/-- The cells in chains. -/
def State.usedCells (s : State) : List Nat := (s.packetsWithCells.map (fun p => p.chain)).flatten

/-- The number of free entries of the Roster Pool (R35). -/
def State.freeEntries (s : State) : Nat :=
  Config.rosterEntries - (s.table.episodes.map (fun e => e.roster.length)).sum

/-- The staging room of the packet that is open: reserved at its descriptor (R149). -/
def Link.openRoom (l : Link) : Nat :=
  match l.openPacket with
  | some p => if p.staged then p.desc.length else 0
  | none => 0

/-- The staging room of the passed-through packet being sent (R150). -/
def Link.sendingRoom (l : Link) : Nat :=
  match l.sending with
  | some (.passed p) => p.desc.length
  | some (.control _) => 0
  | some (.grant _) => 0
  | some (.stub _) => 0
  | some (.released _) => 0
  | none => 0

/-- The staging fill: the lengths of the packets holding staging room (R150). -/
def State.stagingFill (s : State) : Nat :=
  s.link.openRoom + s.link.sendingRoom + (s.link.passList.map (fun p => p.desc.length)).sum +
    (s.store.writeList.map (fun p => p.length)).sum + (s.store.transfer.written?.toList.map (fun p => p.length)).sum

/-! ### Notices, replies, outputs -/

/-- A notice is raised in the event (R178). -/
def State.raise (s : State) (n : Notice) : State := { s with mgmt := s.mgmt.raise n }

/-- Something begins to be sent in the event (log entry 22). -/
def State.emit (s : State) (o : Output) : State := { s with out := s.out ++ [o] }

/-- The PORT_STATE notice of a drain group as it stands (R140). -/
def State.raisePortState (s : State) (g : Nat) (cause : PortCause) : State :=
  s.raise (.portState { port := g, cause := cause, state := (s.port g).state, suspended := (s.port g).suspended,
                        stopAwaited := s.stopAwaited g,
                        fault := if cause == .fault then (s.port g).fault else none })

/-! ### Control words (R126, R153) -/

/-- A control word joins the control queue unless an identical word is already in it (R153). -/
def State.handControl (s : State) (w : ControlWord) : State :=
  if s.link.control.contains w then s else { s with link := { s.link with control := s.link.control ++ [w] } }

/-- START_DIVERT for each member; when the link is not UP it falls due at UP (R126, R138). A pair's even member comes first, an
order that the manual does not give (DESIGN CHOICE, log entry 34). -/
def State.handStart (s : State) (g : Nat) : State :=
  if s.linkUp then (s.members g).foldl (fun s m => s.handControl ⟨true, m⟩) s else s

/-- STOP_DIVERT for each member; when the link is not UP the member's stopped-seen flag is set instead (R126). A pair's even
member comes first, an order that the manual does not give (DESIGN CHOICE, log entry 34). -/
def State.handStop (s : State) (g : Nat) : State :=
  if s.linkUp then (s.members g).foldl (fun s m => s.handControl ⟨false, m⟩) s
  else s.updMembers g (fun p => { p with stoppedSeen := true })

/-! ### UNPACE (R34, R69, R70) -/

/-- The UNPACE frame for a responder of an episode (R34). -/
def unpaceFrame (e : Episode) (r : Responder) : GrantFrame := ⟨r.endpoint, e.key.requester, e.key.tag, r.nextNumber, 0⟩

/-- A produced UNPACE frame joins the grant frame queue, else the backlog, else is not made (R70). -/
def Scheduler.join (c : Scheduler) (f : GrantFrame) : Scheduler :=
  if c.backlog.isEmpty && decide (c.queue.length < Config.grantQueuePlaces) then { c with queue := c.queue ++ [f] }
  else if c.backlog.length < Config.backlogPlaces then { c with backlog := c.backlog ++ [f] }
  else { c with notMade := sat32 (c.notMade + 1) }

/-- An episode's record after UNPACE is produced for its responders (R34, R69). -/
def Episode.unpace (e : Episode) : Episode :=
  if e.origin == .sighted then { e with roster := e.roster.map (fun r => if r.wantsUnpace then r.unpace else r) } else e

/-- The UNPACE frames of an episode, in roster order; an ADOPTED episode has none (R69). -/
def Episode.unpaceFrames (e : Episode) : List GrantFrame :=
  if e.origin == .sighted then (e.roster.filter Responder.wantsUnpace).map (unpaceFrame e) else []

/-- UNPACE is produced for an episode's responders (R69). -/
def State.unpaceEpisode (s : State) (slot : Nat) : State :=
  match s.ep? slot with
  | none => s
  | some e => { s.updEp slot Episode.unpace with sched := e.unpaceFrames.foldl Scheduler.join s.sched }

/-- UNPACE is produced for every non-FREE SIGHTED episode of a drain group, in slot order (R69). -/
def State.unpaceGroup (s : State) (g : Nat) : State :=
  ((s.groupEpisodes g).map (fun e => e.slot)).foldl State.unpaceEpisode s

/-! ### Entering DRAIN_OUT; stand-down (R130, R133) -/

/-- A drain group in STARTING or ACTIVE enters DRAIN_OUT: state and cause, stopped-seen flags cleared, STOP_DIVERT for each
member, UNPACE for the group's SIGHTED episodes (R130). -/
def State.enterDrainOut (s : State) (g : Nat) (cause : DrainCause) : State :=
  let s := s.updPort g (fun p => { p with state := .drainOut, drainCause := some cause })
  let s := s.updMembers g (fun p => { p with stoppedSeen := false })
  (s.handStop g).unpaceGroup g

/-- A stand-down order: taken by a group in ACTIVE, without effect otherwise (R133). -/
def State.standDown (s : State) (g : Nat) : State :=
  if (s.port g).state == .active then (s.enterDrainOut g .standDown).raisePortState g .standDown else s

/-! ### Event counters (R159 to R163) -/

/-- A drain group's counter set. -/
def State.counterSet (s : State) (g : Nat) : CounterSet := vget s.counters.sets g CounterSet.zero

/-- The state with one counter set changed. -/
def State.updCounters (s : State) (g : Nat) (f : CounterSet → CounterSet) : State :=
  { s with counters := { s.counters with sets := vupd s.counters.sets g f } }

/-- The THRESHOLD notice for a count of a drain group that reached T (R162). Its port state is the state after the event: it
is written when the notice is raised and again when the event ends (`State.refreshThresholds`). -/
def State.thresholdNotice (s : State) (g : Nat) (type : EvType) (count : Nat) : Notice :=
  let pol := s.policy g
  .threshold { port := g, type := type, count := count, threshold := s.counters.threshold, mode := pol.mode,
               inMask := protects pol.protect type, ordered := protects pol.protect type, state := (s.port g).state }

/-- A count reaches the threshold: the notice unless the mark was set, then the order if the type is protected (R162, R163). -/
def State.reached (s : State) (g : Nat) (type : EvType) (count : Nat) : State :=
  let marked := vget (s.counterSet g).marks type.index false
  let s := s.updCounters g (fun c => { c with marks := vupd c.marks type.index (fun _ => true) })
  let s := if marked then s
    else { s.raise (s.thresholdNotice g type count) with evThresholds := s.evThresholds ++ [(g, type)] }
  if protects (s.policy g).protect type then s.standDown g else s

/-- One event of a type is counted for a drain group (R160 to R163). -/
def State.count (s : State) (g : Nat) (type : EvType) : State :=
  let old := vget (s.counterSet g).counts type.index 0
  let mode := (s.policy g).mode
  let s' := s.updCounters g (fun c => { c with counts := vupd c.counts type.index (bumpCount mode) })
  if reachesThreshold mode old s.counters.threshold then s'.reached g type (bumpCount mode old) else s'

/-- Whether one more event of a type takes the drain group into DRAIN_OUT: the group is ACTIVE, the type is protected and the
count reaches the threshold (R133, R160 to R163). -/
def State.standsDownAt (s : State) (g : Nat) (type : EvType) : Bool :=
  (s.port g).state == .active && protects (s.policy g).protect type &&
    reachesThreshold (s.policy g).mode (vget (s.counterSet g).counts type.index 0) s.counters.threshold

/-- The port state of the THRESHOLD notices of the event, as the event leaves it (R162). -/
def State.refreshThresholds (s : State) : State :=
  { s with
    mgmt := { s.mgmt with notices := s.mgmt.notices.map (fun n =>
      match n with
      | .threshold t => if s.evThresholds.contains (t.port, t.type) then .threshold { t with state := (s.port t.port).state } else n
      | .ready _ _ _ => n
      | .episodeClosed _ => n
      | .episodeExpired _ => n
      | .portState _ => n
      | .rateApplied _ => n
      | .linkState _ => n
      | .clockState _ => n
      | .tableFull _ => n) } }

/-! ### Closing and freeing episodes (R13 to R16) -/

/-- Whether a port's notice policy calls for EPISODE_CLOSED (R14). -/
def closedNoticeCalled (policy : NoticePolicy) (e : Episode) : Bool :=
  match policy with
  | .none => false
  | .marked => e.origin == .sighted && e.report
  | .every => true

/-- EPISODE_CLOSED's fields (R14). -/
def State.closedNotice (s : State) (e : Episode) : Notice :=
  .episodeClosed { handle := s.handleOf e.slot, key := e.key, origin := e.origin, closeReason := e.closeReason,
                   expired := e.expired, damaged := e.damaged, rosterSize := e.roster.length, finished := e.finished,
                   unlisted := e.unlisted, arrived := e.arrived, released := e.released, trimmed := e.trimmed,
                   discarded := e.discarded }

/-- EPISODE_CLOSED is raised if the notice policy calls for it (R14). -/
def State.raiseClosed (s : State) (e : Episode) : State :=
  if closedNoticeCalled (s.policy e.key.group).notice e then s.raise (s.closedNotice e) else s

/-- An episode closes: its linger counter is loaded and EPISODE_CLOSED raised (R13, R14). -/
def State.closeEpisode (s : State) (slot : Nat) : State :=
  match s.ep? slot with
  | none => s
  | some e =>
    (s.updEp slot (fun x => { x with linger := some ⟨(s.policy e.key.group).linger, false⟩ })).raiseClosed e

/-- A LINGER episode that is not yet closed closes once it is empty (R13). -/
def State.closeIfEmpty (s : State) (slot : Nat) : State :=
  match s.ep? slot with
  | none => s
  | some e => if e.state == .linger && e.linger.isNone && e.isEmpty then s.closeEpisode slot else s

/-- A record on entering LINGER: the reason is recorded and its counters stop (R13, R26). -/
def Episode.toLinger (e : Episode) (reason : CloseReason) : Episode :=
  { e with state := .linger, closeReason := some reason, deadline := none, idle := none }

/-- A record on entering DRAINING: its deadline or idle counter is no longer present (R11, R12, R20). -/
def Episode.toDraining (e : Episode) : Episode := { e with state := .draining, deadline := none, idle := none }

/-- After cells of an episode were freed, or it entered DRAINING: an empty DRAINING episode goes to LINGER and closes, an
empty unclosed LINGER episode closes (R13, R27). -/
def State.afterEmptying (s : State) (slot : Nat) : State :=
  match s.ep? slot with
  | none => s
  | some e =>
    if e.state == .draining && e.isEmpty then
      (s.updEp slot (fun x => x.toLinger (if x.expired then .expired else .completed))).closeIfEmpty slot
    else s.closeIfEmpty slot

/-- Freeing a record: its roster entries return to the pool, its key leaves the map, its slot's generation advances (R15). -/
def State.freeEpisode (s : State) (slot : Nat) : State :=
  { s with table := { s.table with episodes := s.table.episodes.filter (fun e => !(e.slot == slot)),
                                   generations := vupd s.table.generations slot (· + 1) } }

/-- Grant withdrawal: every outstanding grant of the roster, without a strike (R17). -/
def Episode.withdrawAll (e : Episode) : Episode := { e with roster := e.roster.map Responder.withdraw }

/-- The charge of a packet leaves held-own or borrowed cells by its admission kind (R75). -/
def Episode.uncharge (e : Episode) (p : HeldPacket) : Episode :=
  match p.kind with
  | .own => { e with heldOwn := e.heldOwn - cellsOf p.length }
  | .borrowed => { e with borrowed := e.borrowed - cellsOf p.length }

/-- A packet is discarded after admission: uncharged and counted as discarded (R4). -/
def Episode.discard (e : Episode) (p : HeldPacket) : Episode :=
  { e.uncharge p with discarded := e.discarded.add p.length }

/-- The hold queue is discarded, oldest first (R17, R83). -/
def Episode.discardHeld (e : Episode) : Episode := { e.holdQueue.foldl Episode.discard e with holdQueue := [] }

/-- A teardown: grant withdrawal and UNPACE, and with `discards` the discard of the hold queue (R17). -/
def State.teardown (s : State) (slot : Nat) (discards : Bool) : State :=
  let s := (s.unpaceEpisode slot).updEp slot Episode.withdrawAll
  if discards then s.updEp slot Episode.discardHeld else s

/-- ABORT_EPISODE's effect on an episode in ARMED, ACTIVE or DRAINING (R26), also of a flush (R131). -/
def State.abortEpisode (s : State) (slot : Nat) : State :=
  ((s.updEp slot (fun e => e.toLinger .aborted)).teardown slot true).closeIfEmpty slot

/-- An episode completes: outstanding grants are withdrawn, and it goes to DRAINING, or to LINGER if empty (R11). -/
def State.completeEpisode (s : State) (slot : Nat) : State :=
  (s.updEp slot (fun e => e.withdrawAll.toDraining)).afterEmptying slot

/-- The completion test after the finished count rose (R11). -/
def State.testCompletion (s : State) (slot : Nat) : State :=
  match s.ep? slot with
  | none => s
  | some e =>
    if e.origin == .sighted && e.state == .active && e.n == some e.finished then s.completeEpisode slot else s

/-! ### Rates (R115 to R117) -/

/-- A pacer's pending rate applies and RATE_APPLIED is raised (R116, R117). -/
def State.applyRate (s : State) (g : Nat) : State :=
  match (s.pacer g).pending with
  | none => s
  | some r =>
    let p := (s.pacer g).applyRate r
    (s.updPacer g (fun _ => p)).raise
      (.rateApplied { port := g, rate := p.rate, burst := p.burst, apply := r.apply, continuity := r.continuity,
                      releaseCredit := p.releaseCredit, grantCredit := p.grantCredit, remainder := p.remainder })

/-- An episode of the drain group enters ACTIVE: a pending ON_NEXT_EPISODE rate applies (R115). -/
def State.applyNextEpisode (s : State) (g : Nat) : State :=
  match (s.pacer g).pending with
  | none => s
  | some r => if r.apply == .onNextEpisode then s.applyRate g else s

/-! ### Staging room (R150, R151) -/

/-- Room was reserved: at 147,456 bytes or more with the paused flag clear, the flag is set and PAUSE sent if UP (R151). -/
def State.pauseCheck (s : State) : State :=
  if !s.link.paused && decide (Config.pauseLevel ≤ s.stagingFill) then
    let s' := { s with link := { s.link with paused := true } }
    if s.linkUp then s'.emit .pause else s'
  else s

/-- Room was released: at 49,152 bytes or less with the paused flag set, the flag is cleared and RESUME sent if UP (R151). -/
def State.resumeCheck (s : State) : State :=
  if s.link.paused && decide (s.stagingFill ≤ Config.resumeLevel) then
    let s' := { s with link := { s.link with paused := false } }
    if s.linkUp then s'.emit .resume else s'
  else s

end Sys2Proof.Machine
end

