-- ==== Sys2Proof/Machine/Operands.lean ====
section
/-! DEFINITION. The operand forms: the command kinds and body lengths of Table 11-2, the fields of the bodies (R183), and the
descriptor fields a packet's key and pace header are read from (R32). -/

namespace Sys2Proof.Machine

/-! ### Command kinds (Table 11-2) -/

def kindIdentify : Byte := 0x01
def kindResetPart : Byte := 0x02
def kindSetPort : Byte := 0x03
def kindEnablePort : Byte := 0x04
def kindDisablePort : Byte := 0x05
def kindResumePort : Byte := 0x06
def kindPortStatus : Byte := 0x07
def kindSetRate : Byte := 0x08
def kindCommitRate : Byte := 0x09
def kindRateStatus : Byte := 0x0A
def kindListEpisodes : Byte := 0x0B
def kindEpisodeStatus : Byte := 0x0C
def kindHaltEpisode : Byte := 0x0D
def kindResumeEpisode : Byte := 0x0E
def kindAbortEpisode : Byte := 0x0F
def kindExtendDeadline : Byte := 0x10
def kindAddReservation : Byte := 0x11
def kindCapture : Byte := 0x12
def kindReadCounters : Byte := 0x13
def kindClearCounters : Byte := 0x14
def kindSetThreshold : Byte := 0x15
def kindStoreStatus : Byte := 0x16
def kindSetPool : Byte := 0x17
def kindLinkStatus : Byte := 0x18
def kindSetLinkParams : Byte := 0x19
def kindRelink : Byte := 0x1A

/-- The body length of a command kind, least and greatest; absent for a kind that is no command kind (Table 11-2, R183). -/
def bodyLength (kind : Byte) : Option (Nat × Nat) :=
  match kind.toNat with
  | 1 => some (0, 0)
  | 2 => some (0, 0)
  | 3 => some (19, 19)
  | 4 => some (1, 1)
  | 5 => some (2, 2)
  | 6 => some (1, 1)
  | 7 => some (1, 1)
  | 8 => some (11, 11)
  | 9 => some (0, 48)
  | 10 => some (1, 1)
  | 11 => some (3, 3)
  | 12 => some (2, 2)
  | 13 => some (2, 2)
  | 14 => some (2, 2)
  | 15 => some (2, 2)
  | 16 => some (3, 3)
  | 17 => some (4, 4)
  | 18 => some (2, 2)
  | 19 => some (1, 1)
  | 20 => some (1, 1)
  | 21 => some (1, 1)
  | 22 => some (0, 0)
  | 23 => some (3, 3)
  | 24 => some (0, 0)
  | 25 => some (6, 6)
  | 26 => some (0, 0)
  | _ => none

/-- The kinds performed whether or not the part is ready (R173, R175). -/
def allowedBeforeReady (kind : Byte) : Bool :=
  kind == kindIdentify || kind == kindLinkStatus || kind == kindSetLinkParams || kind == kindRelink

/-- The shared checks of a taken command, in their order: the status of the first that fails (R173). -/
def sharedCheck (ready : Bool) (f : Frame) : Option Status :=
  match bodyLength f.kind with
  | none => some .badKind
  | some (least, greatest) =>
    if f.body.length < least || greatest < f.body.length then some .badLength
    else if !ready && !allowedBeforeReady f.kind then some .notReady
    else none

/-! ### Body fields -/

/-- A handle: slot in bits 15 to 6, generation in bits 5 to 0 (11). -/
def handleAt (body : List Byte) (i : Nat) : Handle :=
  ⟨fieldAt body i 2 / 64, BitVec.ofNat 6 (fieldAt body i 2)⟩

/-- The 2-byte encoding of a handle (11). -/
def Handle.encode (h : Handle) : List Byte := toBe 2 (h.slot * 64 + h.gen.toNat)

/-- The port a body names at an offset. -/
def portAt (body : List Byte) (i : Nat) : Nat := (byteAt body i).toNat

/-- Whether a number lies in a range, both ends included. -/
def inRange (least greatest n : Nat) : Bool := decide (least ≤ n) && decide (n ≤ greatest)

/-- The policy record at an offset, absent if some field lies outside Table 6-2 or its code is not defined (Table 11-3, R183). -/
def policyAt (body : List Byte) (i : Nat) : Option Policy :=
  let byte (k : Nat) := (byteAt body (i + k)).toNat
  let half (k : Nat) := fieldAt body (i + k) 2
  if byte 0 ≤ 1 && inRange 256 9216 (half 1) && inRange 1 15 (byte 3) && inRange 1 64 (byte 4) &&
      inRange 16 16384 (half 5) && inRange 0 65535 (half 7) && inRange 1 255 (byte 9) && inRange 1 255 (byte 10) &&
      inRange 1 255 (byte 11) && inRange 1 255 (byte 12) && byte 13 ≤ 1 && byte 14 ≤ 2 && byte 15 ≤ 1 && byte 16 ≤ 1 &&
      byte 17 ≤ 63 then
    some { bond := if byte 0 = 1 then .pair else .none, mtu := half 1, allowance := byte 3, grantSize := byte 4,
           reservation := half 5, borrowCap := half 7, deadline := byte 9, grantTimeout := byte 10, linger := byte 11,
           idle := byte 12, expiry := if byte 13 = 1 then .discard else .drain,
           notice := if byte 14 = 0 then .none else if byte 14 = 1 then .marked else .every,
           adopt := byte 15 == 1, mode := if byte 16 = 1 then .wrap else .hold, protect := BitVec.ofNat 6 (byte 17) }
  else none

/-- The 18 bytes of a policy record (Table 11-3). -/
def Policy.encode (p : Policy) : List Byte :=
  toBe 1 (match p.bond with | .none => 0 | .pair => 1) ++ toBe 2 p.mtu ++ toBe 1 p.allowance ++ toBe 1 p.grantSize ++
    toBe 2 p.reservation ++ toBe 2 p.borrowCap ++ toBe 1 p.deadline ++ toBe 1 p.grantTimeout ++ toBe 1 p.linger ++
    toBe 1 p.idle ++ toBe 1 (match p.expiry with | .drain => 0 | .discard => 1) ++
    toBe 1 (match p.notice with | .none => 0 | .marked => 1 | .every => 2) ++ toBe 1 (if p.adopt then 1 else 0) ++
    toBe 1 (match p.mode with | .hold => 0 | .wrap => 1) ++ toBe 1 p.protect.toNat

/-- SET_RATE's X, A and B from byte 1 on, absent outside their ranges (R112). -/
def rateAt (body : List Byte) : Option Rate :=
  let r : Rate := ⟨(byteAt body 1).toNat, fieldAt body 2 2, fieldAt body 4 2⟩
  if 1 ≤ r.b && decide (r.a < r.b) then some r else none

/-- SET_RATE's apply mode (Table 11-2, kind 08h). -/
def applyAt (body : List Byte) (i : Nat) : Option ApplyMode :=
  match (byteAt body i).toNat with
  | 0 => some .now
  | 1 => some .onCommit
  | 2 => some .onNextEpisode
  | _ => none

/-- SET_RATE's continuity (Table 11-2, kind 08h). -/
def continuityAt (body : List Byte) (i : Nat) : Option Continuity :=
  match (byteAt body i).toNat with
  | 0 => some .keep
  | 1 => some .reset
  | _ => none

/-- The link parameters of SET_LINK_PARAMS, absent outside their ranges (R156). -/
def linkParamsAt (body : List Byte) : Option LinkParams :=
  let p : LinkParams := ⟨fieldAt body 0 2, (byteAt body 2).toNat, (byteAt body 3).toNat, fieldAt body 4 2⟩
  if p.laneCount == 4 && inRange 1 48 p.portCount && inRange 64 9216 p.maxLength then some p else none

/-- A list without the later copies of what it holds twice (R183: a port named twice is taken once). -/
def firstOnes : List Nat → List Nat
  | [] => []
  | x :: rest => x :: (firstOnes rest).filter (fun y => y != x)

/-- The checks that begin every command naming a drain group's port: the range, then the odd member of a pair (R125). -/
def State.portRefusal (s : State) (p : Nat) : Option Status :=
  if Config.portCount ≤ p then some .badValue
  else if (s.port p).role == .pairOdd then some .wrongPort
  else none

/-! ### Packets (R32, R185) -/

/-- A PACKET descriptor has a pace header when bit 0 of its flags is set (Table 11-7). -/
def Descriptor.hasHeader (d : Descriptor) : Bool := d.flags.getLsbD 0

/-- The episode tag that classifies the packet: 0 without a header (R32). -/
def Descriptor.paceTag (d : Descriptor) : Half := if d.hasHeader then d.tag else 0

/-- Whether the packet is tagged (R32). -/
def Descriptor.tagged (d : Descriptor) : Bool := d.paceTag != 0

/-- The packet's grant number: 0 for an untagged packet (R32). -/
def Descriptor.grantNumber (d : Descriptor) : Half := if d.tagged then d.grant else 0

/-- The packet's last flag: clear for an untagged packet (R32). -/
def Descriptor.lastFlag (d : Descriptor) : Bool := d.tagged && d.flags.getLsbD 1

end Sys2Proof.Machine
end

