-- ==== Sys2Proof/Machine/Arrivals.lean ====
section
/-! DEFINITION. The Arrival Classifier and the rosters: sightings (R5 to R8), adoption (R9), the judgement and admission of
diverted packets (02), arrivals after completion (R23, R24), port faults (R134). -/

namespace Sys2Proof.Machine

/-! ### Creation of episodes -/

/-- A new record, its fields as R3 fills them whatever the origin. -/
def newEpisode (slot : Nat) (key : Key) (origin : Origin) (state : EpState) : Episode :=
  { slot := slot, key := key, origin := origin, state := state, halted := false, expired := false, damaged := false,
    closeReason := none, cls := 3, report := false, n := none, e := none, reservation := 0, heldOwn := 0, borrowed := 0,
    holdQueue := [], inFlight := false, roster := [], rosterCursor := none, unlisted := ⟨0, 0⟩, finished := 0,
    deadline := none, idle := none, linger := none, arrived := ⟨0, 0⟩, released := ⟨0, 0⟩, trimmed := ⟨0, 0⟩,
    discarded := ⟨0, 0⟩ }

/-- A record takes its slot, its key enters the key map and the refusing mark is cleared (R6, R7, R9). -/
def State.placeEpisode (s : State) (e : Episode) : State :=
  { s with table := { s.table with episodes := insertEpisode e s.table.episodes, refusing := false } }

/-- A sighting's announcement (R31). -/
structure Announcement where
  key : Key
  n : Nat
  e : Option Nat
  cls : Nat
  report : Bool
  deriving DecidableEq, Repr

/-- A refused sighting sets the refusing mark, with TABLE_FULL if it was clear (R7). -/
def State.refuseSighting (s : State) (cause : FullCause) : State :=
  if s.table.refusing then s
  else { s with table := { s.table with refusing := true } }.raise (.tableFull cause)

/-- The claim of a sighting: the policy's reservation, else the whole claimable room if it is at least 16 cells (R6). -/
def State.claim? (s : State) (g : Nat) : Option Nat :=
  let room := s.claimableRoom
  if (s.policy g).reservation ≤ room then some (s.policy g).reservation
  else if Config.leastClaim ≤ room then some room
  else none

/-- A taken sighting whose key is absent (R6, R7). -/
def State.createSighted (s : State) (a : Announcement) : State :=
  match s.freeSlot? with
  | none => s.refuseSighting .table
  | some slot =>
    match s.claim? a.key.group with
    | none => s.refuseSighting .store
    | some r =>
      s.placeEpisode { newEpisode slot a.key .sighted .armed with
        cls := a.cls, report := a.report, n := some a.n, e := a.e, reservation := r,
        deadline := some ⟨(s.policy a.key.group).deadline, (s.policy a.key.group).deadline, false⟩ }

/-- One more ignored sighting (R5, R8, R148). -/
def State.ignoreSighting (s : State) : State :=
  { s with link := { s.link with ignoredSightings := sat32 (s.link.ignoredSightings + 1) } }

/-- A taken sighting whose key is present (R8). -/
def State.sightAgain (s : State) (a : Announcement) (e : Episode) : State :=
  if e.isOpen then s.ignoreSighting
  else ((if e.linger.isNone then s.closeEpisode e.slot else s).freeEpisode e.slot).createSighted a

/-- A sighting at the Episode Table (R5). -/
def State.takeSighting (s : State) (a : Announcement) : State :=
  if (s.port a.key.group).state == .active && a.key.tag != 0 && inRange 1 64 a.n then
    match s.lookup a.key with
    | none => s.createSighted a
    | some e => s.sightAgain a e
  else s.ignoreSighting

/-! ### Holding, borrowing and trimming (R40, R42, R49, R50) -/

/-- A complete diverted packet with the drain group it is filed under (R32). -/
structure Arrival where
  desc : Descriptor
  data : List Byte
  group : Nat
  deriving DecidableEq, Repr

/-- The key a packet is looked up by (R32). -/
def Arrival.key (a : Arrival) : Key := ⟨a.group, a.desc.dest, a.desc.paceTag⟩

/-- The packet joins the write list's tail, its record's values fixed at admission (R74, R79). -/
def State.joinWriteList (s : State) (e : Episode) (a : Arrival) (kind : HoldKind) : State :=
  { s with store := { s.store with writeList := s.store.writeList ++
      [{ handle := s.handleOf e.slot, responder := a.desc.src, length := a.desc.length, cls := e.cls, kind := kind,
         data := a.data, chain := [] }] } }

/-- Own admission: held-own cells rise by cells(L) (R42). -/
def State.holdOwn (s : State) (slot : Nat) (a : Arrival) : State :=
  match s.ep? slot with
  | none => s
  | some e =>
    (s.updEp slot (fun x => { x with heldOwn := x.heldOwn + cellsOf a.desc.length })).joinWriteList e a .own

/-- The loss stub joins the stub queue if it has room (R50). -/
def State.makeStub (s : State) (e : Episode) (a : Arrival) : State :=
  if s.link.stubs.length < Config.stubPlaces then
    { s with link := { s.link with stubs := s.link.stubs ++
        [⟨e.key.requester, a.desc.src, e.key.tag, a.desc.grantNumber, a.desc.length⟩] } }
  else s

/-- A packet is trimmed: its payload is dropped from staging, it is counted, and a loss stub is made (R50). A listed sender's
trim counts TRIM. -/
def State.trim (s : State) (slot : Nat) (a : Arrival) (listed : Bool) : State :=
  match s.ep? slot with
  | none => s
  | some e =>
    let s := (s.updEp slot (fun x => { x with trimmed := x.trimmed.add a.desc.length })).resumeCheck
    let s := if listed then s.count e.key.group .trim else s
    s.makeStub e a

/-- Borrow-or-trim (R49). -/
def State.borrowOrTrim (s : State) (slot : Nat) (a : Arrival) (listed : Bool) : State :=
  match s.ep? slot with
  | none => s
  | some e =>
    let c := cellsOf a.desc.length
    if e.borrowed + c ≤ (s.policy e.key.group).borrowCap && decide (s.sumR + s.sumB + c ≤ Config.cellCount) then
      (s.updEp slot (fun x => { x with borrowed := x.borrowed + c })).joinWriteList e a .borrowed
    else s.trim slot a listed

/-! ### Rosters (R35 to R39, R48) -/

/-- A responder as it is entered into a SIGHTED episode's roster (R38). -/
def newResponder (endpoint : Endpoint) (allowance : Nat) : Responder :=
  { endpoint := endpoint, state := .opening, allowance := allowance, grants := [], nextNumber := 1, strikes := 0,
    unpaced := false, packetsArrived := 0 }

/-- The entry of a source endpoint (R36). -/
def Episode.find? (e : Episode) (src : Endpoint) : Option Responder := e.roster.find? (fun r => r.endpoint == src)

/-- An episode's record with the entry of one endpoint changed. -/
def Episode.updResponder (e : Episode) (src : Endpoint) (f : Responder → Responder) : Episode :=
  { e with roster := e.roster.map (fun r => if r.endpoint == src then f r else r) }

/-- The roster's limit: N for a SIGHTED episode, 64 for an ADOPTED one (R36). -/
def Episode.rosterLimit (e : Episode) : Nat :=
  match e.origin with
  | .sighted => e.n.getD 0
  | .adopted => 64

/-- The responder of an arriving packet is found or entered; absent, it is unlisted (R38, R39, R48). A responder entered into
a SIGHTED episode while the port is in DRAIN_OUT or FAULTED has its UNPACE produced at once (R34, R38). -/
def State.enter (s : State) (slot : Nat) (a : Arrival) : State :=
  match s.ep? slot with
  | none => s
  | some e =>
    if (e.find? a.desc.src).isSome then s
    else if e.roster.length < e.rosterLimit && decide (0 < s.freeEntries) then
      let r := match e.origin with
        | .sighted => newResponder a.desc.src (s.policy e.key.group).allowance
        | .adopted => { newResponder a.desc.src 0 with state := .waiting }
      let s' := s.updEp slot (fun x => { x with roster := x.roster ++ [r] })
      let portState := (s.port e.key.group).state
      if e.origin == .sighted && (portState == .drainOut || portState == .faulted) then
        { s'.updEp slot (fun x => x.updResponder a.desc.src Responder.unpace) with
            sched := s'.sched.join (unpaceFrame e r) }
      else s'
    else s

/-- Whether the packet's sender has an entry. -/
def State.listed (s : State) (slot : Nat) (a : Arrival) : Bool :=
  match s.ep? slot with
  | none => false
  | some e => (e.find? a.desc.src).isSome

/-- The sender's figures for an arrival: packets-arrived for a listed sender, else the unlisted counts (R23, R39, R40). -/
def Episode.noteSender (e : Episode) (a : Arrival) : Episode :=
  if (e.find? a.desc.src).isSome then
    e.updResponder a.desc.src (fun r => { r with packetsArrived := sat32 (r.packetsArrived + 1) })
  else { e with unlisted := e.unlisted.addUnlisted a.desc.length }

/-! ### The judgement (R41 to R47) -/

/-- An opening packet lowers the allowance left by 1; at 0 an OPENING responder becomes WAITING (R43). -/
def Responder.useAllowance (r : Responder) : Responder :=
  { r with allowance := r.allowance - 1,
           state := if r.allowance - 1 = 0 && r.state == .opening then .waiting else r.state }

/-- A grant-cited packet uses one packet of its grant and reloads the timer; a used-up grant is removed (R45). -/
def Responder.useGrant (r : Responder) (number timeout : Nat) : Responder :=
  let used := r.grants.map (fun g =>
    if g.number == number then { g with remaining := g.remaining - 1, timer := timeout, due := false } else g)
  { r with grants := used.filter (fun g => !(g.number == number && g.remaining == 0)) }.followGrants

/-- A responder becomes FINISHED or RETIRED: its outstanding grants are withdrawn (R47, R54). -/
def Responder.finish (r : Responder) (state : RespState) : Responder := { r with state := state, grants := [] }

/-- The judgement's events and admission for a listed responder's packet (R41 to R46, fourth and fifth steps of R40). -/
def State.judgeAndHold (s : State) (slot : Nat) (a : Arrival) (r : Responder) : State :=
  let pol := s.policy a.group
  match judge r pol.mtu a.desc.length a.desc.grantNumber.toNat with
  | .overrun => (s.count a.group .overrun).borrowOrTrim slot a true
  | .overAllowance => (s.count a.group .overrun).borrowOrTrim slot a true
  | .stray => (s.count a.group .stray).borrowOrTrim slot a true
  | .unpaced => s.borrowOrTrim slot a true
  | .cited number =>
    (s.updEp slot (fun x => x.updResponder r.endpoint (fun y => y.useGrant number pol.grantTimeout))).holdOwn slot a
  | .opening =>
    let s := s.updEp slot (fun x => x.updResponder r.endpoint Responder.useAllowance)
    match s.ep? slot with
    | none => s
    | some e => if fitsOwn e (s.k a.group) a.desc.length then s.holdOwn slot a else s.borrowOrTrim slot a true

/-- The last flag of a packet whose responder was neither FINISHED nor RETIRED at judgement (R47). -/
def State.applyLast (s : State) (slot : Nat) (a : Arrival) (r : Responder) : State :=
  if a.desc.lastFlag && !r.isFinal then
    s.updEp slot (fun x => { x.updResponder r.endpoint (fun y => y.finish .finished) with finished := x.finished + 1 })
  else s

/-- A packet of a SIGHTED episode in ARMED or ACTIVE, in the order of R40 (and R39 for an unlisted sender). -/
def State.arriveSighted (s : State) (slot : Nat) (a : Arrival) : State :=
  let armed := (s.ep? slot).any (fun e => e.state == .armed)
  let s := if armed then
      (s.updEp slot (fun x => { x with state := .active })).applyNextEpisode a.group
    else s
  let s := s.enter slot a
  let s := s.updEp slot (fun x => { x.noteSender a with arrived := x.arrived.add a.desc.length })
  match (s.ep? slot).bind (fun e => e.find? a.desc.src) with
  | none => s.borrowOrTrim slot a false
  | some r => ((s.judgeAndHold slot a r).applyLast slot a r).testCompletion slot

/-- A packet of an ADOPTED ACTIVE episode (R12, R48). -/
def State.arriveAdopted (s : State) (slot : Nat) (a : Arrival) : State :=
  let s := s.enter slot a
  let s := s.updEp slot (fun x =>
    { x.noteSender a with arrived := x.arrived.add a.desc.length, idle := some ⟨(s.policy a.group).idle, false⟩ })
  s.borrowOrTrim slot a (s.listed slot a)

/-- A packet of a DRAINING episode: LATE, and borrow-or-trim without judgement (R23). -/
def State.arriveDraining (s : State) (slot : Nat) (a : Arrival) : State :=
  let s := s.count a.group .late
  let s := s.updEp slot (fun x => { x.noteSender a with arrived := x.arrived.add a.desc.length })
  s.borrowOrTrim slot a (s.listed slot a)

/-- A packet is passed through: it joins the pass-through list and keeps its staging room (R152). -/
def State.passThrough (s : State) (a : Arrival) : State :=
  { s with link := { s.link with passList := s.link.passList ++ [⟨a.desc, a.data⟩] } }

/-- A complete packet for an absent key (R9). -/
def State.arriveUnmatched (s : State) (a : Arrival) : State :=
  if (s.port a.group).state == .active && (s.policy a.group).adopt then
    match s.freeSlot? with
    | none => s.passThrough a
    | some slot =>
      let e := { newEpisode slot a.key .adopted .active with idle := some ⟨(s.policy a.group).idle, false⟩ }
      ((s.placeEpisode e).applyNextEpisode a.group).arriveAdopted slot a
  else s.passThrough a

/-- A complete packet for an episode's key, by the episode's state and origin (R32). -/
def State.arriveMatched (s : State) (e : Episode) (a : Arrival) : State :=
  match e.state with
  | .draining => s.arriveDraining e.slot a
  | .linger => (s.count a.group .late).passThrough a
  | .armed => s.arriveSighted e.slot a
  | .active =>
    match e.origin with
    | .sighted => s.arriveSighted e.slot a
    | .adopted => s.arriveAdopted e.slot a

/-- A port fault: a packet for a member not expecting diverts is passed through and the group goes to FAULTED (R134). -/
def State.portFault (s : State) (a : Arrival) : State :=
  let g := a.group
  let before := (s.port g).state
  let s := s.passThrough a
  let s := s.updPort g (fun p =>
    { p with state := .faulted, clearing := .awaitingStatus,
             fault := some ⟨before, a.desc.port, a.desc.src, a.desc.dest, a.desc.length⟩ })
  let s := (s.updMembers g (fun p => { p with stoppedSeen := false })).handStop g
  let s := s.raisePortState g .fault
  if before == .faulted then s else s.unpaceGroup g

/-- The dispatch of a complete diverted packet: one arrival event (R32, R129). -/
def State.arrive (s : State) (desc : Descriptor) (data : List Byte) : State :=
  let a : Arrival := ⟨desc, data, s.groupOf desc.port⟩
  if s.expecting desc.port then
    match s.lookup a.key with
    | none => s.arriveUnmatched a
    | some e => s.arriveMatched e a
  else s.portFault a

end Sys2Proof.Machine
end

