-- ==== Sys2Proof/Machine/Grants.lean ====
section
/-! DEFINITION. The Grant Scheduler (03) and the life of an outstanding grant (02, section 2.6). -/

namespace Sys2Proof.Machine

/-- What a decision grants: the episode's slot, the responder's place in the roster from 0, the size g′. -/
structure Candidate where
  slot : Nat
  position : Nat
  size : Nat
  deriving DecidableEq, Repr

/-- Whether the scheduler considers an episode (R59). -/
def Episode.grantable (e : Episode) : Bool := e.origin == .sighted && e.state == .active && !e.halted

/-- A responder as a candidate of its episode: R60, a size of at least 1 (R61), the reservation check (R62). -/
def candidateAt (e : Episode) (k policySize position : Nat) (r : Responder) : Option Candidate :=
  let size := grantSizeFor policySize e.e r
  if r.eligible && decide (1 ≤ size) && passesReservation e k size then some ⟨e.slot, position, size⟩ else none

/-- The episode's first candidate in roster order after its roster cursor (R65). -/
def Episode.candidate? (e : Episode) (k policySize : Nat) : Option Candidate :=
  (ringAfter (fun p : Responder × Nat => p.2) e.rosterCursor e.roster.zipIdx).findSome?
    (fun p => candidateAt e k policySize p.2 p.1)

/-- A drain group's class cursor (R64). -/
def State.classCursor (s : State) (g cls : Nat) : Option Nat :=
  vget (vget s.sched.classCursors g (Vector.replicate 4 none)) cls none

/-- The first candidate of one class, in slot order after the class cursor (R64). -/
def State.classCandidate? (s : State) (g cls : Nat) : Option Candidate :=
  (ringAfter (fun e : Episode => e.slot) (s.classCursor g cls)
    ((s.groupEpisodes g).filter (fun e => e.grantable && e.cls == cls))).findSome?
      (fun e => e.candidate? (s.k g) (s.policy g).grantSize)

/-- The conditions of a decision other than the candidate: port ACTIVE, grant credit above 0, UNPACE backlog empty, a place in
the grant frame queue (R58). -/
def State.mayGrant (s : State) (g : Nat) : Bool :=
  (s.port g).state == .active && decide (0 < (s.pacer g).grantCredit) && s.sched.backlog.isEmpty &&
    decide (s.sched.queue.length < Config.grantQueuePlaces)

/-- The candidate of a decision for a drain group, if a decision is taken for it: the lowest-numbered class that holds one
(R58, R64). -/
def State.decision? (s : State) (g : Nat) : Option Candidate :=
  if s.mayGrant g then (List.range 4).findSome? (fun cls => s.classCandidate? g cls) else none

/-- A responder's entry when a grant is recorded (R51). -/
def Responder.recordGrant (r : Responder) (size timeout : Nat) : Responder :=
  { r with grants := r.grants ++ [⟨r.nextNumber, size, timeout, false⟩], state := .granted,
           nextNumber := if r.nextNumber = 65535 then 1 else r.nextNumber + 1 }

/-- An episode's record when a grant is made to the responder at a place of its roster (R65, R66). -/
def Episode.recordGrant (e : Episode) (position size timeout : Nat) : Episode :=
  { e with rosterCursor := some position, roster := e.roster.modify position (fun r => r.recordGrant size timeout) }

/-- The GRANT frame of a grant: the responder's number before it advances (R33, R66). -/
def grantFrame (e : Episode) (r : Responder) (size : Nat) : GrantFrame :=
  ⟨r.endpoint, e.key.requester, e.key.tag, r.nextNumber, size⟩

/-- A grant made by a decision (R66). -/
def State.makeGrant (s : State) (g : Nat) (c : Candidate) : State :=
  match s.ep? c.slot with
  | none => s
  | some e =>
    match e.roster[c.position]? with
    | none => s
    | some r =>
      let pol := s.policy g
      let s := s.updEp c.slot (fun x => x.recordGrant c.position c.size pol.grantTimeout)
      let s := s.updPacer g (fun p => { p with grantCredit := p.grantCredit - (c.size * pol.mtu : Nat) })
      { s with sched := { s.sched with
          queue := s.sched.queue ++ [grantFrame e r c.size],
          classCursors := vupd s.sched.classCursors g (fun v => vupd v e.cls (fun _ => some c.slot)) } }

/-- The drain groups for which a decision is ready, with their candidates. -/
def State.readyDecisions (s : State) : List (Nat × Candidate) :=
  s.groups.filterMap (fun g => (s.decision? g).map (fun c => (g, c)))

/-- One decision. When several drain groups have one ready, the manual lets any be taken first (R58): a free value decides
(log entry 8). -/
def State.oneDecision (s : State) : State :=
  match s.readyDecisions with
  | [] => s
  | [(g, c)] => s.makeGrant g c
  | first :: rest =>
    let all := first :: rest
    let d := all.getD (Config.choice s.choices % all.length) first
    { s with choices := s.choices + 1 }.makeGrant d.1 d.2

/-- Decisions until none is ready; each adds a frame to the queue, so 512 are enough (R58). -/
def State.decisions : Nat → State → State
  | 0, s => s
  | fuel + 1, s => if s.readyDecisions.isEmpty then s else State.decisions fuel s.oneDecision

/-! ### Grant timers (R52 to R54) -/

/-- A grant at a grant tick: it counts down, and a tick that would bring it to 0 leaves its expiry due (R52, log entry 5). -/
def Grant.tick (g : Grant) : Grant := if g.timer ≤ 1 then { g with due := true } else { g with timer := g.timer - 1 }

/-- Every outstanding grant at a grant tick (R52, R103). -/
def Episode.grantTick (e : Episode) : Episode :=
  { e with roster := e.roster.map (fun r => { r with grants := r.grants.map Grant.tick }) }

/-- A responder whose grant's timer expired: the grant is removed with a strike (R53). -/
def Responder.strike (r : Responder) (number : Nat) : Responder :=
  { r with grants := r.grants.filter (fun g => !(g.number == number)), strikes := r.strikes + 1 }.followGrants

/-- The third strike retires the responder: RETIRE, and the finished count rises (R54). -/
def State.retire (s : State) (slot position : Nat) (e : Episode) : State :=
  let s := s.updEp slot (fun x => { x with roster := x.roster.modify position (fun r => r.finish .retired) })
  let s := s.count e.key.group .retire
  (s.updEp slot (fun x => { x with finished := x.finished + 1 })).testCompletion slot

/-- A grant timer expiry, if one is due for the grant number of the responder at that place (R53, R54). -/
def State.expireGrant (s : State) (slot position number : Nat) : State :=
  match s.ep? slot with
  | none => s
  | some e =>
    match e.roster[position]? with
    | none => s
    | some r =>
      if r.grants.any (fun g => g.number == number && g.due) then
        let s := s.updEp slot (fun x => { x with roster := x.roster.modify position (fun r => r.strike number) })
        if r.strikes + 1 = 3 then s.retire slot position e else s
      else s

end Sys2Proof.Machine
end

