-- ==== Sys2Proof/Machine/Transfers.lean ====
section
/-! DEFINITION. The Release Engine and the pacers' release decisions (R88, R107, R108), the store arbiter and the three kinds
of transfer (04). -/

namespace Sys2Proof.Machine

/-! ### Beginning a release (R107, R108) -/

/-- The drain group's release in flight: that of its port, for a bonded pair of the even port. The manual does not say whether
an orphaned release (R89) that was begun for the odd port before the bond was formed counts as the pair's; here it does not
(log entry 16). -/
def State.release? (s : State) (g : Nat) : Option Release := vget s.store.releases g none

/-- The state with a drain group's release in flight written. -/
def State.setRelease (s : State) (g : Nat) (r : Option Release) : State :=
  { s with store := { s.store with releases := vupd s.store.releases g (fun _ => r) } }

/-- Whether an episode has a packet to release (R107). -/
def Episode.releasable (e : Episode) : Bool :=
  (e.state == .active || e.state == .draining) && !e.halted && !e.holdQueue.isEmpty

/-- The conditions of a release other than the episode (R107). -/
def State.mayRelease (s : State) (g : Nat) : Bool :=
  decide (0 < (s.pacer g).releaseCredit) && s.gateOpen g && !(s.port g).suspended && s.linkUp && (s.release? g).isNone

/-- The episode a release decision chooses: the lowest-numbered class that holds one, in slot order after its release cursor
(R108). -/
def State.releaseChoice? (s : State) (g : Nat) : Option Episode :=
  if s.mayRelease g then
    (List.range 4).findSome? (fun cls =>
      (ringAfter (fun e : Episode => e.slot) (vget (s.pacer g).cursors cls none)
        ((s.groupEpisodes g).filter (fun e => e.releasable && e.cls == cls))).head?)
  else none

/-- A release decision for a drain group, if its conditions hold: one event at pacer, episode and Release Engine (R88, R107). -/
def State.beginRelease (s : State) (g : Nat) : State :=
  match s.releaseChoice? g with
  | none => s
  | some e =>
    match e.holdQueue with
    | [] => s
    | head :: _ =>
      let s := s.updEp e.slot (fun x => { x with holdQueue := x.holdQueue.drop 1, inFlight := true })
      let s := s.updPacer g (fun p => { p with releaseCredit := p.releaseCredit - (head.length : Nat),
                                               cursors := vupd p.cursors e.cls (fun _ => some e.slot) })
      s.setRelease g (some ⟨head, false⟩)

/-- The release decisions of all drain groups; they touch different state and need no order (R107). -/
def State.beginReleases (s : State) : State := s.groups.foldl State.beginRelease s

/-! ### The store arbiter (R84 to R87) -/

/-- Whether the DRAM serves nobody. -/
def State.dramIdle (s : State) : Bool := s.store.transfer == .none

/-- The arrival writer waits: a packet at the write list's head whose cells are free (R80). -/
def State.writerWaits (s : State) : Bool :=
  match s.store.writeList with
  | [] => false
  | p :: _ => !s.store.initialising && decide (cellsOf p.length ≤ s.freeCells)

/-- The drain groups with a release begun whose read is not granted (R86). -/
def State.releasesWaiting (s : State) : List Nat :=
  (List.range Config.portCount).filter (fun g => (s.release? g).any (fun r => !r.granted))

/-- The reader presents the first such drain group after its group cursor, while the released-packet queue has a place (R86). -/
def State.readerGroup? (s : State) : Option Nat :=
  if s.store.released.length < Config.releasedPlaces && !s.store.initialising then
    (ringAfter (fun g : Nat => g) s.store.groupCursor s.releasesWaiting).head?
  else none

/-- The CAPTURE the capture reader waits for (R87). -/
def State.captureWaiting? (s : State) : Option (Byte × Handle) :=
  match s.mgmt.engine with
  | .capturing tag h => some (tag, h)
  | .idle => none
  | .resetting => none

/-- The store arbiter's requesters. -/
inductive Requester where
  | writer | reader | capture
  deriving DecidableEq, Repr

/-- The arbiter's choice by the cases of R85. -/
def arbiterChoice (writer reader capture : Bool) (passCount fill : Nat) (last : Option Served) : Option Requester :=
  if capture && passCount == 16 then some .capture
  else if writer && decide (Config.writerFirstLevel ≤ fill) then some .writer
  else if writer && reader then (if last == some .writer then some .reader else some .writer)
  else if writer then some .writer
  else if reader then some .reader
  else if capture then some .capture
  else none

/-- The requesters that wait. -/
def State.requesters (s : State) : List Requester :=
  (if s.writerWaits then [.writer] else []) ++ (if s.readerGroup?.isSome then [.reader] else []) ++
    (if s.captureWaiting?.isSome then [.capture] else [])

/-- The chain of a packet: free cells from the first free one at or after a place that a free value names (R73, log entry 10). -/
def pickCells (used : List Nat) (count start : Nat) : List Nat :=
  (((List.range (used.length + count)).map (fun i => (start + i) % Config.cellCount)).filter
    (fun c => !used.contains c)).take count

/-- A grant to another requester while the capture reader waits raises the pass count (R85). -/
def State.notePass (s : State) : Nat :=
  if s.captureWaiting?.isSome then min 16 (s.store.passCount + 1) else s.store.passCount

/-- A store write is granted: the head leaves the write list and its cells are chained (R80). -/
def State.grantWrite (s : State) : State :=
  match s.store.writeList with
  | [] => s
  | p :: rest =>
    let chain := pickCells s.usedCells (cellsOf p.length) (Config.firstCell s.choices)
    { s with choices := s.choices + 1,
             store := { s.store with writeList := rest, transfer := .write { p with chain := chain },
                                     lastServed := some .writer, passCount := s.notePass } }

/-- A release read is granted, and a place of the released-packet queue reserved (R86). -/
def State.grantRead (s : State) : State :=
  match s.readerGroup? with
  | none => s
  | some g =>
    let s' := s.setRelease g ((s.release? g).map (fun r => { r with granted := true }))
    { s' with store := { s'.store with transfer := .release g, groupCursor := some g, lastServed := some .reader,
                                       passCount := s.notePass } }

/-- The engine answers the CAPTURE it holds and releases the command (R95, R96). -/
def State.answerCapture (s : State) (tag : Byte) (status : Status) (body : ReplyBody) : State :=
  { s with mgmt := { s.mgmt with engine := .idle, replies := s.mgmt.replies ++ [⟨tag, kindCapture, status, body⟩] } }

/-- The capture reader is granted: answered at once if the handle is stale or the hold queue empty, else the head packet is
read as it stands (R96, R97). -/
def State.grantCapture (s : State) : State :=
  match s.captureWaiting? with
  | none => s
  | some (tag, h) =>
    let s := { s with store := { s.store with passCount := 0 } }
    match s.live? h with
    | none => s.answerCapture tag .staleHandle .nothing
    | some e =>
      match e.holdQueue with
      | [] => s.answerCapture tag .empty .nothing
      | head :: _ => { s with store := { s.store with transfer := .capture ⟨head, e.holdQueue.length⟩ } }

/-- A grant to a requester. -/
def State.grantDram (s : State) : Requester → State
  | .writer => s.grantWrite
  | .reader => s.grantRead
  | .capture => s.grantCapture

/-- The arbiter's choice as things stand (R85). -/
def State.arbiterPick (s : State) : Option Requester :=
  arbiterChoice s.writerWaits s.readerGroup?.isSome s.captureWaiting?.isSome s.store.passCount s.stagingFill s.store.lastServed

/-- The DRAM is handed out by R85 until a transfer runs or nobody waits; only a capture that is answered at its grant leaves
it free, and there is one capture at a time (R87). -/
def State.arbitrate : Nat → State → State
  | 0, s => s
  | fuel + 1, s =>
    if s.dramIdle then
      match s.arbiterPick with
      | none => s
      | some r => State.arbitrate fuel (s.grantDram r)
    else s

/-- The store arbiter at the end of an event. When two requesters have come to wait together at a DRAM that was idle before
the event, either may be taken first: a free value decides (R84, log entry 9). -/
def State.storeArbiter (s : State) (wasIdle : Bool) : State :=
  let waiting := s.requesters
  if s.dramIdle && wasIdle && decide (2 ≤ waiting.length) then
    let r := waiting.getD (Config.choice s.choices % waiting.length) .writer
    ({ s with choices := s.choices + 1 }.grantDram r).arbitrate 2
  else s.arbitrate 2

/-! ### Completions (R81, R89, R93, R96) -/

/-- A store write completes: the packet joins its hold queue, or is discarded, or is orphaned (R81). -/
def State.finishWrite (s : State) : State :=
  match s.store.transfer with
  | .none => s
  | .release _ => s
  | .capture _ => s
  | .write p =>
    let s := { s with store := { s.store with transfer := .none } }.resumeCheck
    match s.live? p.handle with
    | none => s
    | some e =>
      if e.isOpen then s.updEp e.slot (fun x => { x with holdQueue := x.holdQueue ++ [p] })
      else (s.updEp e.slot (fun x => x.discard p)).closeIfEmpty e.slot

/-- An uncorrectable release read suspends the port's drain group, with PORT_STATE if it was not suspended (R93, R94). An
orphaned release may outlive a change of bond, and no rule says whose group is then suspended: the model takes the group that
the port belongs to now (DESIGN CHOICE, log entry 38). -/
def State.suspend (s : State) (port : Nat) : State :=
  let g := s.groupOf port
  if (s.port g).suspended then s
  else (s.updPort g (fun p => { p with suspended := true })).raisePortState g .store

/-- A released packet fills its place in the released-packet queue (R89, R90). -/
def State.joinReleased (s : State) (g : Nat) (e : Episode) (p : HeldPacket) : State :=
  { s with store := { s.store with released := s.store.released ++
      [⟨g, e.key.requester, p.responder, p.length, p.data⟩] } }

/-- A release read of a drain group completes: the cases of R89, with R93. -/
def State.finishRelease (s : State) (g : Nat) (p : HeldPacket) (uncorrectable : Bool) : State :=
  let s := { s.setRelease g none with store := { (s.setRelease g none).store with transfer := .none } }
  match s.live? p.handle with
  | none => if uncorrectable then s.suspend g else s
  | some e =>
    let s := s.updEp e.slot (fun x => { x with inFlight := false })
    let s :=
      if uncorrectable then
        (s.updEp e.slot (fun x => { x.discard p with damaged := true })).suspend g
      else if (e.state == .active || e.state == .draining) && s.linkUp then
        (s.updEp e.slot (fun x => { x.uncharge p with released := x.released.add p.length })).joinReleased g e p
      else s.updEp e.slot (fun x => x.discard p)
    s.afterEmptying e.slot

/-- The corrected words of a read raise the corrected count (R92). -/
def State.noteCorrected (s : State) (words : Nat) : State :=
  { s with store := { s.store with corrected := sat32 (s.store.corrected + words) } }

/-- A release read completes (R89, R92). -/
def State.finishRead (s : State) (corrected : Nat) (uncorrectable : Bool) : State :=
  match s.store.transfer with
  | .none => s
  | .write _ => s
  | .capture _ => s
  | .release g =>
    match s.release? g with
    | none => { s with store := { s.store with transfer := .none } }
    | some r => (s.noteCorrected corrected).finishRelease g r.packet uncorrectable

/-- CAPTURE's reply from what the read copied: the record's fields and the first 128 bytes (R96). -/
def captureReply (c : CaptureSnap) : CaptureReply :=
  { handle := c.record.handle, responder := c.record.responder, length := c.record.length, cls := c.record.cls,
    firstCell := c.record.chain.headD 0, kind := c.record.kind, bytes := c.record.data.take Config.captureBytes,
    queueLength := c.queueLength }

/-- A capture read completes and the CAPTURE is answered: DATA_ERROR leaves the counts as they were (R96). -/
def State.finishCapture (s : State) (corrected : Nat) (uncorrectable : Bool) : State :=
  match s.store.transfer with
  | .none => s
  | .write _ => s
  | .release _ => s
  | .capture c =>
    let s' := { s with store := { s.store with transfer := .none } }
    match s.captureWaiting? with
    | none => s'
    | some (tag, _) =>
      if uncorrectable then s'.answerCapture tag .dataError .nothing
      else (s'.noteCorrected corrected).answerCapture tag .ok (.captured (captureReply c))

end Sys2Proof.Machine
end

