-- ==== Sys2Proof/Machine/Line.lean ====
section
/-! DEFINITION. The management link (09): the receive framer, the command queue, the reply queue and its places, the
transmitter, and what the performance of a command comes to. -/

namespace Sys2Proof.Machine

/-! ### The receive framer (R169) -/

/-- The start byte of a frame (Table 11-1). -/
def startByte : Byte := 0x5A

/-- What the framer finds at the front of the bytes it has. -/
inductive Framed where
  /-- the front byte is no start byte and is ignored -/
  | hunting
  /-- a frame is being collected -/
  | collecting
  /-- the frame is discarded: its length exceeds 1,024 or its CRC does not match -/
  | discarded
  /-- the frame is accepted; `size` bytes are used -/
  | accepted (frame : Frame) (size : Nat)
  deriving DecidableEq, Repr

/-- The frame at the front of the bytes received: start byte, kind, tag, length in 2 bytes, body, CRC in 2 bytes (R169). -/
def framedAt (bytes : List Byte) : Framed :=
  if bytes.headD 0 != startByte then .hunting
  else if bytes.length < 5 then .collecting
  else
    let n := fieldAt bytes 3 2
    if 1024 < n then .discarded
    else if bytes.length < n + 7 then .collecting
    else if (crc16 ((bytes.drop 1).take (n + 4))).toNat == fieldAt bytes (n + 5) 2 then
      .accepted ⟨byteAt bytes 1, byteAt bytes 2, (bytes.drop 5).take n⟩ (n + 7)
    else .discarded

/-- What the framer makes of received bytes, in order: `none` for a discard, `some f` for an accepted frame. -/
structure Scan where
  found : List (Option Frame)
  rest : List Byte
  deriving DecidableEq, Repr

/-- The framer over the bytes it has: after a discard it hunts again from the byte after the discarded frame's start byte,
after an accepted frame from the byte after the frame (R169). Each round uses at least one byte. -/
def scanFrames : Nat → List Byte → Scan
  | 0, bytes => ⟨[], bytes⟩
  | fuel + 1, bytes =>
    match bytes with
    | [] => ⟨[], []⟩
    | _ :: rest =>
      match framedAt bytes with
      | .hunting => scanFrames fuel rest
      | .collecting => ⟨[], bytes⟩
      | .discarded =>
        let r := scanFrames fuel rest
        ⟨none :: r.found, r.rest⟩
      | .accepted f size =>
        let r := scanFrames fuel (bytes.drop size)
        ⟨some f :: r.found, r.rest⟩

/-! ### Reply places (R172) -/

/-- The reply places reserved: one while the engine holds a command that is not answered (R172). -/
def Mgmt.reserved (m : Mgmt) : Nat :=
  match m.engine with
  | .idle => 0
  | .capturing _ _ => 1
  | .resetting => 0

/-- Whether a reply place is free and not reserved. -/
def Mgmt.placeFree (m : Mgmt) : Bool := decide (m.replies.length + m.reserved < Config.replyPlaces)

/-- A reply is made: it joins the reply queue's tail (R172). -/
def Mgmt.makeReply (m : Mgmt) (r : Reply) : Mgmt := { m with replies := m.replies ++ [r] }

/-- A number as BUSY and FRAME_ERROR replies carry it: at most 65,535 (R184). -/
def carried (n : Nat) : Nat := min n 65535

/-- A place is given to the framer's replies: the pending frame errors, then the head of the BUSY backlog (R172). -/
def Mgmt.giveFramer (m : Mgmt) : Mgmt :=
  if 0 < m.pendingErrors then
    { m with pendingErrors := 0 }.makeReply ⟨0, 0, .frameError, .number (carried m.pendingErrors)⟩
  else
    match m.busyBacklog with
    | [] => m
    | b :: rest => { m with busyBacklog := rest }.makeReply ⟨b.tag, b.kind, .busy, .number (carried b.answered)⟩

/-! ### The transmitter (R180) -/

/-- The frame the transmitter begins next: the reply queue's head, else the notice queue's head with its notices-dropped flag
(R179, R180). -/
def Mgmt.nextFrame? (m : Mgmt) : Option TxFrame :=
  match m.sending with
  | some _ => none
  | none =>
    match m.replies with
    | r :: _ => some (.reply r)
    | [] =>
      match m.notices with
      | n :: _ => some (.notice n m.overflow)
      | [] => none

/-- A frame is begun: it leaves its queue, and a notice clears the overflow mark (R178 to R180). -/
def Mgmt.beginFrame (m : Mgmt) (f : TxFrame) : Mgmt :=
  match f with
  | .reply _ => { m with sending := some f, replies := m.replies.drop 1 }
  | .notice _ _ => { m with sending := some f, notices := m.notices.drop 1, overflow := false }

/-- The transmitter begins a frame if it is sending none and a queue holds one (R180). -/
def State.transmit (s : State) : State :=
  match s.mgmt.nextFrame? with
  | none => s
  | some f => { s with mgmt := s.mgmt.beginFrame f }.emit (.frame f)

/-! ### Frames received (R170, R171) -/

/-- A refusal with BUSY joins the BUSY backlog under its tag (R171); the reply is made at once if there is a place
(`State.give`). -/
def addBusy (f : Frame) : List BusyEntry → List BusyEntry
  | [] => [⟨f.tag, f.kind, 1⟩]
  | b :: rest => if b.tag == f.tag then { b with kind := f.kind, answered := b.answered + 1 } :: rest else b :: addBusy f rest

/-- A discarded frame (R170). -/
def Mgmt.discardFrame (m : Mgmt) : Mgmt :=
  { m with frameErrors := sat32 (m.frameErrors + 1), pendingErrors := m.pendingErrors + 1 }

/-- An accepted frame joins the command queue, or is refused with BUSY (R171). -/
def Mgmt.acceptFrame (m : Mgmt) (f : Frame) : Mgmt :=
  if m.commands.length < Config.commandPlaces then { m with commands := m.commands ++ [f] }
  else { m with busyCount := sat32 (m.busyCount + 1), busyBacklog := addBusy f m.busyBacklog }

/-! ### Performing a command (R173, R174) -/

/-- What a command that passed the shared checks comes to, by its owning rule: a refusal, which changes nothing; the changed
state with the fields of its OK reply; or, for the two commands that span more than one event, CAPTURE held by the engine
(R95) and RESET_PART accepted (R177). -/
inductive Performed where
  | refuse (status : Status)
  | ok (s : State) (body : ReplyBody)
  | held
  | accepted

/-- The engine's reply to a command (R174): it joins the reply queue's tail. -/
def State.reply (s : State) (f : Frame) (status : Status) (body : ReplyBody) : State :=
  { s with mgmt := s.mgmt.makeReply ⟨f.tag, f.kind, status, body⟩ }

end Sys2Proof.Machine
end

