-- ==== Sys2Proof/Machine/Formats.lean ====
section
/-! DEFINITION. The byte layouts that the manual gives (11): the frames of the management link, the bodies it lays out, the
link words from the switch as commands of the block, and the link words from the part. The reply bodies for which it gives
no layout stay values (log entry 27). -/

namespace Sys2Proof.Machine

/-! ### Management frames (Tables 11-1, 11-4 to 11-6; R184) -/

/-- A whole frame: start byte, kind, tag, length, body, CRC (Table 11-1). -/
def frameBytes (kind tag : Byte) (body : List Byte) : List Byte :=
  let covered := [kind, tag] ++ toBe 2 body.length ++ body
  startByte :: covered ++ toBe 2 (crc16 covered).toNat

/-- A command frame (Table 11-1). -/
def Frame.encode (f : Frame) : List Byte := frameBytes f.kind f.tag f.body

/-- The status codes (Table 11-4). -/
def Status.code : Status → Byte
  | .ok => 0x00
  | .accepted => 0x01
  | .busy => 0x02
  | .notReady => 0x03
  | .frameError => 0x04
  | .badKind => 0x05
  | .badLength => 0x06
  | .badValue => 0x07
  | .wrongState => 0x08
  | .wrongPort => 0x09
  | .staleHandle => 0x0A
  | .faultPending => 0x0B
  | .noRate => 0x0C
  | .early => 0x0D
  | .noSpace => 0x0E
  | .empty => 0x0F
  | .dataError => 0x10

/-- The kind of every reply (11.1). -/
def replyKind : Byte := 0x80

/-- The kinds of the notices (11.1). -/
def Notice.kind : Notice → Byte
  | .ready _ _ _ => 0xC0
  | .episodeClosed _ => 0xC1
  | .episodeExpired _ => 0xC2
  | .portState _ => 0xC3
  | .threshold _ => 0xC4
  | .rateApplied _ => 0xC5
  | .linkState _ => 0xC6
  | .clockState _ => 0xC7
  | .tableFull _ => 0xC8

/-- A reply's body where the manual gives its layout: the answered kind and the status, and for BUSY and FRAME_ERROR the
number in 2 bytes (11.1, R184). -/
def Reply.bodyBytes? (r : Reply) : Option (List Byte) :=
  match r.body with
  | .nothing => some [r.kind, r.status.code]
  | .number n => if r.status == .busy || r.status == .frameError then some ([r.kind, r.status.code] ++ toBe 2 n) else none
  | .identify _ => none
  | .handles _ _ => none
  | .episode _ => none
  | .port _ => none
  | .rate _ => none
  | .ports _ => none
  | .flag _ => none
  | .store _ => none
  | .pool _ _ => none
  | .counters _ => none
  | .cleared _ => none
  | .link _ => none
  | .captured _ => none

/-! ### Fields reported as absent (R184) -/

/-- A field that a body may report as absent: a presence byte, 1 when present and 0 when absent, then its bytes, which are
sent as 0 when it is absent. R184 says so of the bodies of R28 and R139; for another body it is the model's choice (DESIGN
CHOICE, log entry 35). -/
def presented {α : Type} (size : Nat) (encode : α → List Byte) : Option α → List Byte
  | some x => 1 :: encode x
  | none => 0 :: List.replicate size 0

/-- The close reason's code (Table 11-5). -/
def CloseReason.code : CloseReason → Nat
  | .completed => 0
  | .expired => 1
  | .aborted => 2

/-- The fields that EPISODE_STATUS's reply reports as absent where they are (R28), in R28's order, each as it is sent: close
reason, N, E, the deadline counter with its last loaded value, the idle counter, the linger counter. Their sizes are those
that Tables 11-3, 11-5 and 11-7 give the same quantities; their places in the body the manual does not give (log entry 27). -/
def EpisodeReply.presentedFields (r : EpisodeReply) : List (List Byte) :=
  [presented 1 (fun c => toBe 1 (CloseReason.code c)) r.closeReason, presented 1 (toBe 1) r.n, presented 2 (toBe 2) r.e,
   presented 2 (fun d => toBe 1 d.1 ++ toBe 1 d.2) r.deadline, presented 1 (toBe 1) r.idle, presented 1 (toBe 1) r.linger]

/-- A flag as one bit of a byte. -/
def bitAt (flag : Bool) (place : Nat) : Nat := if flag then 2 ^ place else 0

/-- A tally in 8 bytes (Table 11-5). -/
def Tally.bytes8 (t : Tally) : List Byte := toBe 4 t.packets ++ toBe 4 t.bytes

/-- The body of EPISODE_CLOSED after its flags byte (Table 11-5). -/
def ClosedNotice.bytes52 (n : ClosedNotice) : List Byte :=
  n.handle.encode ++ toBe 1 n.key.group ++ toBe 4 n.key.requester.toNat ++ toBe 2 n.key.tag.toNat ++
    toBe 1 (bitAt (n.origin == .adopted) 0 + 2 * (n.closeReason.map CloseReason.code).getD 0 + bitAt n.expired 3 +
      bitAt n.damaged 4) ++
    toBe 1 n.rosterSize ++ toBe 1 n.finished ++ n.unlisted.bytes8 ++
    n.arrived.bytes8 ++ n.released.bytes8 ++ n.trimmed.bytes8 ++ n.discarded.bytes8

/-- The cause's code (Table 11-6). -/
def PortCause.code : PortCause → Nat
  | .started => 1
  | .drained => 2
  | .fault => 3
  | .standDown => 4
  | .store => 5

/-- The port state's code (Table 11-6). -/
def PortState.code : PortState → Nat
  | .disabled => 0
  | .starting => 1
  | .active => 2
  | .drainOut => 3
  | .faulted => 4

/-- The fault record's 12 bytes (Table 11-6). -/
def FaultRecord.bytes12 (f : FaultRecord) : List Byte :=
  toBe 1 f.stateAtFault.code ++ toBe 1 f.member ++ toBe 4 f.src.toNat ++ toBe 4 f.dest.toNat ++ toBe 2 f.length

/-- A drain cause's number for the byte of log entry 27. -/
def DrainCause.number : DrainCause → Nat
  | .host => 0
  | .standDown => 1
  | .flush => 2

/-- The fields that PORT_STATUS's reply reports as absent where they are (R139), in R139's order, each as it is sent: the drain
cause and the fault record, with the fault record's 12 bytes of Table 11-6 (log entry 27). -/
def PortReply.presentedFields (r : PortReply) : List (List Byte) :=
  [presented 1 (fun c => [Config.drainCauseByte (DrainCause.number c)]) r.drainCause, presented 12 FaultRecord.bytes12 r.fault]

/-- A parameter block's four fields in 6 bytes (Tables 11-2, 11-7). -/
def LinkParams.bytes6 (p : LinkParams) : List Byte :=
  toBe 2 p.linkId ++ toBe 1 p.laneCount ++ toBe 1 p.portCount ++ toBe 2 p.maxLength

/-- The fields that LINK_STATUS's reply reports as absent where they are (R155): the last good block and the established
parameters. R184 names R28 and R139 alone: that these two are sent by a presence byte as well is the model's choice, as it is
that RATE_STATUS's pending rate, which may be absent too (R119), is given no bytes here (DESIGN CHOICE, log entry 35). -/
def LinkReply.presentedFields (r : LinkReply) : List (List Byte) :=
  [presented 6 LinkParams.bytes6 r.lastGood, presented 6 LinkParams.bytes6 r.established]

/-- The body of PORT_STATE after its flags byte (Table 11-6). -/
def PortNotice.bytesRest (n : PortNotice) : List Byte :=
  toBe 1 n.port ++ toBe 1 n.cause.code ++ toBe 1 n.state.code ++ toBe 1 (bitAt n.suspended 0 + bitAt n.stopAwaited 1) ++
    (if n.cause == .fault then (n.fault.map FaultRecord.bytes12).getD [] else [])

/-- A notice's body where the manual gives its layout, with the notices-dropped flag in bit 0 of its flags byte (11.1, R179). -/
def Notice.bodyBytes? (n : Notice) (dropped : Bool) : Option (List Byte) :=
  match n with
  | .episodeClosed c => some (toBe 1 (bitAt dropped 0) ++ c.bytes52)
  | .portState p => some (toBe 1 (bitAt dropped 0) ++ p.bytesRest)
  | .ready _ _ _ => none
  | .episodeExpired _ => none
  | .threshold _ => none
  | .rateApplied _ => none
  | .linkState _ => none
  | .clockState _ => none
  | .tableFull _ => none

/-- The bytes of a frame on the transmit line, where the manual gives its body's layout; a notice carries tag 0 (R180, R184). -/
def TxFrame.bytes? (f : TxFrame) : Option (List Byte) :=
  match f with
  | .reply r => r.bodyBytes?.map (frameBytes replyKind r.tag)
  | .notice n dropped => (n.bodyBytes? dropped).map (frameBytes n.kind 0)

/-! ### Link words from the switch (Table 11-7, R185) -/

/-- A whole undamaged link word of 32 bytes as the command it is (Table 11-7); bytes a layout leaves unused are not
examined (R185). -/
def commandOfWord (w : List Byte) : Instr :=
  let byte (i : Nat) := byteAt w i
  let half (i : Nat) : Half := BitVec.ofNat 16 (fieldAt w i 2)
  let word (i : Nat) : Endpoint := BitVec.ofNat 32 (fieldAt w i 4)
  match (byte 0).toNat with
  | 0 => .idleWord
  | 1 => .packetDescriptor (byte 1) (byte 2) (half 3) (word 5) (word 9) (half 13) (half 15)
  | 2 => .payloadWord ((byte 1).getLsbD 0) (byte 2) ((w.drop 4).take 28)
  | 3 => .sighting (byte 1) (word 2) (half 6) (byte 8) (half 9) ((byte 11).setWidth 2) ((byte 11).getLsbD 2)
  | 4 =>
    if byte 1 = 1 then .divertStarted (byte 2) else if byte 1 = 2 then .divertStopped (byte 2) else .unknownTypeWord true
  | 5 => .statusWord (byte 6 ++ byte 5 ++ byte 4 ++ byte 3 ++ byte 2 ++ byte 1)
  | 6 => .holdReturn
  | 7 => .resumeReturn
  | 8 => .parameterBlock (half 1) (byte 3) (byte 4) (half 5) (byte 7)
  | _ => .unknownTypeWord false

/-! ### Link words from the part (Table 11-8, R185) -/

/-- The bytes of a layout, with the word's unused bytes sent as 0 (R185). -/
def padWord (bytes : List Byte) : List Byte := bytes ++ List.replicate (32 - bytes.length) 0

/-- The payload words of a packet: 28 bytes each, the last with the remainder and its last bit set (R185). -/
def payloadWords : Nat → List Byte → List (List Byte)
  | 0, _ => []
  | fuel + 1, data =>
    if data.length ≤ 28 then [padWord ([0x02, 0x01] ++ toBe 1 data.length ++ [0] ++ data)]
    else padWord ([0x02, 0x00] ++ toBe 1 28 ++ [0] ++ data.take 28) :: payloadWords fuel (data.drop 28)

/-- A RETURN descriptor (Table 11-8). -/
def returnDescriptor (port : Nat) (mark flags : Byte) (length : Nat) (dest src : Endpoint) (tag grant : Half) : List Byte :=
  padWord ([0x11] ++ toBe 1 port ++ [mark, flags] ++ toBe 2 length ++ toBe 4 dest.toNat ++ toBe 4 src.toNat ++
    toBe 2 tag.toNat ++ toBe 2 grant.toNat)

/-- The words of an item of the return arbiter (Table 11-8, R185). -/
def OutItem.words : OutItem → List (List Byte)
  | .control w => [padWord ([0x14, if w.start then 0x01 else 0x02] ++ toBe 1 w.port)]
  | .grant f =>
    [padWord ([0x12] ++ toBe 4 f.responder.toNat ++ toBe 4 f.requester.toNat ++ toBe 2 f.tag.toNat ++ toBe 2 f.number ++
      toBe 1 f.count)]
  | .stub s =>
    [padWord ([0x13] ++ toBe 4 s.requester.toNat ++ toBe 4 s.src.toNat ++ toBe 2 s.tag.toNat ++ toBe 2 s.grant.toNat ++
      toBe 2 s.length)]
  | .passed p =>
    returnDescriptor p.desc.port 0x02 p.desc.flags p.desc.length p.desc.dest p.desc.src p.desc.tag p.desc.grant ::
      payloadWords p.data.length p.data
  | .released p =>
    returnDescriptor p.port 0x01 0 p.length p.requester p.responder 0 0 :: payloadWords p.data.length p.data

/-- The flow words (Table 11-8). -/
def pauseWord : List Byte := padWord [0x15]

/-- The flow words (Table 11-8). -/
def resumeWord : List Byte := padWord [0x16]

/-! ### Blocks of the lanes (11.2, R143) -/

/-- A block of a lane: its sync header, 01 for data and 10 for control, and its 8 content bytes (11.2). -/
structure Block where
  header : BitVec 2
  content : List Byte
  deriving DecidableEq, Repr

/-- The blocks of lanes 0 to 3 that carry a link word of 32 bytes: lane 0's is a control block (11.2). -/
def wordBlocks (w : List Byte) : List Block :=
  [⟨0b10, w.take 8⟩, ⟨0b01, (w.drop 8).take 8⟩, ⟨0b01, (w.drop 16).take 8⟩, ⟨0b01, (w.drop 24).take 8⟩]

/-- An alignment word's block (11.2). -/
def alignmentBlock : Block := ⟨0b10, List.replicate 8 0x0F⟩

/-- A lane-marker word's block; bytes a layout leaves unused are sent as 0 (11.2, R185). -/
def laneMarkerBlock (lane : Fin 4) : Block := ⟨0b10, [0xE1] ++ toBe 1 lane.val ++ List.replicate 6 0⟩

/-- The establishment pattern of a lane: sixteen alignment words, then one lane-marker word (R143). -/
def establishmentPattern (lane : Fin 4) : List Block := List.replicate 16 alignmentBlock ++ [laneMarkerBlock lane]

/-- The i-th block that a lane carries while the pattern is sent, from 0: the pattern is repeated (R143). -/
def establishmentBlock (lane : Fin 4) (i : Nat) : Block := (establishmentPattern lane).getD (i % 17) alignmentBlock

/-- What one output puts on the lines, where the manual gives its layout: link words for the divert link, one frame for the
management link. -/
def Output.bytes? : Output → Option (List (List Byte))
  | .pause => some [pauseWord]
  | .resume => some [resumeWord]
  | .item i => some i.words
  | .frame f => f.bytes?.map (fun b => [b])

end Sys2Proof.Machine
end

