-- ==== Sys2Proof/Machine/Lanes.lean ====
section
/-! DEFINITION. The Divert Link Interface (07): lanes and link states, link loss and link up, inbound words, staging, the
return arbiter. -/

namespace Sys2Proof.Machine

/-! ### Lanes -/

/-- What the transmit side sends in each link state (Table 7-1). -/
inductive TransmitSide where
  | nothing | establishmentPattern | traffic
  deriving DecidableEq, Repr

/-- The transmit side's column of Table 7-1 (R143). -/
def LinkState.transmits : LinkState → TransmitSide
  | .down => .nothing
  | .aligning => .establishmentPattern
  | .deskew => .establishmentPattern
  | .params => .establishmentPattern
  | .up => .traffic

/-- The i-th block, from 0, that a lane carries in a state that sends the establishment pattern (R143, Table 7-1); none in
DOWN, and none of the pattern in UP, where IDLE, flow words and the return arbiter's items are sent. Which block comes first
when the pattern begins the manual does not say; block 0 is the first alignment word here (DESIGN CHOICE, log entry 29). -/
def LinkState.patternBlock (state : LinkState) (lane : Fin 4) (i : Nat) : Option Block :=
  match state.transmits with
  | .nothing => none
  | .establishmentPattern => some (establishmentBlock lane i)
  | .traffic => none

/-- The state with every lane changed by a function of its number. -/
def State.updLanes (s : State) (f : Nat → Lane → Lane) : State := { s with link := { s.link with lanes := vmapIdx s.link.lanes f } }

/-- The link goes to ALIGNING: the lane counts are zeroed and the last good block becomes absent (R147). -/
def State.toAligning (s : State) : State :=
  { s with link := { s.link with state := .aligning, lanes := Vector.replicate 4 Lane.zero, lastGood := none } }

/-- One word more on a lane whose marker has come (R144). -/
def Lane.word (l : Lane) : Lane := { l with sinceMarker := l.sinceMarker.map (· + 1) }

/-- DESKEW after words arrived on lanes: all four markers in bring PARAMS; a fifth word after a marker while another lane's is
missing returns to ALIGNING (R144). -/
def State.deskewCheck (s : State) : State :=
  if s.link.lanes.toList.all (fun l => l.sinceMarker.isSome) then
    { s with link := { s.link with state := .params, lanes := vmap s.link.lanes (fun l => { l with sinceMarker := none }) } }
  else if s.link.lanes.toList.any (fun l => l.sinceMarker.any (fun n => decide (5 ≤ n))) then s.toAligning
  else s

/-! ### Breaking packets (R149) -/

/-- A staged packet that is open is broken: it is discarded and its room released. `ended`: its last payload word has come,
or the link is lost. Otherwise the packet stays open, so that its further words are consumed, until its last payload word
(07, section 7.2; R149). A packet whose words are only consumed is no staged packet, and is not broken (log entry 17). -/
def State.breakOpen (s : State) (ended : Bool) : State :=
  match s.link.openPacket with
  | none => s
  | some o =>
    if o.staged then
      { s with link := { s.link with
          discards := sat32 (s.link.discards + 1),
          openPacket := if ended then none else some { o with staged := false } } }.resumeCheck
    else if ended then { s with link := { s.link with openPacket := none } }
    else s

/-- One more rejected word (R142, R148). -/
def State.rejectWord (s : State) : State :=
  { s with link := { s.link with rejectedWords := sat32 (s.link.rejectedWords + 1) } }

/-! ### Loss of the link (R138, R147) -/

/-- A drain group takes the loss of the link (R138). -/
def State.portLoss (s : State) (g : Nat) : State :=
  match (s.port g).state with
  | .active => (s.updPort g (fun p => { p with state := .starting })).updMembers g (fun p => { p with startedSeen := false })
  | .starting => s.updMembers g (fun p => { p with startedSeen := false })
  | .drainOut => s.updMembers g (fun p => { p with stoppedSeen := true })
  | .faulted => s.updMembers g (fun p => { p with stoppedSeen := true })
  | .disabled => s

/-- Whether an item is a passed-through packet. -/
def OutItem.isPassed : OutItem → Bool
  | .passed _ => true
  | .control _ => false
  | .grant _ => false
  | .stub _ => false
  | .released _ => false

/-- The item being sent is lost: it adds to the return-loss count, and a passed-through packet is discarded with its room
released (R147). That this release may clear the paused flag (R151), which R147 lists as kept, is the model's choice (DESIGN
CHOICE, log entry 37). -/
def State.loseItem (s : State) : State :=
  match s.link.sending with
  | none => s
  | some item =>
    let lost : Link := { s.link with sending := none, returnLosses := sat32 (s.link.returnLosses + 1) }
    if item.isPassed then { s with link := { lost with discards := sat32 (s.link.discards + 1) } }.resumeCheck
    else { s with link := lost }

/-- The open packet is discarded with the link and its room released (R147). That this release may clear the paused flag (R151),
which R147 lists as kept, is the model's choice (DESIGN CHOICE, log entry 37). -/
def State.loseOpen (s : State) : State := s.breakOpen true

/-- The link leaves UP with a cause (R147). It has left UP when the rooms of the open packet and of the item being sent are
released, so that a paused flag which they clear sends no RESUME (R151; DESIGN CHOICE, log entry 37). -/
def State.loseLink (s : State) (cause : LinkCause) : State :=
  let s := s.toAligning
  let s := { s with link := { s.link with loss := true } }.raise (.linkState cause)
  let s := s.loseOpen.loseItem
  let s := { s with link := { s.link with control := [], hold := false } }
  s.groups.foldl State.portLoss s

/-! ### The link reaches UP (R146) -/

/-- START_DIVERT for each member of a drain group in STARTING (R138). -/
def State.restart (s : State) (g : Nat) : State := if (s.port g).state == .starting then s.handStart g else s

/-- The link reaches UP on matched parameters (R146). The START_DIVERT words of the groups in STARTING join the control queue in
ascending port order; R138 and R146 give none (DESIGN CHOICE, log entry 34). -/
def State.reachUp (s : State) (p : LinkParams) : State :=
  let s := { s with link := { s.link with state := .up, established := some p, egressFull := BitVec.allOnes 48, hold := false } }
  let s := s.raise (.linkState (.up p))
  let s := if s.link.paused then s.emit .pause else s
  s.groups.foldl State.restart s

/-! ### Inbound words -/

/-- A whole undamaged link word arrives: in ALIGNING it returns every alignment run to 0, in DESKEW it is one word on each
lane, from DESKEW on its good sync headers return the framing runs to 0, and in PARAMS and UP it is taken as given
(R142 to R145, R148). -/
def State.takeWord (s : State) (inParams inUp : State → State) : State :=
  let cleared := s.updLanes (fun _ l => { l with framingRun := 0 })
  match s.link.state with
  | .down => s
  | .aligning => s.updLanes (fun _ l => { l with alignRun := 0 })
  | .deskew => (cleared.updLanes (fun _ l => l.word)).deskewCheck
  | .params => inParams cleared
  | .up => inUp cleared

/-- The established port count (R148). -/
def State.establishedPorts (s : State) : Nat := (s.link.established.map (fun p => p.portCount)).getD 0

/-- The established maximum packet length (R149). -/
def State.establishedLength (s : State) : Nat := (s.link.established.map (fun p => p.maxLength)).getD 0

/-- A framing error on a lane (R142, R143): ALIGNING's alignment run returns to 0; from DESKEW on the framing run rises, and a
fourth in a row takes the link to ALIGNING, from UP with cause FRAMING. -/
def State.framingError (s : State) (lane : Nat) : State :=
  let run := (vget s.link.lanes lane Lane.zero).framingRun
  let raised := s.updLanes (fun i l => if i = lane then { l with framingRun := l.framingRun + 1 } else l)
  match s.link.state with
  | .down => s
  | .aligning => s.updLanes (fun i l => if i = lane then { l with alignRun := 0 } else l)
  | .deskew =>
    if 3 ≤ run then s.toAligning
    else (raised.updLanes (fun i l => if i = lane then l.word else l)).deskewCheck
  | .params => if 3 ≤ run then s.toAligning else raised
  | .up => if 3 ≤ run then s.loseLink .framing else raised

/-- One code error more on a lane, counted in UP only (R142). -/
def Lane.codeError (l : Lane) (counts : Bool) : Lane :=
  { l with codeErrors := if counts then min 255 (l.codeErrors + 1) else l.codeErrors }

/-- A lane in a state where link words are formed, after its block of a damaged word: a good sync header returns the framing
run to 0, and in UP a code error is counted, whatever the sync header (R142). The framing error itself is FRAMING_ERROR's
(log entry 18). -/
def Lane.checked (l : Lane) (b : BlockCheck) (counts : Bool) : Lane :=
  match b with
  | .good => { l with framingRun := 0 }
  | .framing => l
  | .code => { l.codeError counts with framingRun := 0 }
  | .both => l.codeError counts
  | .absent => l

/-- A lane in DESKEW after its block of a damaged word (R142, R144). -/
def Lane.checkedWord (l : Lane) (b : BlockCheck) : Lane :=
  match b with
  | .good => (l.checked b false).word
  | .code => (l.checked b false).word
  | .framing => l
  | .both => l
  | .absent => l

/-- A damaged word (R142, R145, R149). In UP the packet that it breaks stays open, also where the word was the packet's last
payload word: the manual does not say whether such a word ends it (DESIGN CHOICE, log entry 36). -/
def State.damagedWord (s : State) (blocks : Vector BlockCheck 4) (typeCode : Byte) (ofPacket : Bool) : State :=
  let block (i : Nat) := vget blocks i .absent
  match s.link.state with
  | .down => s
  | .aligning => s.updLanes (fun i l => if block i == .absent then l else { l with alignRun := 0 })
  | .deskew => (s.updLanes (fun i l => l.checkedWord (block i))).deskewCheck
  | .params =>
    if typeCode == 0x08 then s.toAligning else s.updLanes (fun i l => l.checked (block i) false)
  | .up =>
    let s := s.updLanes (fun i l => l.checked (block i) true)
    if ofPacket && s.link.openPacket.isSome then s.breakOpen false else s.rejectWord

/-- Alignment blocks on the lanes named (R143, R144, R148). -/
def State.alignmentWord (s : State) (lanes : BitVec 4) : State :=
  let cleared := s.updLanes (fun i l => if lanes.getLsbD i then { l with framingRun := 0 } else l)
  match s.link.state with
  | .down => s
  | .aligning =>
    let s := s.updLanes (fun i l => if lanes.getLsbD i then { l with alignRun := min 16 (l.alignRun + 1) } else l)
    if s.link.lanes.toList.all (fun l => l.alignRun == 16) then { s with link := { s.link with state := .deskew } } else s
  | .deskew => (cleared.updLanes (fun i l => if lanes.getLsbD i then l.word else l)).deskewCheck
  | .params => cleared
  | .up => cleared.rejectWord

/-- A lane when its marker arrives in DESKEW: the first starts the count of words, a later one is a word (R144). -/
def Lane.marker (l : Lane) : Lane := { l with sinceMarker := some (match l.sinceMarker with | none => 0 | some n => n + 1) }

/-- Lane-marker blocks on the lanes named (R143, R144, R148). -/
def State.laneMarkerWord (s : State) (lanes : BitVec 4) : State :=
  let cleared := s.updLanes (fun i l => if lanes.getLsbD i then { l with framingRun := 0 } else l)
  match s.link.state with
  | .down => s
  | .aligning => s.updLanes (fun i l => if lanes.getLsbD i then { l with alignRun := 0 } else l)
  | .deskew => (cleared.updLanes (fun i l => if lanes.getLsbD i then l.marker else l)).deskewCheck
  | .params => cleared
  | .up => cleared.rejectWord

/-- The low 8 bits of the sum of a parameter block's four fields (R145). -/
def LinkParams.checksum (p : LinkParams) : BitVec 8 := BitVec.ofNat 8 (p.linkId + p.laneCount + p.portCount + p.maxLength)

/-- A parameter block taken in PARAMS (R145). -/
def State.takeParams (s : State) (p : LinkParams) (checksum : Byte) : State :=
  if p.checksum == checksum then
    let s := { s with link := { s.link with lastGood := some p } }
    if p == s.link.expected then s.reachUp p
    else if s.link.mismatch then s
    else { s with link := { s.link with mismatch := true } }.raise (.linkState (.mismatch p s.link.expected))
  else s.toAligning

/-- A PACKET descriptor in UP (R149): a packet still open is broken; the descriptor is malformed, a staging drop, or reserves
its room. -/
def State.takeDescriptor (s : State) (d : Descriptor) : State :=
  let s := s.breakOpen true
  if !(inRange 64 9216 d.length) || decide (s.establishedLength < d.length) || decide (s.establishedPorts ≤ d.port) then
    { s with link := { s.link with discards := sat32 (s.link.discards + 1), openPacket := some ⟨d, false, 0, []⟩ } }
  else if Config.stagingBytes < s.stagingFill + d.length then
    { s with link := { s.link with stagingDrops := sat32 (s.link.stagingDrops + 1), openPacket := some ⟨d, false, 0, []⟩ } }
  else { s with link := { s.link with openPacket := some ⟨d, true, 0, []⟩ } }.pauseCheck

/-- A payload word in UP (R148, R149, R185). -/
def State.takePayload (s : State) (last : Bool) (count : Byte) (data : List Byte) : State :=
  match s.link.openPacket with
  | none => s.rejectWord
  | some o =>
    let total := o.received + count.toNat
    if !o.staged then (if last then s.breakOpen true else s)
    else if !(inRange 1 28 count.toNat) || decide (o.desc.length < total) then s.breakOpen last
    else if !last then
      { s with link := { s.link with openPacket := some { o with received := total, data := o.data ++ data.take count.toNat } } }
    else if total = o.desc.length then
      { s with link := { s.link with openPacket := none } }.arrive o.desc (o.data ++ data.take count.toNat)
    else s.breakOpen true

/-- A SIGHTING in UP (R148, R149, R31). -/
def State.sightingWord (s : State) (port : Nat) (a : Announcement) : State :=
  let s := s.breakOpen false
  if s.establishedPorts ≤ port then s.ignoreSighting
  else s.takeSighting { a with key := { a.key with group := s.groupOf port } }

/-- One more stray marker of a drain group (R126). -/
def State.strayMarker (s : State) (g : Nat) : State :=
  s.updPort g (fun p => { p with strayMarkers := min 255 (p.strayMarkers + 1) })

/-- A DIVERT_STARTED at the Port Controller (R126, R128). -/
def State.started (s : State) (member : Nat) : State :=
  let g := s.groupOf member
  if (s.port g).state == .starting && !(s.port member).startedSeen then
    let s := s.updPort member (fun p => { p with startedSeen := true })
    if s.allStarted g then (s.updPort g (fun p => { p with state := .active })).raisePortState g .started else s
  else s.strayMarker g

/-- A DIVERT_STOPPED at the Port Controller (R126); the completion of a drain-out follows in the same event (R132). -/
def State.stopped (s : State) (member : Nat) : State :=
  let g := s.groupOf member
  if ((s.port g).state == .drainOut || (s.port g).state == .faulted) && !(s.port member).stoppedSeen then
    s.updPort member (fun p => { p with stoppedSeen := true })
  else s.strayMarker g

/-- A MARKER in UP: an open packet is broken, a port at or above the established count is dropped, else the Port Controller
takes it (R148, R149). -/
def State.markerWord (s : State) (port : Nat) (taken : State → Nat → State) : State :=
  let s := s.breakOpen false
  if s.establishedPorts ≤ port then s.rejectWord else taken s port

/-! ### The return arbiter (R153) -/

/-- The first item in the order of Table 7-4. -/
def State.nextItem? (s : State) : Option OutItem :=
  match s.link.control with
  | w :: _ => some (.control w)
  | [] =>
    match s.sched.queue with
    | f :: _ => some (.grant f)
    | [] =>
      match s.link.stubs with
      | x :: _ => some (.stub x)
      | [] =>
        match s.link.passList with
        | p :: _ => some (.passed p)
        | [] => s.store.released.head?.map OutItem.released

/-- A grant frame leaves the queue, and the UNPACE backlog's head moves to its tail (R70). -/
def Scheduler.sendHead (c : Scheduler) : Scheduler :=
  match c.backlog with
  | [] => { c with queue := c.queue.drop 1 }
  | b :: rest => { c with queue := c.queue.drop 1 ++ [b], backlog := rest }

/-- An item leaves its source and is being sent (R153). -/
def State.beginItemOf (s : State) (item : OutItem) : State :=
  let s := { s with link := { s.link with sending := some item } }
  match item with
  | .control _ => { s with link := { s.link with control := s.link.control.drop 1 } }
  | .grant _ => { s with sched := s.sched.sendHead }
  | .stub _ => { s with link := { s.link with stubs := s.link.stubs.drop 1 } }
  | .passed _ => { s with link := { s.link with passList := s.link.passList.drop 1 } }
  | .released _ => { s with store := { s.store with released := s.store.released.drop 1 } }

/-- The return arbiter begins an item: link UP, nothing being sent, no hold, some source not empty (R153, R154). -/
def State.beginItem (s : State) : State :=
  if s.linkUp && s.link.sending.isNone && !s.link.hold then
    match s.nextItem? with
    | none => s
    | some item => (s.beginItemOf item).emit (.item item)
  else s

/-- The item being sent is complete; a passed-through packet's room is released (R150, R153). -/
def State.finishItem (s : State) : State :=
  match s.link.sending with
  | none => s
  | some _ => { s with link := { s.link with sending := none } }.resumeCheck

end Sys2Proof.Machine
end

