-- ==== Sys2Proof/Machine/PartCommands.lean ====
section
/-! DEFINITION. Resets, the Timebase, store initialisation, and the commands IDENTIFY and RESET_PART (09, 05 section 5.8,
04 section 4.9). -/

namespace Sys2Proof.Machine

/-- The clock state as IDENTIFY, RATE_STATUS and READY report it; before the start decision the manual gives none (log entry 13). -/
def State.reportedClock (s : State) : Clock :=
  s.time.clock.getD (if Config.fallbackBeforeDecision then .fallback else .reference)

/-- The part's identification (R176). -/
def identity : Identity := ⟨Config.familyCode, Config.partCode, Config.dieRevision⟩

/-- IDENTIFY (R176). -/
def identifyEffect (_ : List Byte) (s : State) : Performed :=
  .ok s (.identify { identity := identity, ready := s.mgmt.ready, initialising := s.store.initialising,
                     cause := s.mgmt.startCause, clock := s.reportedClock, frameErrors := s.mgmt.frameErrors,
                     busyCount := s.mgmt.busyCount, busyBacklog := s.mgmt.busyBacklog.length,
                     noticeFill := s.mgmt.notices.length, overflow := s.mgmt.overflow })

/-- The management link in the reset event: steps 1 to 3 and 5 of R177. -/
def Mgmt.resetEvent (m : Mgmt) : Mgmt :=
  { m with ready := false, notices := [], overflow := false, owed := m.owed ++ m.commands, commands := [], engine := .idle,
           startCause := .resetPart }

/-- The Timebase in the reset event: its clock state is kept and its count restarts (R121). -/
def State.resetClock (s : State) : State :=
  let s := { s with time := ⟨s.time.clock, 0⟩ }
  if s.time.clock == some .fallback then s.raise (.clockState .fallback) else s

/-- The reset event of RESET_PART (R177): the management link keeps its framer, replies and counts, every slot is freed and
every generation advances (R30), the link keeps its expected parameters (R158), and every other block returns to its reset
values (R57, R72, R99, R122, R141, R168). -/
def State.resetPart (s : State) : State :=
  { s with
    mgmt := s.mgmt.resetEvent,
    table := ⟨vmap s.table.generations (· + 1), [], false⟩,
    sched := Scheduler.powerOn,
    store := Store.powerOn true,
    pacers := Vector.replicate 48 Pacer.powerOn,
    counters := Counters.powerOn,
    ports := Vector.replicate 48 Port.powerOn,
    link := Link.afterReset .aligning s.link.expected }.resetClock

/-- The transmitter completes its frame; the completion of the ACCEPTED reply is the reset event (R177, R180). -/
def State.transmitDone (s : State) : State :=
  match s.mgmt.sending with
  | none => s
  | some f =>
    let s' := { s with mgmt := { s.mgmt with sending := none } }
    match f with
    | .notice _ _ => s'
    | .reply r => if r.status == .accepted && s.mgmt.engine == .resetting then s'.resetPart else s'

/-- The reset input is asserted: the part is held at its power-on state, with the link DOWN (R158). The queue and the counter
of free choices are the model's own and stay. -/
def State.assertReset (s : State) : State := { State.powerOn true with pending := s.pending, choices := s.choices }

/-- The reset input is released: store initialisation and link establishment begin (R98, R158). Without effect on a part that
is not held in reset. -/
def State.releaseReset (s : State) : State :=
  if s.inReset then { State.powerOn false with pending := s.pending, choices := s.choices } else s

/-- The start decision of the Timebase (R121). -/
def State.decideClock (s : State) (edgesSeen : Bool) : State :=
  if s.time.clock.isNone then
    if edgesSeen then { s with time := ⟨some .reference, s.time.ticks⟩ }
    else { s with time := ⟨some .fallback, s.time.ticks⟩ }.raise (.clockState .fallback)
  else s

/-- The reference is lost (R120). -/
def State.loseReference (s : State) : State :=
  if s.time.clock == some .reference then
    { s with time := ⟨some .fallback, s.time.ticks⟩ }.raise (.clockState .fallback)
  else s

/-- The reference has returned (R121). -/
def State.regainReference (s : State) : State :=
  if s.time.clock == some .fallback then
    { s with time := ⟨some .reference, s.time.ticks⟩ }.raise (.clockState .reference)
  else s

/-- Store initialisation completes: every cell is free, the ready flag is set, READY is raised (R98, R175, R181). -/
def State.finishInit (s : State) : State :=
  if s.store.initialising then
    { s with store := { s.store with initialising := false }, mgmt := { s.mgmt with ready := true } }.raise
      (.ready identity s.mgmt.startCause s.reportedClock)
  else s

/-! ### The pacer tick (R102, R103) -/

/-- A drain group whose pending rate is due applies it: first step of R102. -/
def State.applyDue (s : State) (g : Nat) : State := if (s.pacer g).rateDue then s.applyRate g else s

/-- Every pacer that is not idle takes a tick (R101, R102). Where several rates apply at one tick, their RATE_APPLIED notices
are raised in ascending port order; the manual gives no order between them (DESIGN CHOICE, log entry 20). -/
def State.pacersTick (s : State) : State :=
  let s := s.groups.foldl State.applyDue s
  { s with pacers := vmapIdx s.pacers (fun i p => if (s.port i).role == .pairOdd then p else p.accrue) }

/-- A counter at a deadline tick: it counts down, and a tick that would bring it to 0 leaves its expiry due (log entry 5). -/
def Countdown.tick (c : Countdown) : Countdown := if c.value ≤ 1 then { c with due := true } else { c with value := c.value - 1 }

/-- The deadline counter at a deadline tick (R18). -/
def Deadline.tick (d : Deadline) : Deadline := if d.value ≤ 1 then { d with due := true } else { d with value := d.value - 1 }

/-- An episode's counters at a deadline tick: those that are present run (R12, R15, R18). -/
def Episode.deadlineTick (e : Episode) : Episode :=
  { e with deadline := e.deadline.map Deadline.tick, idle := e.idle.map Countdown.tick, linger := e.linger.map Countdown.tick }

/-- Every episode record changed. -/
def State.updAll (s : State) (f : Episode → Episode) : State :=
  { s with table := { s.table with episodes := s.table.episodes.map f } }

/-- A pacer tick, with the grant tick and the deadline tick that fall on it (R102, R103); none is delivered before the start
decision (R121). A timer that this tick brings to its end is left due, and a grant decision or a release decision that this
tick's accrual makes ready is taken in this event (`State.settle`), before the row of the expiry can come. R67 and R110 let
either be taken first: that the decision is first is the model's choice. The grant timers count down before that decision, so
the tick counts for no grant that its own accrual leads to: R52, R58 and R103 give no order, and this one is the model's choice
(both DESIGN CHOICE, log entry 14). -/
def State.pacerTick (s : State) : State :=
  if s.time.clock.isNone then s
  else
    let n := s.time.ticks + 1
    let s := { s with time := ⟨s.time.clock, n⟩ }.pacersTick
    let s := if n % Config.grantTickPeriod = 0 then s.updAll Episode.grantTick else s
    if n % Config.deadlineTickPeriod = 0 then s.updAll Episode.deadlineTick else s

/-! ### Expiries (R12, R15, R18 to R21) -/

/-- EPISODE_EXPIRED unless the notice policy is NONE (R19). -/
def State.raiseExpired (s : State) (slot : Nat) (e : Episode) (action : Option ExpiryAction) : State :=
  if (s.policy e.key.group).notice == .none then s
  else s.raise (.episodeExpired ⟨s.handleOf slot, e.key, e.state, action⟩)

/-- The deadline of an ARMED episode expires (R19). -/
def State.expireArmed (s : State) (slot : Nat) (e : Episode) : State :=
  let s := s.updEp slot (fun x => { x.toLinger .expired with expired := true })
  ((s.closeIfEmpty slot).count e.key.group .expire).raiseExpired slot e none

/-- The UNPACE frames of an expiry whose EXPIRE count takes the drain group into DRAIN_OUT: those of the teardown and those of
the entry into DRAIN_OUT are of one event, so all are produced here, in ascending slot order; the teardown and the entry then
find every responder unpaced (R69, R163). -/
def State.unpaceExpiry (s : State) (g : Nat) : State := if s.standsDownAt g .expire then s.unpaceGroup g else s

/-- The deadline of an ACTIVE episode expires under action DRAIN (R20, R69; the order of the steps, log entry 21). -/
def State.expireDrain (s : State) (slot : Nat) (e : Episode) : State :=
  let s := (s.updEp slot (fun x => { x.toDraining with expired := true })).unpaceExpiry e.key.group
  (((s.teardown slot false).afterEmptying slot).count e.key.group .expire).raiseExpired slot e (some .drain)

/-- The deadline of an ACTIVE episode expires under action DISCARD (R21, R69; the order of the steps, log entry 21). -/
def State.expireDiscard (s : State) (slot : Nat) (e : Episode) : State :=
  let s := (s.updEp slot (fun x => { x.toLinger .expired with expired := true })).unpaceExpiry e.key.group
  (((s.teardown slot true).closeIfEmpty slot).count e.key.group .expire).raiseExpired slot e (some .discard)

/-- The expiry of an episode's deadline (R18 to R21). -/
def State.expireDeadline (s : State) (slot : Nat) (e : Episode) : State :=
  match e.state with
  | .armed => s.expireArmed slot e
  | .active =>
    match (s.policy e.key.group).expiry with
    | .drain => s.expireDrain slot e
    | .discard => s.expireDiscard slot e
  | .draining => s
  | .linger => s

/-- A due tick of a deadline counter is taken: it brings the counter to 0 and the episode expires, unless EXTEND_DEADLINE has
reloaded the counter since (R18, R22, log entry 6). -/
def State.takeDeadline (s : State) (slot : Nat) : State :=
  match s.ep? slot with
  | none => s
  | some e =>
    match e.deadline with
    | none => s
    | some d =>
      if d.due then
        if d.value ≤ 1 then s.expireDeadline slot e
        else s.updEp slot (fun x => { x with deadline := some ⟨d.value - 1, d.last, false⟩ })
      else s

/-- A due idle expiry of an ACTIVE episode is taken: the episode goes to DRAINING, or to LINGER if empty (R12). -/
def State.takeIdle (s : State) (slot : Nat) : State :=
  match s.ep? slot with
  | none => s
  | some e =>
    if e.state == .active && e.idle.any (fun c => c.due) then (s.updEp slot Episode.toDraining).afterEmptying slot
    else s

/-- A due linger expiry is taken: the record is freed (R15). -/
def State.takeLinger (s : State) (slot : Nat) : State :=
  match s.ep? slot with
  | none => s
  | some e => if e.isClosed && e.linger.any (fun c => c.due) then s.freeEpisode slot else s

end Sys2Proof.Machine
end

