-- ==== Sys2Proof/Machine/HostCommands.lean ====
section
/-! DEFINITION. The effects of the host's commands on the blocks that own the state concerned: ports (06), rates (05),
episodes (01, 02), the store (04), counters (08), the link (07). Each function takes the body of the command, tests the
command's own conditions in its rule's order, and gives the refusal or the changed state with the reply's fields. -/

namespace Sys2Proof.Machine

/-! ### Ports (06) -/

/-- The refusal of a bond whose odd partner is not DISABLED, its own record or its pair's (R124). -/
def State.partnerDisabled (s : State) (p : Nat) : Bool := (s.port (s.groupOf (p + 1))).state == .disabled

/-- A bond is formed by the even port p: the odd port's record, pacer and counters are reset (R101, R125, R168). -/
def State.formBond (s : State) (p : Nat) : State :=
  let s := s.updPort p (fun x => { x with role := .pairEven })
  let s := s.updPort (p + 1) (fun x =>
    { x with role := .pairOdd, policy := Policy.default, suspended := false, strayMarkers := 0, fault := none })
  (s.updPacer (p + 1) (fun _ => Pacer.powerOn)).updCounters (p + 1) (fun _ => CounterSet.zero)

/-- The bond of the even port p is dissolved (R101, R125, R168). -/
def State.dissolveBond (s : State) (p : Nat) : State :=
  let s := s.updPort p (fun x => { x with role := .single })
  (s.updPort (p + 1) (fun _ => Port.powerOn)).updCounters (p + 1) (fun _ => CounterSet.zero)

/-- The bond follows the new policy record (R125). -/
def State.rebond (s : State) (p : Nat) (before after : Bond) : State :=
  match before, after with
  | .none, .pair => s.formBond p
  | .pair, .none => s.dissolveBond p
  | .none, .none => s
  | .pair, .pair => s

/-- SET_PORT(port, policy) (R124). -/
def setPortEffect (body : List Byte) (s : State) : Performed :=
  let p := portAt body 0
  match s.portRefusal p with
  | some status => .refuse status
  | none =>
    if (s.port p).state != .disabled then .refuse .wrongState
    else
      match policyAt body 1 with
      | none => .refuse .badValue
      | some pol =>
        if pol.bond == .pair && p % 2 == 1 then .refuse .badValue
        else if pol.bond == .pair && !s.partnerDisabled p then .refuse .wrongState
        else .ok ((s.updPort p (fun x => { x with policy := pol })).rebond p (s.policy p).bond pol.bond) .nothing

/-- Whether a drain group's pacer has no nonzero rate, active or pending (R118). -/
def Pacer.noRate (p : Pacer) : Bool := p.rate.isZero && !p.pending.any (fun r => !r.rate.isZero)

/-- Whether a FAULTED group's clearing sequence is complete (R135). -/
def State.cleared (s : State) (g : Nat) : Bool := (s.port g).clearing == .statusRead && s.allStopped g

/-- An accepted ENABLE_PORT (R127, R135). -/
def State.enable (s : State) (g : Nat) : State :=
  let s := s.updPort g (fun x =>
    { x with state := .starting, clearing := .none, fault := if x.state == .faulted then none else x.fault,
             drainCause := none, strayMarkers := 0 })
  let s := (s.updMembers g (fun x => { x with startedSeen := false })).handStart g
  s.updCounters g (fun c => { c with counts := Vector.replicate 6 0 })

/-- ENABLE_PORT(port) (R127). -/
def enablePortEffect (body : List Byte) (s : State) : Performed :=
  let p := portAt body 0
  match s.portRefusal p with
  | some status => .refuse status
  | none =>
    let state := (s.port p).state
    if state != .disabled && state != .faulted then .refuse .wrongState
    else if state == .faulted && !s.cleared p then .refuse .faultPending
    else if (s.pacer p).noRate then .refuse .noRate
    else .ok (s.enable p) .nothing

/-- A FAULTED group goes to DRAIN_OUT: its stopped-seen flags and fault record are kept and no STOP_DIVERT is sent (R135). -/
def State.drainFaulted (s : State) (g : Nat) (cause : DrainCause) : State :=
  s.updPort g (fun x => { x with state := .drainOut, drainCause := some cause, clearing := .none })

/-- DISABLE_PORT(port, DRAIN) (R130, R135). A mode that is not defined is refused after the WRONG_PORT test (R183). -/
def disableDrainEffect (body : List Byte) (s : State) : Performed :=
  let p := portAt body 0
  match s.portRefusal p with
  | some status => .refuse status
  | none =>
    if byteAt body 1 != 0 then .refuse .badValue
    else
      match (s.port p).state with
      | .disabled => .refuse .wrongState
      | .drainOut => .refuse .wrongState
      | .starting => .ok (s.enterDrainOut p .host) .nothing
      | .active => .ok (s.enterDrainOut p .host) .nothing
      | .faulted => .ok (s.drainFaulted p .host) .nothing

/-- The aborts of a flush, in ascending slot order (R131). -/
def State.abortGroup (s : State) (g : Nat) : State :=
  (((s.groupEpisodes g).filter Episode.isOpen).map (fun e => e.slot)).foldl State.abortEpisode s

/-- DISABLE_PORT(port, FLUSH) (R131, R135). -/
def disableFlushEffect (body : List Byte) (s : State) : Performed :=
  let p := portAt body 0
  match s.portRefusal p with
  | some status => .refuse status
  | none =>
    match (s.port p).state with
    | .disabled => .refuse .wrongState
    | .starting => .ok ((s.abortGroup p).enterDrainOut p .flush) .nothing
    | .active => .ok ((s.abortGroup p).enterDrainOut p .flush) .nothing
    | .drainOut => .ok ((s.abortGroup p).updPort p (fun x => { x with drainCause := some .flush })) .nothing
    | .faulted => .ok ((s.abortGroup p).drainFaulted p .flush) .nothing

/-- DISABLE_PORT(port, mode): the two modes of Table 11-2, kind 05h; another mode is refused by the DRAIN tests (R183). -/
def disablePortEffect (body : List Byte) (s : State) : Performed :=
  if byteAt body 1 = 1 then disableFlushEffect body s else disableDrainEffect body s

/-- RESUME_PORT(port) (R137). -/
def resumePortEffect (body : List Byte) (s : State) : Performed :=
  let p := portAt body 0
  match s.portRefusal p with
  | some status => .refuse status
  | none => .ok (s.updPort p (fun x => { x with suspended := false })) (.flag (s.port p).suspended)

/-- The number of a drain group's episodes in a state. -/
def State.countEpisodes (s : State) (g : Nat) (state : EpState) : Nat :=
  ((s.groupEpisodes g).filter (fun e => e.state == state)).length

/-- The snapshot of PORT_STATUS for the port named (R139). -/
def State.portReply (s : State) (p : Nat) : PortReply :=
  let g := s.groupOf p
  let x := s.port g
  { port := p, role := (s.port p).role, group := g, state := x.state,
    members := (s.members g).map (fun m => ⟨m, (s.port m).startedSeen, (s.port m).stoppedSeen, s.link.egressFull.getLsbD m⟩),
    suspended := x.suspended, clearing := x.clearing, drainCause := x.drainCause, fault := x.fault,
    strayMarkers := x.strayMarkers, policy := x.policy, armed := s.countEpisodes g .armed,
    active := s.countEpisodes g .active, draining := s.countEpisodes g .draining, linger := s.countEpisodes g .linger }

/-- PORT_STATUS(port) (R139). -/
def portStatusEffect (body : List Byte) (s : State) : Performed :=
  let p := portAt body 0
  if Config.portCount ≤ p then .refuse .badValue
  else
    .ok (s.updPort (s.groupOf p) (fun x => if x.state == .faulted then { x with clearing := .statusRead } else x))
      (.port (s.portReply p))

/-! ### Rates (05) -/

/-- SET_RATE(port, X, A, B, burst, apply, continuity) (R112). -/
def setRateEffect (body : List Byte) (s : State) : Performed :=
  let p := portAt body 0
  match s.portRefusal p with
  | some status => .refuse status
  | none =>
    let burst := fieldAt body 6 3
    match rateAt body with
    | none => .refuse .badValue
    | some rate =>
      if 262143 < burst then .refuse .badValue
      else
        match applyAt body 9, continuityAt body 10 with
        | some apply, some continuity =>
          .ok (s.updPacer p (fun x => { x with pending := some ⟨rate, burst, apply, continuity⟩, commit := false })) .nothing
        | _, _ => .refuse .badValue

/-- Whether a pacer's pending rate waits for a commit (R114). -/
def Pacer.waitsForCommit (p : Pacer) : Bool := p.pending.any (fun r => r.apply == .onCommit)

/-- COMMIT_RATE(ports) (R114). -/
def commitRateEffect (body : List Byte) (s : State) : Performed :=
  let ports := firstOnes (body.map (fun b => b.toNat))
  if ports.isEmpty || ports.any (fun p => decide (Config.portCount ≤ p)) then .refuse .badValue
  else if ports.any (fun p => (s.port p).role == .pairOdd) then .refuse .wrongPort
  else
    let marked := ports.filter (fun p => (s.pacer p).waitsForCommit)
    if marked.isEmpty then .refuse .wrongState
    else .ok (marked.foldl (fun s p => s.updPacer p (fun x => { x with commit := true })) s) (.ports marked)

/-- RATE_STATUS(port) (R119). -/
def rateStatusEffect (body : List Byte) (s : State) : Performed :=
  let p := portAt body 0
  match s.portRefusal p with
  | some status => .refuse status
  | none =>
    let x := s.pacer p
    .ok s (.rate { rate := x.rate, burst := x.burst, releaseCredit := x.releaseCredit, grantCredit := x.grantCredit,
                   remainder := x.remainder, pending := x.pending, commit := x.commit, cursors := x.cursors,
                   releaseInFlight := (s.release? p).isSome, gateOpen := s.gateOpen p, suspended := (s.port p).suspended,
                   clock := s.reportedClock, grantQueueFill := s.sched.queue.length,
                   backlogLength := s.sched.backlog.length, notMade := s.sched.notMade })

/-! ### Episodes (01, 02) -/

/-- LIST_EPISODES(port, start) (R29). -/
def listEpisodesEffect (body : List Byte) (s : State) : Performed :=
  let p := portAt body 0
  match s.portRefusal p with
  | some status => .refuse status
  | none =>
    let start := fieldAt body 1 2
    if Config.slotCount < start then .refuse .badValue
    else
      let found := ((s.groupEpisodes p).filter (fun e => decide (start ≤ e.slot))).take 32
      let next := if found.length = 32 then (found.getLast?.map (fun e => e.slot + 1)).getD Config.slotCount else Config.slotCount
      .ok s (.handles (found.map (fun e => s.handleOf e.slot)) next)

/-- The snapshot of EPISODE_STATUS (R28). -/
def State.episodeReply (s : State) (e : Episode) : EpisodeReply :=
  { handle := s.handleOf e.slot, key := e.key, origin := e.origin, state := e.state, halted := e.halted,
    expired := e.expired, damaged := e.damaged, closeReason := e.closeReason, cls := e.cls, report := e.report, n := e.n,
    e := e.e, reservation := e.reservation, heldOwn := e.heldOwn, borrowed := e.borrowed, granted := e.granted,
    queueLength := e.holdQueue.length, inFlight := if e.inFlight then 1 else 0, rosterSize := e.roster.length,
    finished := e.finished, unlisted := e.unlisted, deadline := e.deadline.map (fun d => (d.value, d.last)),
    idle := e.idle.map (fun c => c.value), linger := e.linger.map (fun c => c.value), arrived := e.arrived,
    released := e.released, trimmed := e.trimmed, discarded := e.discarded }

/-- EPISODE_STATUS(handle) (R28). -/
def episodeStatusEffect (body : List Byte) (s : State) : Performed :=
  match s.live? (handleAt body 0) with
  | none => .refuse .staleHandle
  | some e => .ok s (.episode (s.episodeReply e))

/-- HALT_EPISODE and RESUME_EPISODE write the halted flag of an ARMED, ACTIVE or DRAINING episode (R25). -/
def haltEffect (halted : Bool) (body : List Byte) (s : State) : Performed :=
  match s.live? (handleAt body 0) with
  | none => .refuse .staleHandle
  | some e => if e.isOpen then .ok (s.updEp e.slot (fun x => { x with halted := halted })) .nothing else .refuse .wrongState

/-- ABORT_EPISODE(handle) (R26). -/
def abortEffect (body : List Byte) (s : State) : Performed :=
  match s.live? (handleAt body 0) with
  | none => .refuse .staleHandle
  | some e => if e.isOpen then .ok (s.abortEpisode e.slot) .nothing else .refuse .wrongState

/-- Whether an episode is SIGHTED and ARMED or ACTIVE (R22, R56). -/
def Episode.takesMore (e : Episode) : Bool := e.origin == .sighted && (e.state == .armed || e.state == .active)

/-- EXTEND_DEADLINE(handle, value) (R22). A tick that waits to be taken stays due and counts the reloaded counter down
(R22, log entry 6). -/
def extendEffect (body : List Byte) (s : State) : Performed :=
  let value := (byteAt body 2).toNat
  if value = 0 then .refuse .badValue
  else
    match s.live? (handleAt body 0) with
    | none => .refuse .staleHandle
    | some e =>
      match e.takesMore, e.deadline with
      | true, some d =>
        if d.value ≤ d.last / 2 then
          .ok (s.updEp e.slot (fun x => { x with deadline := some ⟨value, value, d.due⟩ })) (.number value)
        else .refuse .early
      | _, _ => .refuse .wrongState

/-- ADD_RESERVATION(handle, cells) (R56). -/
def addReservationEffect (body : List Byte) (s : State) : Performed :=
  let cells := fieldAt body 2 2
  if !(inRange 1 16384 cells) then .refuse .badValue
  else
    match s.live? (handleAt body 0) with
    | none => .refuse .staleHandle
    | some e =>
      if !e.takesMore then .refuse .wrongState
      else if 65535 < e.reservation + cells then .refuse .badValue
      else if s.claimableRoom < cells then .refuse .noSpace
      else .ok (s.updEp e.slot (fun x => { x with reservation := x.reservation + cells })) (.number (e.reservation + cells))

/-- CAPTURE(handle): refused if the handle is stale, else held by the engine while the capture reader waits (R87, R95). -/
def captureEffect (body : List Byte) (s : State) : Performed :=
  match s.live? (handleAt body 0) with
  | none => .refuse .staleHandle
  | some _ => .held

/-! ### The store (04) -/

/-- STORE_STATUS (R78). -/
def storeStatusEffect (_ : List Byte) (s : State) : Performed :=
  .ok s (.store { cells := Config.cellCount, freeCells := s.freeCells, sumR := s.sumR, sumB := s.sumB, floor := s.store.floor,
                  claimableRoom := s.claimableRoom, writesWaiting := s.store.writeList.length,
                  writesBytes := (s.store.writeList.map (fun p => p.length)).sum, releasedFill := s.store.released.length,
                  corrected := s.store.corrected, freeEntries := s.freeEntries, episodes := s.table.episodes.length })

/-- The state with the shared floor written. -/
def State.setFloor (s : State) (floor : Nat) : State := { s with store := { s.store with floor := floor } }

/-- SET_POOL(floor) (R77). -/
def setPoolEffect (body : List Byte) (s : State) : Performed :=
  let floor := fieldAt body 0 3
  if Config.cellCount < floor then .refuse .badValue
  else .ok (s.setFloor floor) (.pool floor (s.setFloor floor).claimableRoom)

/-! ### Counters (08) -/

/-- READ_COUNTERS(port) (R166). -/
def readCountersEffect (body : List Byte) (s : State) : Performed :=
  let p := portAt body 0
  match s.portRefusal p with
  | some status => .refuse status
  | none =>
    .ok s (.counters { set := s.counterSet p, threshold := s.counters.threshold, mode := (s.policy p).mode,
                       protect := (s.policy p).protect })

/-- CLEAR_COUNTERS(port) (R167). -/
def clearCountersEffect (body : List Byte) (s : State) : Performed :=
  let p := portAt body 0
  match s.portRefusal p with
  | some status => .refuse status
  | none => .ok (s.updCounters p (fun _ => CounterSet.zero)) (.cleared (s.counterSet p))

/-- SET_THRESHOLD(value) (R165). -/
def setThresholdEffect (body : List Byte) (s : State) : Performed :=
  let value := (byteAt body 0).toNat
  if value = 0 then .refuse .badValue
  else .ok { s with counters := { s.counters with threshold := value } } (.number s.counters.threshold)

/-! ### The link (07) -/

/-- The snapshot of LINK_STATUS (R155). -/
def State.linkReply (s : State) : LinkReply :=
  let l := s.link
  { state := l.state, lanes := vmap l.lanes (fun x => ⟨x.alignRun, x.framingRun, x.codeErrors⟩), expected := l.expected,
    lastGood := l.lastGood, established := l.established, mismatch := l.mismatch, loss := l.loss, paused := l.paused, hold := l.hold, stagingFill := s.stagingFill,
    controlFill := l.control.length, stubFill := l.stubs.length, passFill := min Config.passPlaces l.passList.length,
    passBacklog := l.passList.length - Config.passPlaces, discards := l.discards, stagingDrops := l.stagingDrops,
    ignoredSightings := l.ignoredSightings, rejectedWords := l.rejectedWords, returnLosses := l.returnLosses }

/-- LINK_STATUS (R155): the mismatch and loss marks are cleared. -/
def linkStatusEffect (_ : List Byte) (s : State) : Performed :=
  .ok { s with link := { s.link with mismatch := false, loss := false } } (.link s.linkReply)

/-- The expected parameters are replaced; in PARAMS with a last good block that matches, the link reaches UP (R156). -/
def State.expectParams (s : State) (p : LinkParams) : State :=
  let s := { s with link := { s.link with expected := p } }
  if s.link.state == .params && s.link.lastGood == some p then s.reachUp p else s

/-- SET_LINK_PARAMS (R156). -/
def setLinkParamsEffect (body : List Byte) (s : State) : Performed :=
  match linkParamsAt body with
  | none => .refuse .badValue
  | some p => .ok (s.expectParams p) .nothing

/-- RELINK (R157): from UP a loss of the link with cause RELINK, else the return to ALIGNING alone. -/
def relinkEffect (_ : List Byte) (s : State) : Performed :=
  .ok (if s.linkUp then s.loseLink .relink else s.toAligning) .nothing

end Sys2Proof.Machine
end

