-- ==== Sys2Proof/Machine/Engine.lean ====
section
/-! DEFINITION. The command engine (R171 to R174, R177): which rule performs a command, the take of the head command with its
checks, its performance and its reply in one event, and the giving of a free reply place. -/

namespace Sys2Proof.Machine

/-- The performance of a command by its kind (Tables 9-1, 11-2). A kind that is no command kind does not pass the shared
checks. -/
def performed (f : Frame) (s : State) : Performed :=
  match f.kind.toNat with
  | 1 => identifyEffect f.body s
  | 2 => .accepted
  | 3 => setPortEffect f.body s
  | 4 => enablePortEffect f.body s
  | 5 => disablePortEffect f.body s
  | 6 => resumePortEffect f.body s
  | 7 => portStatusEffect f.body s
  | 8 => setRateEffect f.body s
  | 9 => commitRateEffect f.body s
  | 10 => rateStatusEffect f.body s
  | 11 => listEpisodesEffect f.body s
  | 12 => episodeStatusEffect f.body s
  | 13 => haltEffect true f.body s
  | 14 => haltEffect false f.body s
  | 15 => abortEffect f.body s
  | 16 => extendEffect f.body s
  | 17 => addReservationEffect f.body s
  | 18 => captureEffect f.body s
  | 19 => readCountersEffect f.body s
  | 20 => clearCountersEffect f.body s
  | 21 => setThresholdEffect f.body s
  | 22 => storeStatusEffect f.body s
  | 23 => setPoolEffect f.body s
  | 24 => linkStatusEffect f.body s
  | 25 => setLinkParamsEffect f.body s
  | 26 => relinkEffect f.body s
  | _ => .refuse .badKind

/-- A command that passed the shared checks is performed whole, and its reply is made with it (R173, R174). CAPTURE stays with
the engine until it is answered (R95, R96), RESET_PART until the reset event, its ACCEPTED reply made at once (R177). -/
def State.perform (s : State) (f : Frame) : State :=
  match performed f s with
  | .refuse status => s.reply f status .nothing
  | .ok s' body => s'.reply f .ok body
  | .held => { s with mgmt := { s.mgmt with engine := .capturing f.tag (handleAt f.body 0) } }
  | .accepted => { s with mgmt := { s.mgmt with engine := .resetting } }.reply f .accepted .nothing

/-- The engine takes the head command: the shared checks in their order, then the performance, all in the take event
(R172, R173). -/
def State.take (s : State) (f : Frame) (rest : List Frame) : State :=
  let s := { s with mgmt := { s.mgmt with commands := rest } }
  match sharedCheck s.mgmt.ready f with
  | some status => s.reply f status .nothing
  | none => s.perform f

/-- A free place is given to the first that wants one: the oldest owed NOT_READY reply, the command engine, the framer (R172). -/
def State.give (s : State) : State :=
  if s.mgmt.placeFree then
    match s.mgmt.owed with
    | f :: rest => { s with mgmt := { s.mgmt with owed := rest } }.reply f .notReady .nothing
    | [] =>
      match s.mgmt.engine, s.mgmt.commands with
      | .idle, f :: rest => s.take f rest
      | _, _ => { s with mgmt := s.mgmt.giveFramer }
  else s

/-- Whether a free place would be given to somebody (R172). -/
def Mgmt.wantsPlace (m : Mgmt) : Bool :=
  m.placeFree && (!m.owed.isEmpty || (m.engine == .idle && !m.commands.isEmpty) || decide (0 < m.pendingErrors) ||
    !m.busyBacklog.isEmpty)

/-- The framer finished a frame (R169): a discard is counted (R170), an accepted frame joins the command queue or is refused
(R171), and a free place serves it in the same event (R172, R173). -/
def State.frameDone (s : State) (found : Option Frame) : State :=
  match found with
  | none => { s with mgmt := s.mgmt.discardFrame }.give
  | some f => { s with mgmt := s.mgmt.acceptFrame f }.give

end Sys2Proof.Machine
end

