-- ==== Sys2Proof/Machine/Settle.lean ====
section
/-! DEFINITION. What every event ends with: the completions, decisions and arbitrations that its changes lead to, in the same
event (R58, R84, R107, R132, R153, R172, R173, R180; log entry 7), and the events of the management receive line. -/

namespace Sys2Proof.Machine

/-- Whether a drain group in DRAIN_OUT meets the completion condition: every stopped-seen flag set, every non-FREE episode
LINGER and closed (R132). -/
def State.drainComplete (s : State) (g : Nat) : Bool :=
  (s.port g).state == .drainOut && s.allStopped g && (s.groupEpisodes g).all Episode.isClosed

/-- A drain group whose drain-out is complete frees its episodes and goes to DISABLED (R16, R132). -/
def State.completeDrain (s : State) (g : Nat) : State :=
  if s.drainComplete g then
    let s := ((s.groupEpisodes g).map (fun e => e.slot)).foldl State.freeEpisode s
    (s.updPort g (fun p => { p with state := .disabled, suspended := false, drainCause := none })).raisePortState g .drained
  else s

/-- The drain-outs that the event completed (R132). -/
def State.completeDrains (s : State) : State := s.groups.foldl State.completeDrain s

/-- What comes about in the blocks after a change, in the same event (log entry 7). `wasIdle`: whether the DRAM was idle
before the event. -/
def State.consequences (s : State) (wasIdle : Bool) : State :=
  let s := s.completeDrains
  let s := s.beginItem
  let s := s.beginReleases
  let s := s.storeArbiter wasIdle
  let s := s.decisions 512
  let s := s.beginItem
  s.decisions 512

/-- Free places are given one by one, and what each performed command leads to comes about before the next is taken (R172,
R173). Each gift uses one of the 16 places. -/
def State.serve (wasIdle : Bool) : Nat → State → State
  | 0, s => s
  | fuel + 1, s => if s.mgmt.wantsPlace then State.serve wasIdle fuel (s.give.consequences wasIdle) else s

/-- What follows from an event inside the same event (log entry 7): the consequences of its own effect; the commands that the
engine can take; the transmitter's begin, and the place it frees given (R172, R180); the THRESHOLD notices' port state. -/
def State.settle (s : State) (wasIdle : Bool) : State :=
  let s := (s.consequences wasIdle).serve wasIdle 16
  let s := s.refreshThresholds.transmit
  let s := s.serve wasIdle 16
  { s.refreshThresholds with evThresholds := [] }

/-- The state in which an event begins: nothing sent and no THRESHOLD raised in it yet. -/
def State.freshEvent (s : State) : State := { s with out := [], evThresholds := [] }

/-- An event of the part: no event is taken while the reset input is asserted (log entry 3); else its own effect, and what
follows from it. -/
def State.event (s : State) (effect : State → State) : State :=
  if s.inReset then s else (effect s.freshEvent).settle s.dramIdle

/-- The outcome of an event: always a next state. -/
def eventOutcome (s : State) (effect : State → State) : Host.Outcome State Fault Refusal := .next (s.event effect)

/-! ### Bytes on the management receive line (R169) -/

/-- A frame that the framer finished, with what follows from it: one event. -/
def State.frameEvent (s : State) (found : Option Frame) : State := (s.frameDone found).settle s.dramIdle

/-- Bytes arrive: each frame they finish is an event of its own, in their order (R169, log entry 31). -/
def State.receiveBytes (s : State) (bytes : List Byte) : State :=
  let all := s.mgmt.framer ++ bytes
  let scan := scanFrames all.length all
  scan.found.foldl State.frameEvent { s with mgmt := { s.mgmt with framer := scan.rest } }

/-- The outcome of bytes on the receive line; none are taken while the reset input is asserted (log entry 3). -/
def bytesOutcome (bytes : List Byte) (s : State) : Host.Outcome State Fault Refusal :=
  .next (if s.inReset then s else s.freshEvent.receiveBytes bytes)

/-- The host sends a command: the bytes of its frame arrive (R169, log entry 1). -/
def hostSends (f : Frame) (s : State) : Host.Outcome State Fault Refusal := bytesOutcome f.encode s

end Sys2Proof.Machine
end

