-- ==== Sys2Proof/Machine/ExecCounters.lean ====
section
/-! DEFINITION. The meanings of the counter commands (08). -/

namespace Sys2Proof.Machine

/-- READ_COUNTERS (R166). -/
def execReadCounters (s : State) (tag port : Byte := 0) : Host.Outcome State Fault Refusal :=
  hostSends ⟨kindReadCounters, tag, [port]⟩ s

/-- CLEAR_COUNTERS (R167). -/
def execClearCounters (s : State) (tag port : Byte := 0) : Host.Outcome State Fault Refusal :=
  hostSends ⟨kindClearCounters, tag, [port]⟩ s

/-- SET_THRESHOLD (R165). -/
def execSetThreshold (s : State) (tag value : Byte := 0) : Host.Outcome State Fault Refusal :=
  hostSends ⟨kindSetThreshold, tag, [value]⟩ s

end Sys2Proof.Machine
end

