-- ==== Sys2Proof/Machine/ExecEpisodes.lean ====
section
/-! DEFINITION. The meanings of the episode commands (01, 02). -/

namespace Sys2Proof.Machine

/-- LIST_EPISODES (R29). -/
def execListEpisodes (s : State) (tag port : Byte := 0) (start : Half := 0) : Host.Outcome State Fault Refusal :=
  hostSends ⟨kindListEpisodes, tag, [port] ++ toBe 2 start.toNat⟩ s

/-- EPISODE_STATUS (R28). -/
def execEpisodeStatus (s : State) (tag : Byte := 0) (handle : Half := 0) : Host.Outcome State Fault Refusal :=
  hostSends ⟨kindEpisodeStatus, tag, toBe 2 handle.toNat⟩ s

/-- HALT_EPISODE (R25): the halted flag is set. -/
def execHaltEpisode (s : State) (tag : Byte := 0) (handle : Half := 0) : Host.Outcome State Fault Refusal :=
  hostSends ⟨kindHaltEpisode, tag, toBe 2 handle.toNat⟩ s

/-- RESUME_EPISODE (R25): the halted flag is cleared. -/
def execResumeEpisode (s : State) (tag : Byte := 0) (handle : Half := 0) : Host.Outcome State Fault Refusal :=
  hostSends ⟨kindResumeEpisode, tag, toBe 2 handle.toNat⟩ s

/-- ABORT_EPISODE (R26). -/
def execAbortEpisode (s : State) (tag : Byte := 0) (handle : Half := 0) : Host.Outcome State Fault Refusal :=
  hostSends ⟨kindAbortEpisode, tag, toBe 2 handle.toNat⟩ s

/-- EXTEND_DEADLINE (R22). -/
def execExtendDeadline (s : State) (tag : Byte := 0) (handle : Half := 0) (value : Byte := 0) : Host.Outcome State Fault Refusal :=
  hostSends ⟨kindExtendDeadline, tag, toBe 2 handle.toNat ++ [value]⟩ s

/-- ADD_RESERVATION (R56). -/
def execAddReservation (s : State) (tag : Byte := 0) (handle cells : Half := 0) : Host.Outcome State Fault Refusal :=
  hostSends ⟨kindAddReservation, tag, toBe 2 handle.toNat ++ toBe 2 cells.toNat⟩ s

end Sys2Proof.Machine
end

