-- ==== Sys2Proof/Machine/ExecLink.lean ====
section
/-! DEFINITION. The meanings of the divert link's commands, words and events (07). -/

namespace Sys2Proof.Machine

/-- LINK_STATUS (R155). -/
def execLinkStatus (s : State) (tag : Byte := 0) : Host.Outcome State Fault Refusal :=
  hostSends ⟨kindLinkStatus, tag, []⟩ s

/-- SET_LINK_PARAMS (R156). -/
def execSetLinkParams (s : State) (tag : Byte := 0) (linkId : Half := 0) (laneCount portCount : Byte := 0) (maxLength : Half := 0) :
    Host.Outcome State Fault Refusal :=
  hostSends ⟨kindSetLinkParams, tag, toBe 2 linkId.toNat ++ [laneCount, portCount] ++ toBe 2 maxLength.toNat⟩ s

/-- RELINK (R157). -/
def execRelink (s : State) (tag : Byte := 0) : Host.Outcome State Fault Refusal :=
  hostSends ⟨kindRelink, tag, []⟩ s

/-- FRAMING_ERROR (R142). -/
def execFramingError (lane : Fin 4) (s : State) : Host.Outcome State Fault Refusal :=
  eventOutcome s (·.framingError lane.val)

/-- DAMAGED_WORD (R142, R145, R149). -/
def execDamagedWord (blocks : Vector BlockCheck 4) (typeCode : Byte) (ofPacket : Bool) (s : State) :
    Host.Outcome State Fault Refusal := eventOutcome s (·.damagedWord blocks typeCode ofPacket)

/-- ALIGNMENT_WORD (R143). -/
def execAlignmentWord (lanes : BitVec 4) (s : State) : Host.Outcome State Fault Refusal :=
  eventOutcome s (·.alignmentWord lanes)

/-- LANE_MARKER_WORD (R144). -/
def execLaneMarkerWord (lanes : BitVec 4) (s : State) : Host.Outcome State Fault Refusal :=
  eventOutcome s (·.laneMarkerWord lanes)

/-- PARAMETER_BLOCK (R145): taken in PARAMS, a rejected word in UP (R148). -/
def execParameterBlock (linkId : Half) (laneCount portCount : Byte) (maxLength : Half) (checksum : Byte) (s : State) :
    Host.Outcome State Fault Refusal :=
  eventOutcome s (·.takeWord (·.takeParams ⟨linkId.toNat, laneCount.toNat, portCount.toNat, maxLength.toNat⟩ checksum)
    State.rejectWord)

/-- PACKET_DESCRIPTOR (R149). -/
def execPacketDescriptor (port flags : Byte) (length : Half) (dest src : Endpoint) (tag grant : Half) (s : State) :
    Host.Outcome State Fault Refusal :=
  eventOutcome s (·.takeWord id (·.takeDescriptor ⟨port.toNat, flags, length.toNat, dest, src, tag, grant⟩))

/-- PAYLOAD_WORD (R149). -/
def execPayloadWord (last : Bool) (count : Byte) (data : List Byte) (s : State) : Host.Outcome State Fault Refusal :=
  eventOutcome s (·.takeWord id (·.takePayload last count data))

/-- The announcement of a SIGHTING word; an E of 0 is not announced (R31). Its group is read from the port when it is taken. -/
def announcement (requester : Endpoint) (tag : Half) (n : Byte) (e : Half) (cls : BitVec 2) (report : Bool) : Announcement :=
  { key := ⟨0, requester, tag⟩, n := n.toNat, e := if e = 0 then none else some e.toNat, cls := cls.toNat, report := report }

/-- SIGHTING (R5 to R8, R148). -/
def execSighting (port : Byte) (requester : Endpoint) (tag : Half) (n : Byte) (e : Half) (cls : BitVec 2) (report : Bool)
    (s : State) : Host.Outcome State Fault Refusal :=
  eventOutcome s (·.takeWord id (·.sightingWord port.toNat (announcement requester tag n e cls report)))

/-- DIVERT_STARTED (R126, R128). -/
def execDivertStarted (port : Byte) (s : State) : Host.Outcome State Fault Refusal :=
  eventOutcome s (·.takeWord id (·.markerWord port.toNat State.started))

/-- DIVERT_STOPPED (R126, R132). -/
def execDivertStopped (port : Byte) (s : State) : Host.Outcome State Fault Refusal :=
  eventOutcome s (·.takeWord id (·.markerWord port.toNat State.stopped))

/-- The egress-full flags of a STATUS word replace all 48 (R109). -/
def State.setEgress (s : State) (full : BitVec 48) : State :=
  { s with link := { s.link with egressFull := full } }

/-- The hold on returns is put in force or lifted (R154). -/
def State.setHold (s : State) (hold : Bool) : State := { s with link := { s.link with hold := hold } }

/-- STATUS_WORD (R109). -/
def execStatusWord (full : BitVec 48) (s : State) : Host.Outcome State Fault Refusal :=
  eventOutcome s (·.takeWord id (·.setEgress full))

/-- HOLD_RETURN (R154). -/
def execHoldReturn (s : State) : Host.Outcome State Fault Refusal :=
  eventOutcome s (·.takeWord id (·.setHold true))

/-- RESUME_RETURN (R154). -/
def execResumeReturn (s : State) : Host.Outcome State Fault Refusal :=
  eventOutcome s (·.takeWord id (·.setHold false))

/-- IDLE_WORD (R148). -/
def execIdleWord (s : State) : Host.Outcome State Fault Refusal := eventOutcome s (·.takeWord id id)

/-- A word of no type, or a MARKER of no code, is rejected; whether such a MARKER also breaks an open packet the manual leaves
open (R148, log entry 15). -/
def State.unknownWord (s : State) (marker : Bool) : State :=
  (if marker && Config.badMarkerBreaks then s.breakOpen false else s).rejectWord

/-- UNKNOWN_TYPE_WORD (R148, R185). -/
def execUnknownTypeWord (marker : Bool) (s : State) : Host.Outcome State Fault Refusal :=
  eventOutcome s (·.takeWord id (·.unknownWord marker))

/-- RETURN_ITEM_COMPLETE (R153). -/
def execReturnItemComplete (s : State) : Host.Outcome State Fault Refusal := eventOutcome s State.finishItem

end Sys2Proof.Machine
end

