-- ==== Sys2Proof/Machine/ExecManagement.lean ====
section
/-! DEFINITION. The meanings of the management link's rows: FRAME_RECEIVED, IDENTIFY, RESET_PART, TRANSMIT_COMPLETE. -/

namespace Sys2Proof.Machine

/-- FRAME_RECEIVED (R169 to R172): the framer takes the bytes. -/
def execFrameReceived (bytes : List Byte) (s : State) : Host.Outcome State Fault Refusal :=
  bytesOutcome bytes s

/-- IDENTIFY (R176). -/
def execIdentify (s : State) (tag : Byte := 0) : Host.Outcome State Fault Refusal :=
  hostSends ⟨kindIdentify, tag, []⟩ s

/-- RESET_PART (R177): the ACCEPTED reply; the reset event follows at that reply's completion. -/
def execResetPart (s : State) (tag : Byte := 0) : Host.Outcome State Fault Refusal :=
  hostSends ⟨kindResetPart, tag, []⟩ s

/-- TRANSMIT_COMPLETE (R180), with the reset event of R177 where the frame is RESET_PART's ACCEPTED reply. -/
def execTransmitComplete (s : State) : Host.Outcome State Fault Refusal := eventOutcome s State.transmitDone

end Sys2Proof.Machine
end

