-- ==== Sys2Proof/Machine/ExecPorts.lean ====
section
/-! DEFINITION. The meanings of the port commands (06). -/

namespace Sys2Proof.Machine

/-- SET_PORT (R124, R125). -/
def execSetPort (s : State) (tag port : Byte := 0) (policy : Vector Byte 18 := Vector.replicate 18 0) : Host.Outcome State Fault Refusal :=
  hostSends ⟨kindSetPort, tag, [port] ++ policy.toList⟩ s

/-- ENABLE_PORT (R127, R135). -/
def execEnablePort (s : State) (tag port : Byte := 0) : Host.Outcome State Fault Refusal :=
  hostSends ⟨kindEnablePort, tag, [port]⟩ s

/-- DISABLE_PORT with mode DRAIN (R130, R135). -/
def execDisablePortDrain (s : State) (tag port : Byte := 0) : Host.Outcome State Fault Refusal :=
  hostSends ⟨kindDisablePort, tag, [port, 0]⟩ s

/-- DISABLE_PORT with mode FLUSH (R131, R135). -/
def execDisablePortFlush (s : State) (tag port : Byte := 0) : Host.Outcome State Fault Refusal :=
  hostSends ⟨kindDisablePort, tag, [port, 1]⟩ s

/-- RESUME_PORT (R137). -/
def execResumePort (s : State) (tag port : Byte := 0) : Host.Outcome State Fault Refusal :=
  hostSends ⟨kindResumePort, tag, [port]⟩ s

/-- PORT_STATUS (R139, R135). -/
def execPortStatus (s : State) (tag port : Byte := 0) : Host.Outcome State Fault Refusal :=
  hostSends ⟨kindPortStatus, tag, [port]⟩ s

end Sys2Proof.Machine
end

