-- ==== Sys2Proof/Machine/ExecRates.lean ====
section
/-! DEFINITION. The meanings of the rate commands (05). -/

namespace Sys2Proof.Machine

/-- SET_RATE (R112). -/
def execSetRate (s : State) (tag port x : Byte := 0) (a b : Half := 0) (burst : BitVec 24 := 0) (apply continuity : Byte := 0) :
    Host.Outcome State Fault Refusal :=
  hostSends ⟨kindSetRate, tag, [port, x] ++ toBe 2 a.toNat ++ toBe 2 b.toNat ++ toBe 3 burst.toNat ++ [apply, continuity]⟩ s

/-- COMMIT_RATE (R114). -/
def execCommitRate (s : State) (tag : Byte := 0) (ports : List Byte := []) : Host.Outcome State Fault Refusal :=
  hostSends ⟨kindCommitRate, tag, ports⟩ s

/-- RATE_STATUS (R119). -/
def execRateStatus (s : State) (tag port : Byte := 0) : Host.Outcome State Fault Refusal :=
  hostSends ⟨kindRateStatus, tag, [port]⟩ s

end Sys2Proof.Machine
end

