-- ==== Sys2Proof/Machine/ExecStore.lean ====
section
/-! DEFINITION. The meanings of the store's commands and events (04). -/

namespace Sys2Proof.Machine

/-- CAPTURE (R95): the engine holds it until the capture's grant or completion. -/
def execCapture (s : State) (tag : Byte := 0) (handle : Half := 0) : Host.Outcome State Fault Refusal :=
  hostSends ⟨kindCapture, tag, toBe 2 handle.toNat⟩ s

/-- STORE_STATUS (R78). -/
def execStoreStatus (s : State) (tag : Byte := 0) : Host.Outcome State Fault Refusal :=
  hostSends ⟨kindStoreStatus, tag, []⟩ s

/-- SET_POOL (R77). -/
def execSetPool (s : State) (tag : Byte := 0) (floor : BitVec 24 := 0) : Host.Outcome State Fault Refusal :=
  hostSends ⟨kindSetPool, tag, toBe 3 floor.toNat⟩ s

/-- STORE_INIT_COMPLETE (R98, R175, R181). -/
def execStoreInitComplete (s : State) : Host.Outcome State Fault Refusal := eventOutcome s State.finishInit

/-- STORE_WRITE_COMPLETE (R81). -/
def execStoreWriteComplete (s : State) : Host.Outcome State Fault Refusal := eventOutcome s State.finishWrite

/-- RELEASE_READ_COMPLETE (R89, R92, R93). -/
def execReleaseReadComplete (corrected : Nat) (uncorrectable : Bool) (s : State) : Host.Outcome State Fault Refusal :=
  eventOutcome s (·.finishRead corrected uncorrectable)

/-- CAPTURE_READ_COMPLETE (R96). -/
def execCaptureReadComplete (corrected : Nat) (uncorrectable : Bool) (s : State) : Host.Outcome State Fault Refusal :=
  eventOutcome s (·.finishCapture corrected uncorrectable)

end Sys2Proof.Machine
end

