-- ==== Sys2Proof/Machine/ExecTime.lean ====
section
/-! DEFINITION. The meanings of the reset input's and the clock's rows, of the pacer tick and of the expiries (01, 02, 05). -/

namespace Sys2Proof.Machine

/-- RESET_INPUT_ASSERT (R158): the part is held at its power-on state with the link DOWN. -/
def execResetInputAssert (s : State) : Host.Outcome State Fault Refusal := .next s.assertReset

/-- RESET_INPUT_RELEASE (R98, R158): store initialisation and link establishment begin. -/
def execResetInputRelease (s : State) : Host.Outcome State Fault Refusal := .next s.releaseReset

/-- CLOCK_START_DECISION (R121). -/
def execClockStartDecision (edgesSeen : Bool) (s : State) : Host.Outcome State Fault Refusal :=
  eventOutcome s (·.decideClock edgesSeen)

/-- REFERENCE_LOST (R120). -/
def execReferenceLost (s : State) : Host.Outcome State Fault Refusal := eventOutcome s State.loseReference

/-- REFERENCE_RETURNED (R121). -/
def execReferenceReturned (s : State) : Host.Outcome State Fault Refusal :=
  eventOutcome s State.regainReference

/-- PACER_TICK (R102, R103). -/
def execPacerTick (s : State) : Host.Outcome State Fault Refusal := eventOutcome s State.pacerTick

/-- GRANT_TIMER_EXPIRY (R53, R54): one grant of the responder at a place of an episode's roster. -/
def execGrantTimerExpiry (slot position number : Nat) (s : State) : Host.Outcome State Fault Refusal :=
  eventOutcome s (·.expireGrant slot position number)

/-- DEADLINE_EXPIRY (R18 to R21). -/
def execDeadlineExpiry (slot : Nat) (s : State) : Host.Outcome State Fault Refusal :=
  eventOutcome s (·.takeDeadline slot)

/-- IDLE_EXPIRY (R12). -/
def execIdleExpiry (slot : Nat) (s : State) : Host.Outcome State Fault Refusal :=
  eventOutcome s (·.takeIdle slot)

/-- LINGER_EXPIRY (R15). -/
def execLingerExpiry (slot : Nat) (s : State) : Host.Outcome State Fault Refusal :=
  eventOutcome s (·.takeLinger slot)

end Sys2Proof.Machine
end

