-- ==== Sys2Proof/Machine/Dispatch.lean ====
section
/-! DEFINITION. One arm per command: the meaning it calls. -/

namespace Sys2Proof.Machine

def exec (i : Instr) (s : State) : Host.Outcome State Fault Refusal :=
  match i with
  | .frameReceived bytes => Sys2Proof.Machine.execFrameReceived bytes s
  | .identify tag => Sys2Proof.Machine.execIdentify s tag
  | .resetPart tag => Sys2Proof.Machine.execResetPart s tag
  | .setPort tag port policy => Sys2Proof.Machine.execSetPort s tag port policy
  | .enablePort tag port => Sys2Proof.Machine.execEnablePort s tag port
  | .disablePortDrain tag port => Sys2Proof.Machine.execDisablePortDrain s tag port
  | .disablePortFlush tag port => Sys2Proof.Machine.execDisablePortFlush s tag port
  | .resumePort tag port => Sys2Proof.Machine.execResumePort s tag port
  | .portStatus tag port => Sys2Proof.Machine.execPortStatus s tag port
  | .setRate tag port x a b burst apply continuity => Sys2Proof.Machine.execSetRate s tag port x a b burst apply continuity
  | .commitRate tag ports => Sys2Proof.Machine.execCommitRate s tag ports
  | .rateStatus tag port => Sys2Proof.Machine.execRateStatus s tag port
  | .listEpisodes tag port start => Sys2Proof.Machine.execListEpisodes s tag port start
  | .episodeStatus tag handle => Sys2Proof.Machine.execEpisodeStatus s tag handle
  | .haltEpisode tag handle => Sys2Proof.Machine.execHaltEpisode s tag handle
  | .resumeEpisode tag handle => Sys2Proof.Machine.execResumeEpisode s tag handle
  | .abortEpisode tag handle => Sys2Proof.Machine.execAbortEpisode s tag handle
  | .extendDeadline tag handle value => Sys2Proof.Machine.execExtendDeadline s tag handle value
  | .addReservation tag handle cells => Sys2Proof.Machine.execAddReservation s tag handle cells
  | .capture tag handle => Sys2Proof.Machine.execCapture s tag handle
  | .readCounters tag port => Sys2Proof.Machine.execReadCounters s tag port
  | .clearCounters tag port => Sys2Proof.Machine.execClearCounters s tag port
  | .setThreshold tag value => Sys2Proof.Machine.execSetThreshold s tag value
  | .storeStatus tag => Sys2Proof.Machine.execStoreStatus s tag
  | .setPool tag floor => Sys2Proof.Machine.execSetPool s tag floor
  | .linkStatus tag => Sys2Proof.Machine.execLinkStatus s tag
  | .setLinkParams tag linkId laneCount portCount maxLength => Sys2Proof.Machine.execSetLinkParams s tag linkId laneCount portCount maxLength
  | .relink tag => Sys2Proof.Machine.execRelink s tag
  | .transmitComplete => Sys2Proof.Machine.execTransmitComplete s
  | .resetInputAssert => Sys2Proof.Machine.execResetInputAssert s
  | .resetInputRelease => Sys2Proof.Machine.execResetInputRelease s
  | .clockStartDecision edgesSeen => Sys2Proof.Machine.execClockStartDecision edgesSeen s
  | .storeInitComplete => Sys2Proof.Machine.execStoreInitComplete s
  | .referenceLost => Sys2Proof.Machine.execReferenceLost s
  | .referenceReturned => Sys2Proof.Machine.execReferenceReturned s
  | .pacerTick => Sys2Proof.Machine.execPacerTick s
  | .grantTimerExpiry slot position number => Sys2Proof.Machine.execGrantTimerExpiry slot position number s
  | .deadlineExpiry slot => Sys2Proof.Machine.execDeadlineExpiry slot s
  | .idleExpiry slot => Sys2Proof.Machine.execIdleExpiry slot s
  | .lingerExpiry slot => Sys2Proof.Machine.execLingerExpiry slot s
  | .framingError lane => Sys2Proof.Machine.execFramingError lane s
  | .damagedWord blocks typeCode ofPacket => Sys2Proof.Machine.execDamagedWord blocks typeCode ofPacket s
  | .alignmentWord lanes => Sys2Proof.Machine.execAlignmentWord lanes s
  | .laneMarkerWord lanes => Sys2Proof.Machine.execLaneMarkerWord lanes s
  | .parameterBlock linkId laneCount portCount maxLength checksum => Sys2Proof.Machine.execParameterBlock linkId laneCount portCount maxLength checksum s
  | .packetDescriptor port flags length dest src tag grant => Sys2Proof.Machine.execPacketDescriptor port flags length dest src tag grant s
  | .payloadWord last count data => Sys2Proof.Machine.execPayloadWord last count data s
  | .sighting port requester tag n e cls report => Sys2Proof.Machine.execSighting port requester tag n e cls report s
  | .divertStarted port => Sys2Proof.Machine.execDivertStarted port s
  | .divertStopped port => Sys2Proof.Machine.execDivertStopped port s
  | .statusWord full => Sys2Proof.Machine.execStatusWord full s
  | .holdReturn => Sys2Proof.Machine.execHoldReturn s
  | .resumeReturn => Sys2Proof.Machine.execResumeReturn s
  | .idleWord => Sys2Proof.Machine.execIdleWord s
  | .storeWriteComplete => Sys2Proof.Machine.execStoreWriteComplete s
  | .releaseReadComplete corrected uncorrectable => Sys2Proof.Machine.execReleaseReadComplete corrected uncorrectable s
  | .captureReadComplete corrected uncorrectable => Sys2Proof.Machine.execCaptureReadComplete corrected uncorrectable s
  | .returnItemComplete => Sys2Proof.Machine.execReturnItemComplete s
  | .unknownTypeWord marker => Sys2Proof.Machine.execUnknownTypeWord marker s

end Sys2Proof.Machine
end

