-- ==== Sys2Proof/Safety.lean ====
section
/-! DEFINITION. What the statements speak in: how a command ends its event, and the invariants of the block. -/

namespace Sys2Proof.Machine

/-! ### How a command ends its event -/

/-- The part takes events: the reset input is not asserted. -/
abbrev Runs (s : State) : Prop := s.inReset = false

/-- The engine takes a command in the event of its arrival: the framer is between frames, the engine holds no command, none
waits, no NOT_READY reply is owed, and a reply place is free (R169, R172, R173). -/
abbrev TakesCommand (s : State) : Prop :=
  s.inReset = false ∧ s.mgmt.framer = [] ∧ s.mgmt.engine = .idle ∧ s.mgmt.owed = [] ∧ s.mgmt.commands = [] ∧
    s.mgmt.replies.length < 16

/-- The same in a ready part, which performs every command (R173, R175). -/
abbrev Serves (s : State) : Prop := TakesCommand s ∧ s.mgmt.ready = true

/-- The handle in 16 bits: slot in bits 15 to 6, generation in bits 5 to 0 (11). -/
def handleOf (h : Half) : Handle := ⟨h.toNat / 64, BitVec.ofNat 6 h.toNat⟩

/-- The frame of a row that is a command of the host (Table 11-2); absent for the other rows. -/
def frameOf? : Instr → Option Frame
  | .identify tag => some ⟨kindIdentify, tag, []⟩
  | .resetPart tag => some ⟨kindResetPart, tag, []⟩
  | .setPort tag port policy => some ⟨kindSetPort, tag, [port] ++ policy.toList⟩
  | .enablePort tag port => some ⟨kindEnablePort, tag, [port]⟩
  | .disablePortDrain tag port => some ⟨kindDisablePort, tag, [port, 0]⟩
  | .disablePortFlush tag port => some ⟨kindDisablePort, tag, [port, 1]⟩
  | .resumePort tag port => some ⟨kindResumePort, tag, [port]⟩
  | .portStatus tag port => some ⟨kindPortStatus, tag, [port]⟩
  | .setRate tag port x a b burst apply continuity =>
    some ⟨kindSetRate, tag, [port, x] ++ toBe 2 a.toNat ++ toBe 2 b.toNat ++ toBe 3 burst.toNat ++ [apply, continuity]⟩
  | .commitRate tag ports => some ⟨kindCommitRate, tag, ports⟩
  | .rateStatus tag port => some ⟨kindRateStatus, tag, [port]⟩
  | .listEpisodes tag port start => some ⟨kindListEpisodes, tag, [port] ++ toBe 2 start.toNat⟩
  | .episodeStatus tag handle => some ⟨kindEpisodeStatus, tag, toBe 2 handle.toNat⟩
  | .haltEpisode tag handle => some ⟨kindHaltEpisode, tag, toBe 2 handle.toNat⟩
  | .resumeEpisode tag handle => some ⟨kindResumeEpisode, tag, toBe 2 handle.toNat⟩
  | .abortEpisode tag handle => some ⟨kindAbortEpisode, tag, toBe 2 handle.toNat⟩
  | .extendDeadline tag handle value => some ⟨kindExtendDeadline, tag, toBe 2 handle.toNat ++ [value]⟩
  | .addReservation tag handle cells => some ⟨kindAddReservation, tag, toBe 2 handle.toNat ++ toBe 2 cells.toNat⟩
  | .capture tag handle => some ⟨kindCapture, tag, toBe 2 handle.toNat⟩
  | .readCounters tag port => some ⟨kindReadCounters, tag, [port]⟩
  | .clearCounters tag port => some ⟨kindClearCounters, tag, [port]⟩
  | .setThreshold tag value => some ⟨kindSetThreshold, tag, [value]⟩
  | .storeStatus tag => some ⟨kindStoreStatus, tag, []⟩
  | .setPool tag floor => some ⟨kindSetPool, tag, toBe 3 floor.toNat⟩
  | .linkStatus tag => some ⟨kindLinkStatus, tag, []⟩
  | .setLinkParams tag linkId laneCount portCount maxLength =>
    some ⟨kindSetLinkParams, tag, toBe 2 linkId.toNat ++ [laneCount, portCount] ++ toBe 2 maxLength.toNat⟩
  | .relink tag => some ⟨kindRelink, tag, []⟩
  | _ => none

/-- The state an event starts from: nothing sent in it yet (log entries 22 and 33). -/
def State.begun (s : State) : State := { s with out := [], evThresholds := [] }

/-- The state with a command answered: one reply more at the tail of the reply queue (R172 to R174). -/
def State.replied (s : State) (kind tag : Byte) (status : Status) (body : ReplyBody) : State :=
  { s with mgmt := { s.mgmt with replies := s.mgmt.replies ++ [⟨tag, kind, status, body⟩] } }

/-- A command refused: nothing but the reply (R174). -/
def State.refusal (s : State) (kind tag : Byte) (status : Status) : State := s.begun.replied kind tag status .nothing

/-- Command `i` in state `s` answers a next state: the state `u` that its own effect gives, and what follows from it in the
same event (log entry 7). -/
def EndsAt (i : Instr) (s u : State) : Prop := exec i s = .next (u.settle s.dramIdle)

/-- The state when a whole undamaged word has come in UP: every lane's framing run is back at 0 (R142). -/
def State.wordIn (s : State) : State := s.begun.updLanes (fun _ l => { l with framingRun := 0 })

/-- A 32-bit count raised by 1, saturating. -/
def bump32 (n : Nat) : Nat := if n < 4294967295 then n + 1 else 4294967295

/-- The expiry of a grant is due: the responder at a place of an episode's roster holds a grant of that number whose timer a
grant tick has brought to its end (R52, log entry 5). -/
abbrev GrantDue (s : State) (slot position number : Nat) (e : Episode) (r : Responder) : Prop :=
  s.ep? slot = some e ∧ e.roster[position]? = some r ∧ r.grants.any (fun g => g.number == number && g.due) = true

/-- The expiry of an episode's deadline is due: a deadline tick has brought its counter to the end, and nothing has reloaded
it since (R18, log entries 5 and 6). -/
abbrev DeadlineDue (s : State) (slot : Nat) (e : Episode) : Prop :=
  s.ep? slot = some e ∧ e.deadline.any (fun d => d.due && decide (d.value ≤ 1)) = true

/-! ### Turns -/

/-- In the search that starts at the first place after a cursor, wraps, and ends at the cursor's own place, `a` comes before
`b`; without a cursor the search starts at place 0 (R64, R65, R108). -/
def RingBefore (cursor : Option Nat) (a b : Nat) : Prop :=
  match cursor with
  | none => a < b
  | some c => if c < a then b ≤ c ∨ a < b else b ≤ c ∧ a < b

/-- The records stand in slot order (R2): the first clause of `State.RosterLaw`. -/
abbrev State.SlotOrder (s : State) : Prop := (s.table.episodes.map (fun e => e.slot)).Pairwise (fun a b => a < b)

/-! ### The invariants -/

/-- The notice queue holds at most 256 notices, no two of one kind and object (R178). -/
def Mgmt.NoticesSound (m : Mgmt) : Prop := m.notices.length ≤ 256 ∧ (m.notices.map Notice.key).Nodup

/-- The command queue holds at most 8 commands; filled and reserved reply places are at most 16 (R171, R172). -/
def Mgmt.PlacesSound (m : Mgmt) : Prop := m.commands.length ≤ 8 ∧ m.replies.length + m.reserved ≤ 16

/-- T lies from 1 to 255 and no count exceeds 255 (R159, R161). -/
def Counters.Sound (c : Counters) : Prop :=
  1 ≤ c.threshold ∧ c.threshold ≤ 255 ∧ ∀ set ∈ c.sets.toList, ∀ n ∈ set.counts.toList, n ≤ 255

/-- The lane counts stay in the ranges of Table 7-2. -/
def Link.LanesSound (l : Link) : Prop :=
  ∀ x ∈ l.lanes.toList, x.alignRun ≤ 16 ∧ x.framingRun ≤ 3 ∧ x.codeErrors ≤ 255

/-- No slot holds two records. -/
def State.SlotsDistinct (s : State) : Prop := (s.table.episodes.map (fun e => e.slot)).Nodup

/-- No two episodes that are not FREE have the same key (R1). -/
def State.KeysUnique (s : State) : Prop := s.SlotsDistinct ∧ (s.table.episodes.map (fun e => e.key)).Nodup

/-- ΣR + ΣB stays within C (R49). -/
def State.StoreBound (s : State) : Prop := s.SlotsDistinct ∧ s.sumR + s.sumB ≤ 2097152

/-- Held-own cells and k times the outstanding granted packets stay within the reservation (R42). The further clauses rule
out what no run reaches: a grant with nothing remaining, an episode of a DISABLED group or of the odd port of a pair, a bond
whose odd port is not PAIR_ODD, and an even port that is PAIR_ODD. -/
def State.ReservationLaw (s : State) : Prop :=
  s.SlotsDistinct ∧ (∀ p, (s.policy p).bond = .pair → (s.port (p + 1)).role = .pairOdd) ∧
  (∀ p, (s.port p).role = .pairOdd → p % 2 = 1) ∧ ∀ e ∈ s.table.episodes,
    e.heldOwn + s.k e.key.group * e.granted ≤ e.reservation ∧
    (∀ r ∈ e.roster, ∀ g ∈ r.grants, 1 ≤ g.remaining) ∧
    (s.port e.key.group).state ≠ .disabled ∧ (s.port e.key.group).role ≠ .pairOdd

/-- Whether a place of the released-packet queue is reserved: by the release read in progress (R86, R90). -/
def Store.reservedPlaces (c : Store) : Nat :=
  match c.transfer with
  | .release _ => 1
  | .none => 0
  | .write _ => 0
  | .capture _ => 0

/-- The bounds of the grant frame queue (R68), the UNPACE backlog (R70), the stub queue (R50), the control queue, which holds no
word twice (R153), the released-packet queue (R90) and the staging fill (R150). The further clauses rule out what no run
reaches: an odd port that is PAIR_EVEN, more ports than the part has in the link's parameters, and a staged packet of such a
port. -/
def State.QueuesSound (s : State) : Prop :=
  s.sched.queue.length ≤ 512 ∧ s.sched.backlog.length ≤ 16384 ∧ s.link.stubs.length ≤ 256 ∧ s.link.control.length ≤ 96 ∧
  s.link.control.Nodup ∧ (∀ w ∈ s.link.control, w.port < 48) ∧ s.store.released.length + s.store.reservedPlaces ≤ 16 ∧
  s.stagingFill ≤ 196608 ∧ (∀ p, (s.port p).role = .pairEven → p % 2 = 0) ∧ s.link.expected.portCount ≤ 48 ∧
  s.establishedPorts ≤ 48 ∧ ∀ o, s.link.openPacket = some o → o.staged = true → o.desc.port < 48

/-- The records stand in slot order (R2); the Roster Pool's 16,384 entries are not exceeded (R35); a roster holds at most N
entries, or 64 in an ADOPTED episode, of distinct endpoints (R36), each with at most two outstanding grants and GRANTED exactly
while it has one (R37, Table 2-2). -/
def State.RosterLaw (s : State) : Prop :=
  (s.table.episodes.map (fun e => e.slot)).Pairwise (fun a b => a < b) ∧ (∀ e ∈ s.table.episodes, e.slot < 1024) ∧
  (s.table.episodes.map (fun e => e.roster.length)).sum ≤ 16384 ∧ ∀ e ∈ s.table.episodes,
    e.roster.length ≤ e.rosterLimit ∧ e.rosterLimit ≤ 64 ∧ (e.roster.map (fun r => r.endpoint)).Nodup ∧
    ∀ r ∈ e.roster, r.grants.length ≤ 2 ∧ (r.state = .granted ↔ r.grants ≠ [])

/-- The chains of the packets that have cells are disjoint, hold cells of the store, and hold cells(L) of them each (R73). -/
def State.ChainLaw (s : State) : Prop :=
  s.SlotsDistinct ∧ s.usedCells.Nodup ∧ (∀ c ∈ s.usedCells, c < 2097152) ∧
  ∀ p ∈ s.packetsWithCells, p.chain.length = cellsOf p.length

/-- A pacer's credits lie from their least values to the burst limit, its remainder below B and A below B, and the same of its
pending rate (R104, R105, R112). -/
def Pacer.InRange (x : Pacer) : Prop :=
  (-9215 ≤ x.releaseCredit ∧ x.releaseCredit ≤ x.burst) ∧ (-589823 ≤ x.grantCredit ∧ x.grantCredit ≤ x.burst) ∧
  x.burst ≤ 262143 ∧ x.remainder < x.rate.b ∧ x.rate.a < x.rate.b ∧
  ∀ r, x.pending = some r → r.rate.a < r.rate.b ∧ r.burst ≤ 262143

/-- Both credits of every pacer lie from their least values to the burst limit, the fraction remainder below B (R104, R105,
R112). The further clauses are the ranges of what the credits pay: the policies' largest packet and grant size (Table 6-2) and
the lengths of staged and held packets (R149). -/
def State.CreditLaw (s : State) : Prop :=
  (∀ p, (s.pacer p).InRange) ∧
  (∀ p, (s.policy p).mtu ≤ 9216 ∧ (s.policy p).grantSize ≤ 64) ∧
  (∀ o, s.link.openPacket = some o → o.staged = true → o.desc.length ≤ 9216) ∧
  (∀ x ∈ s.store.writeList, x.length ≤ 9216) ∧ (∀ x, s.store.transfer = .write x → x.length ≤ 9216) ∧
  ∀ e ∈ s.table.episodes, ∀ x ∈ e.holdQueue, x.length ≤ 9216

end Sys2Proof.Machine
end

