-- ==== Sys2Proof/WellFormed.lean ====
section
/-! DEFINITION. Which commands can be: the limits the manual sets on the operands of the rows. -/

namespace Sys2Proof

/-- The words of one read that can carry an error: at most 36 cells of 8 words of 32 bytes each, and the packet record
(R73, R92: a packet of 9,216 bytes occupies 36 cells). -/
def mostWordsOfRead : Nat := 289

/-- The limits the manual sets on a row's operands. The meanings are total: on other operands they change nothing
they could not change on well-formed ones. -/
def Instr.wellFormed : Instr → Bool
  | .frameReceived bytes => !bytes.isEmpty
  | .identify _ => true
  | .resetPart _ => true
  | .setPort _ _ _ => true
  | .enablePort _ _ => true
  | .disablePortDrain _ _ => true
  | .disablePortFlush _ _ => true
  | .resumePort _ _ => true
  | .portStatus _ _ => true
  | .setRate _ _ _ _ _ _ _ _ => true
  | .commitRate _ ports => decide (ports.length ≤ 48)
  | .rateStatus _ _ => true
  | .listEpisodes _ _ _ => true
  | .episodeStatus _ _ => true
  | .haltEpisode _ _ => true
  | .resumeEpisode _ _ => true
  | .abortEpisode _ _ => true
  | .extendDeadline _ _ _ => true
  | .addReservation _ _ _ => true
  | .capture _ _ => true
  | .readCounters _ _ => true
  | .clearCounters _ _ => true
  | .setThreshold _ _ => true
  | .storeStatus _ => true
  | .setPool _ _ => true
  | .linkStatus _ => true
  | .setLinkParams _ _ _ _ _ => true
  | .relink _ => true
  | .transmitComplete => true
  | .resetInputAssert => true
  | .resetInputRelease => true
  | .clockStartDecision _ => true
  | .storeInitComplete => true
  | .referenceLost => true
  | .referenceReturned => true
  | .pacerTick => true
  | .grantTimerExpiry slot position number =>
      decide (slot < Config.slotCount) && decide (position < 64) && decide (0 < number) && decide (number < 65536)
  | .deadlineExpiry slot => decide (slot < Config.slotCount)
  | .idleExpiry slot => decide (slot < Config.slotCount)
  | .lingerExpiry slot => decide (slot < Config.slotCount)
  | .framingError _ => true
  | .damagedWord _ _ _ => true
  | .alignmentWord lanes => lanes != 0
  | .laneMarkerWord lanes => lanes != 0
  | .parameterBlock _ _ _ _ _ => true
  | .packetDescriptor _ _ _ _ _ _ _ => true
  | .payloadWord _ _ data => data.length == 28
  | .sighting _ _ _ _ _ _ _ => true
  | .divertStarted _ => true
  | .divertStopped _ => true
  | .statusWord _ => true
  | .holdReturn => true
  | .resumeReturn => true
  | .idleWord => true
  | .storeWriteComplete => true
  | .releaseReadComplete corrected _ => decide (corrected ≤ mostWordsOfRead)
  | .captureReadComplete corrected _ => decide (corrected ≤ mostWordsOfRead)
  | .returnItemComplete => true
  | .unknownTypeWord _ => true

end Sys2Proof
end

