-- ==== Sys2Proof/Certificates/Slice0/Obligations.lean ====
section
/-! DEFINITION. The statements for the provers. `EndsAt i s u`: command `i` in state `s` answers the next state that its own
effect `u` gives, followed by what follows from it in the same event (`State.settle`, whose order is the model's, log entry 7). -/

open Sys2Proof Sys2Proof.Machine

/-! ### The queue and the steps -/

/-- A step takes the command at the front of the queue and runs it on the part with the queue's rest. -/
def Obligations.StepRunsTheFrontCommand : Prop :=
  ∀ (c : Instr) (rest : List Instr) (s : State), step { s with pending := c :: rest } = exec c { s with pending := rest }

/-- A step on an empty queue changes nothing (DESIGN CHOICE, log entry 30). While the reset input is asserted no other event
changes anything (DEDUCED, log entry 3). -/
def Obligations.EmptyQueueAndResetInputIdle : Prop :=
  (
    ∀ s : State, s.pending = [] → step s = .next s) ∧
  (
    ∀ (i : Instr) (s : State), s.inReset = true → i ≠ .resetInputAssert → i ≠ .resetInputRelease → exec i s = .next s)

/-- Every command answers a next state, and leaves the queue of commands that wait for `step` as it is: nothing is refused and
nothing faults. That queue is the model's own field `pending`, which the resets keep too (DESIGN CHOICE, log entry 33); it is
not the part's command queue of R171. That a row whose subject is absent answers a next state is log entry 2 (DESIGN CHOICE),
and that a host command's row is the arrival of its frame is log entry 1 (DEDUCED). -/
def Obligations.EveryCommandAnswersANextStateAndKeepsTheQueue : Prop :=
  ∀ (i : Instr) (s : State), ∃ t, exec i s = .next t ∧ t.pending = s.pending

/-! ### Resets -/

/-- The values that the reset rules give at power-on, with the reset input released: R30, R57, R72, R99, R122, R141, R158,
R168, R182; store initialisation is in progress, with no cell free or held (R98), the last start's cause is POWER_ON (R176),
and the Timebase awaits its start decision (R121). That no NOT_READY reply is owed, no frame is being sent and no item is
being sent is DEDUCED (log entry 4): these have no stated reset value of their own, and every queue that feeds them is empty.
-/
def Obligations.ResetLeavesTheStatedValues : Prop :=
  let s := State.reset
  s.table.episodes = [] ∧ (∀ n, n < 1024 → s.generation n = 0) ∧ s.table.refusing = false ∧ s.freeEntries = 16384 ∧
  s.sched.queue = [] ∧ s.sched.backlog = [] ∧ s.sched.notMade = 0 ∧ (∀ g c, s.classCursor g c = none) ∧
  s.inReset = false ∧ s.store.initialising = true ∧ s.freeCells = 0 ∧ s.usedCells = [] ∧ (∀ g, s.release? g = none) ∧
  s.store.writeList = [] ∧ s.store.transfer = .none ∧ s.store.released = [] ∧ s.sumR = 0 ∧ s.sumB = 0 ∧
  s.store.floor = 524288 ∧ s.store.corrected = 0 ∧ s.store.lastServed = none ∧ s.store.passCount = 0 ∧
  s.store.groupCursor = none ∧
  (∀ p, p < 48 → (s.pacer p).rate = ⟨0, 0, 1⟩ ∧ (s.pacer p).burst = 16384 ∧ (s.pacer p).pending = none ∧
    (s.pacer p).commit = false ∧ (s.pacer p).releaseCredit = 0 ∧ (s.pacer p).grantCredit = 0 ∧ (s.pacer p).remainder = 0 ∧
    ∀ c, vget (s.pacer p).cursors c none = none) ∧
  s.time.ticks = 0 ∧ s.time.clock = none ∧ s.link.egressFull = BitVec.allOnes 48 ∧
  (∀ p, p < 48 → (s.port p).role = .single ∧ s.policy p = Policy.default ∧ (s.port p).state = .disabled ∧
    (s.port p).startedSeen = false ∧ (s.port p).stoppedSeen = false ∧ (s.port p).suspended = false ∧
    (s.port p).clearing = .none ∧ (s.port p).drainCause = none ∧ (s.port p).fault = none ∧ (s.port p).strayMarkers = 0) ∧
  s.link.lanes = Vector.replicate 4 { alignRun := 0, framingRun := 0, codeErrors := 0, sinceMarker := none } ∧
  s.link.openPacket = none ∧ s.link.sending = none ∧
  s.link.state = .aligning ∧ s.link.expected = ⟨0, 4, 48, 9216⟩ ∧ s.link.established = none ∧ s.link.lastGood = none ∧
  s.link.mismatch = false ∧ s.link.loss = false ∧ s.link.paused = false ∧ s.link.hold = false ∧ s.link.control = [] ∧
  s.link.stubs = [] ∧ s.link.passList = [] ∧ s.stagingFill = 0 ∧ s.link.discards = 0 ∧ s.link.stagingDrops = 0 ∧
  s.link.ignoredSightings = 0 ∧ s.link.rejectedWords = 0 ∧ s.link.returnLosses = 0 ∧
  s.counters.threshold = 255 ∧ (∀ g, s.counterSet g = CounterSet.zero) ∧
  s.mgmt.framer = [] ∧ s.mgmt.commands = [] ∧ s.mgmt.busyBacklog = [] ∧ s.mgmt.replies = [] ∧ s.mgmt.notices = [] ∧
  s.mgmt.owed = [] ∧ s.mgmt.sending = none ∧ s.mgmt.startCause = .powerOn ∧
  s.mgmt.engine = .idle ∧ s.mgmt.frameErrors = 0 ∧ s.mgmt.pendingErrors = 0 ∧ s.mgmt.busyCount = 0 ∧
  s.mgmt.overflow = false ∧ s.mgmt.ready = false

/-- The reset input: asserted, the part is at its power-on values with the link DOWN; released, initialisation and link
establishment begin (R98, R158). The command queue stays (the model's own, log entry 33). -/
def Obligations.ResetInputHoldsAndReleasesThePart : Prop :=
  (∀ s : State, exec .resetInputAssert s =
    .next { State.reset with pending := s.pending, choices := s.choices, inReset := true,
                             store := { State.reset.store with initialising := false },
                             link := { State.reset.link with state := .down } }) ∧
  ∀ s : State, s.inReset = true → exec .resetInputRelease s = .next { State.reset with pending := s.pending, choices := s.choices }

/-- RESET_PART taken: an ACCEPTED reply in the take event, and the engine holds the command until the reset event (R177). The
reset event, at the completion of the ACCEPTED reply (R177, with R30, R57, R72, R99, R121, R122, R141, R158, R168): the ready
flag is cleared, the notice queue emptied and the overflow mark cleared, the commands that wait leave their queue to be
answered NOT_READY, every other block is reset and every slot's generation advances, the link keeps only its expected
parameters, and CLOCK_STATE is raised in FALLBACK; the framer, the replies and the counts of the management link stay. The
NOT_READY replies are made in that event, in the order of the commands, while places are free (R172). What follows in the same
event is `State.settle`, whose order is the model's (log entry 7). -/
def Obligations.ResetPartIsAcceptedAndResetsEveryBlock : Prop :=
  (∀ (s : State) (tag : Byte), Serves s →
    EndsAt (.resetPart tag) s { s.begun with mgmt := { s.mgmt with
      engine := .resetting, replies := s.mgmt.replies ++ [⟨tag, kindResetPart, .accepted, .nothing⟩] } }) ∧
  (∀ (s : State) (r : Reply), Runs s → s.mgmt.sending = some (.reply r) → r.status = .accepted → s.mgmt.engine = .resetting →
    EndsAt .transmitComplete s { s.begun with
      mgmt := { s.mgmt with
        ready := false, notices := if s.time.clock = some .fallback then [.clockState .fallback] else [], overflow := false,
        owed := s.mgmt.owed ++ s.mgmt.commands, commands := [], engine := .idle, startCause := .resetPart, sending := none },
      table := ⟨vmap s.table.generations (fun n => n + 1), [], false⟩, sched := Scheduler.powerOn, store := Store.powerOn true,
      pacers := Vector.replicate 48 Pacer.powerOn, time := ⟨s.time.clock, 0⟩, counters := Counters.powerOn,
      ports := Vector.replicate 48 Port.powerOn, link := Link.afterReset .aligning s.link.expected }) ∧
  ∀ (s : State) (r : Reply), Runs s → s.mgmt.sending = some (.reply r) → r.status = .accepted → s.mgmt.engine = .resetting →
    s.mgmt.replies.length + s.mgmt.owed.length + s.mgmt.commands.length ≤ 16 →
    ∃ t more, exec .transmitComplete s = .next t ∧ t.mgmt.owed = [] ∧ t.mgmt.commands = [] ∧
      (match t.mgmt.sending with | some (.reply x) => [x] | _ => []) ++ t.mgmt.replies =
        s.mgmt.replies ++ (s.mgmt.owed ++ s.mgmt.commands).map (fun f => ⟨f.tag, f.kind, .notReady, .nothing⟩) ++ more

/-! ### The management link -/

/-- The receive framer (R169): a whole frame with its CRC is accepted, and joins the command queue or with 8 commands in it is
refused with BUSY, a refusal whose tag is not in the BUSY backlog joining its tail with answered number 1, and one whose tag
is there raising that entry's number, keeping its place and taking the last kind (R171); a length above 1,024 or a wrong CRC
is a discard, which is counted (R170), and the bytes after the discarded frame's start byte are then taken again; other bytes
than the start byte are ignored while hunting; a part of a frame waits for the rest. A free place serves what a frame brings
in its own event (`State.give`, R172). The row of a host command is the arrival of its frame's bytes (DEDUCED, log entry 1),
and each frame that bytes finish is an event of its own (DESIGN CHOICE, log entry 31). What follows in the same event is
`State.settle`, whose order is the model's (log entry 7). -/
def Obligations.FramesJoinTheQueueAreBusyOrAreDiscarded : Prop :=
  let discarded (s : State) : State := { s.begun with mgmt := { s.mgmt with
    frameErrors := bump32 s.mgmt.frameErrors, pendingErrors := s.mgmt.pendingErrors + 1 } }
  (∀ (s : State) (f : Frame), Runs s → s.mgmt.framer = [] → f.body.length ≤ 1024 →
    EndsAt (.frameReceived f.encode) s
      ({ s.begun with mgmt :=
        if s.mgmt.commands.length < 8 then { s.mgmt with commands := s.mgmt.commands ++ [f] }
        else { s.mgmt with busyCount := bump32 s.mgmt.busyCount, busyBacklog := addBusy f s.mgmt.busyBacklog } }.give)) ∧
  (∀ (s : State) (kind tag high low : Byte), Runs s → s.mgmt.framer = [] →
    kind ≠ 0x5A → tag ≠ 0x5A → high ≠ 0x5A → low ≠ 0x5A → 1024 < high.toNat * 256 + low.toNat →
    EndsAt (.frameReceived [0x5A, kind, tag, high, low]) s (discarded s).give) ∧
  (∀ (s : State) (kind tag high low : Byte) (body : List Byte), Runs s → s.mgmt.framer = [] → body.length ≤ 1024 →
    high.toNat * 256 + low.toNat ≠ (crc16 ([kind, tag] ++ toBe 2 body.length ++ body)).toNat →
    let after := [kind, tag] ++ toBe 2 body.length ++ body ++ [high, low]
    let again := scanFrames after.length after
    exec (.frameReceived (0x5A :: after)) s = .next (again.found.foldl State.frameEvent
      (({ discarded s with mgmt := { (discarded s).mgmt with framer := again.rest } }.give).settle s.dramIdle))) ∧
  (∀ (s : State) (b : Byte), Runs s → s.mgmt.framer = [] → b ≠ 0x5A → exec (.frameReceived [b]) s = .next s.begun) ∧
  (∀ (s : State) (f : Frame) (n : Nat), Runs s → s.mgmt.framer = [] → f.body.length ≤ 1024 → 0 < n → n < f.encode.length →
    exec (.frameReceived (f.encode.take n)) s = .next { s.begun with mgmt := { s.mgmt with framer := f.encode.take n } }) ∧
  (∀ (s : State) (bytes : List Byte), exec (.frameReceived bytes) s =
    if s.inReset = true then .next s
    else exec (.frameReceived (s.mgmt.framer ++ bytes)) { s with mgmt := { s.mgmt with framer := [] } }) ∧
  (∀ (i : Instr) (s : State) (f : Frame), frameOf? i = some f → exec i s = exec (.frameReceived f.encode) s) ∧
  (∀ (f : Frame) (l : List BusyEntry), (∀ x ∈ l, x.tag ≠ f.tag) →
    addBusy f l = l ++ [{ tag := f.tag, kind := f.kind, answered := 1 }]) ∧
  ∀ (f : Frame) (before after : List BusyEntry) (b : BusyEntry), (∀ x ∈ before, x.tag ≠ f.tag) → b.tag = f.tag →
    addBusy f (before ++ b :: after) = before ++ { b with kind := f.kind, answered := b.answered + 1 } :: after

/-- A free place goes to the oldest owed NOT_READY reply, then to the engine, then to the framer's replies (R172). The engine
that takes the head command checks kind, length (Table 11-2) and readiness in that order, and performs a command that passes
in the same event (R173). The row of a host command that the engine can take at its arrival performs it in that event
(DEDUCED, log entry 1); what follows is `State.settle`, whose order is the model's (log entry 7). -/
def Obligations.EngineTakesTheHeadAndChecksInOrder : Prop :=
  (∀ (s : State) (f : Frame) (rest : List Frame), s.mgmt.engine = .idle → s.mgmt.owed = [] → s.mgmt.commands = f :: rest →
    s.mgmt.replies.length < 16 →
    let taken : State := { s with mgmt := { s.mgmt with commands := rest } }
    let refused (status : Status) : State :=
      { s with mgmt := { s.mgmt with commands := rest, replies := s.mgmt.replies ++ [⟨f.tag, f.kind, status, .nothing⟩] } }
    s.give =
      if f.kind.toNat = 0 ∨ 26 < f.kind.toNat then refused .badKind
      else if (bodyLength f.kind).any (fun b => decide (b.1 ≤ f.body.length ∧ f.body.length ≤ b.2)) = false then
        refused .badLength
      else if s.mgmt.ready = false ∧ f.kind ≠ kindIdentify ∧ f.kind ≠ kindLinkStatus ∧ f.kind ≠ kindSetLinkParams ∧
          f.kind ≠ kindRelink then refused .notReady
      else taken.perform f) ∧
  (let lengths : List (Nat × Nat × Nat) :=
      [(1, 0, 0), (2, 0, 0), (3, 19, 19), (4, 1, 1), (5, 2, 2), (6, 1, 1), (7, 1, 1), (8, 11, 11), (9, 0, 48), (10, 1, 1),
       (11, 3, 3), (12, 2, 2), (13, 2, 2), (14, 2, 2), (15, 2, 2), (16, 3, 3), (17, 4, 4), (18, 2, 2), (19, 1, 1), (20, 1, 1),
       (21, 1, 1), (22, 0, 0), (23, 3, 3), (24, 0, 0), (25, 6, 6), (26, 0, 0)]
    ∀ kind : Byte, bodyLength kind = (lengths.find? (fun r => r.1 == kind.toNat)).map (fun r => r.2)) ∧
  (∀ (s : State) (f : Frame) (rest : List Frame), s.mgmt.owed = f :: rest → s.mgmt.replies.length + s.mgmt.reserved < 16 →
    s.give = { s with mgmt := { s.mgmt with
      owed := rest, replies := s.mgmt.replies ++ [⟨f.tag, f.kind, .notReady, .nothing⟩] } }) ∧
  (∀ s : State, s.mgmt.owed = [] → (s.mgmt.engine ≠ .idle ∨ s.mgmt.commands = []) →
    s.mgmt.replies.length + s.mgmt.reserved < 16 →
    s.give =
      if 0 < s.mgmt.pendingErrors then
        { s with mgmt := { s.mgmt with pendingErrors := 0, replies := s.mgmt.replies ++
          [⟨0, 0, .frameError, .number (min s.mgmt.pendingErrors 65535)⟩] } }
      else match s.mgmt.busyBacklog with
        | [] => s
        | b :: more => { s with mgmt := { s.mgmt with busyBacklog := more, replies := s.mgmt.replies ++
            [⟨b.tag, b.kind, .busy, .number (min b.answered 65535)⟩] } }) ∧
  (∀ s : State, 16 ≤ s.mgmt.replies.length + s.mgmt.reserved → s.give = s) ∧
  ∀ (i : Instr) (s : State) (f : Frame), frameOf? i = some f → f.body.length ≤ 48 → Serves s → EndsAt i s (s.begun.perform f)

/-- The transmitter completes a frame, in a part that waits for the ACCEPTED reply of RESET_PART a frame that is no reply of
status ACCEPTED, and begins the reply queue's head ahead of every notice; with no reply waiting it begins the notice queue's
head, with the notices-dropped flag if the overflow mark is set, and clears the mark; while it sends, or with both queues
empty, it begins nothing (R179, R180). A raised notice replaces a waiting one of its kind and object in place, else joins the
tail, else is dropped and sets the overflow mark; it changes nothing else of the management link (R178, R179). What follows in
the same event is `State.settle`, whose order is the model's (log entry 7). -/
def Obligations.TransmitterServesRepliesAheadOfNotices : Prop :=
  (∀ (s : State) (x : TxFrame), Runs s → s.mgmt.sending = some x →
    (s.mgmt.engine ≠ .resetting ∨ ∀ r, x = .reply r → r.status ≠ .accepted) →
    EndsAt .transmitComplete s { s.begun with mgmt := { s.mgmt with sending := none } } ∧
    ∀ r rest, s.mgmt.replies = r :: rest → ∃ t, exec .transmitComplete s = .next t ∧ t.mgmt.sending = some (.reply r)) ∧
  (∀ s : State,
    (∀ r rest, s.mgmt.sending = none → s.mgmt.replies = r :: rest →
      s.transmit = { s with mgmt := { s.mgmt with sending := some (.reply r), replies := rest },
                            out := s.out ++ [.frame (.reply r)] }) ∧
    (∀ n rest, s.mgmt.sending = none → s.mgmt.replies = [] → s.mgmt.notices = n :: rest →
      s.transmit = { s with mgmt := { s.mgmt with sending := some (.notice n s.mgmt.overflow), notices := rest, overflow := false },
                            out := s.out ++ [.frame (.notice n s.mgmt.overflow)] }) ∧
    ((s.mgmt.sending ≠ none ∨ (s.mgmt.replies = [] ∧ s.mgmt.notices = [])) → s.transmit = s)) ∧
  ∀ (m : Mgmt) (n : Notice),
    ((∃ x ∈ m.notices, x.key = n.key) →
      m.raise n = { m with notices := m.notices.map (fun x => if x.key = n.key then n else x) }) ∧
    ((∀ x ∈ m.notices, x.key ≠ n.key) → m.notices.length < 256 → m.raise n = { m with notices := m.notices ++ [n] }) ∧
    ((∀ x ∈ m.notices, x.key ≠ n.key) → 256 ≤ m.notices.length → m.raise n = { m with overflow := true })

/-- IDENTIFY is answered OK with the part's figures and changes nothing else (R176; what the clock state is reported as before
the start decision is a free value, log entry 13). LINK_STATUS reports the link and clears the mismatch and loss marks (R155).
SET_LINK_PARAMS replaces the expected parameters and brings the link UP if the last good block in PARAMS now matches; RELINK
takes the link to ALIGNING, from UP as a loss (R156, R157). That at UP the START_DIVERT words join the control queue in
ascending port order is the model's choice (DESIGN CHOICE, log entry 34). What follows in the same event is `State.settle`,
whose order is the model's (log entry 7). -/
def Obligations.CommandsBeforeReadyReportAndSetTheLink : Prop :=
  (∀ (s : State) (tag : Byte), TakesCommand s →
    EndsAt (.identify tag) s (s.begun.replied kindIdentify tag .ok (.identify
      { identity := ⟨Config.familyCode, Config.partCode, Config.dieRevision⟩, ready := s.mgmt.ready,
        initialising := s.store.initialising, cause := s.mgmt.startCause, clock := s.reportedClock,
        frameErrors := s.mgmt.frameErrors, busyCount := s.mgmt.busyCount, busyBacklog := s.mgmt.busyBacklog.length,
        noticeFill := s.mgmt.notices.length, overflow := s.mgmt.overflow }))) ∧
  (∀ (s : State) (tag : Byte), TakesCommand s →
    let l := s.link
    EndsAt (.linkStatus tag) s ({ s.begun with link := { l with mismatch := false, loss := false } }.replied
      kindLinkStatus tag .ok (.link
      { state := l.state, lanes := vmap l.lanes (fun x => ⟨x.alignRun, x.framingRun, x.codeErrors⟩), expected := l.expected,
        lastGood := l.lastGood, established := l.established, mismatch := l.mismatch, loss := l.loss, paused := l.paused,
        hold := l.hold, stagingFill := s.stagingFill, controlFill := l.control.length, stubFill := l.stubs.length,
        passFill := min 64 l.passList.length, passBacklog := l.passList.length - 64, discards := l.discards,
        stagingDrops := l.stagingDrops, ignoredSightings := l.ignoredSightings, rejectedWords := l.rejectedWords,
        returnLosses := l.returnLosses }))) ∧
  (∀ (s : State) (tag : Byte) (linkId : Half) (laneCount portCount : Byte) (maxLength : Half), TakesCommand s →
    let p : LinkParams := ⟨linkId.toNat, laneCount.toNat, portCount.toNat, maxLength.toNat⟩
    let u := { s.begun with link := { s.link with expected := p } }
    EndsAt (.setLinkParams tag linkId laneCount portCount maxLength) s
      (if p.laneCount ≠ 4 ∨ p.portCount = 0 ∨ 48 < p.portCount ∨ p.maxLength < 64 ∨ 9216 < p.maxLength then
        s.refusal kindSetLinkParams tag .badValue
       else if s.link.state = .params ∧ s.link.lastGood = some p then (u.reachUp p).replied kindSetLinkParams tag .ok .nothing
       else u.replied kindSetLinkParams tag .ok .nothing)) ∧
  ∀ (s : State) (tag : Byte), TakesCommand s →
    EndsAt (.relink tag) s ((if s.link.state = .up then s.begun.loseLink .relink
      else { s.begun with link :=
        { s.link with state := .aligning, lanes := Vector.replicate 4 Lane.zero, lastGood := none } }).replied
        kindRelink tag .ok .nothing)

/-! ### Ports -/

/-- SET_PORT: its tests in order, and what an accepted record changes, forming or dissolving a bond (R124, R125, R101, R168).
That forming a bond keeps the odd port's started-seen and stopped-seen flags, as it keeps its other fields that are not named,
is DEDUCED (log entry 26). Which records `policyAt` refuses statement O51 says. A port's drain group is the even port of its
pair, and else the port itself; its members are both ports of the pair, and else the port alone (R1, R123). What follows in
the same event is `State.settle`, whose order is the model's (log entry 7). -/
def Obligations.SetPortReplacesThePolicyAndTheBond : Prop :=
  (∀ (s : State) (tag port : Byte) (policy : Vector Byte 18), Serves s →
     let p := port.toNat
     EndsAt (.setPort tag port policy) s
       (if 48 ≤ p then s.refusal kindSetPort tag .badValue
        else if (s.port p).role = .pairOdd then s.refusal kindSetPort tag .wrongPort
        else if (s.port p).state ≠ .disabled then s.refusal kindSetPort tag .wrongState
        else match policyAt policy.toList 0 with
         | none => s.refusal kindSetPort tag .badValue
         | some pol =>
           if pol.bond = .pair ∧ p % 2 = 1 then s.refusal kindSetPort tag .badValue
           else if pol.bond = .pair ∧ (s.port (s.groupOf (p + 1))).state ≠ .disabled then s.refusal kindSetPort tag .wrongState
           else
             let u := s.begun.updPort p (fun x => { x with policy := pol })
             if (s.policy p).bond = .none ∧ pol.bond = .pair then
               let v := (u.updPort p (fun x => { x with role := .pairEven })).updPort (p + 1) (fun x =>
                 { x with role := .pairOdd, policy := Policy.default, suspended := false, strayMarkers := 0, fault := none })
               ((v.updPacer (p + 1) (fun _ => Pacer.powerOn)).updCounters (p + 1) (fun _ => CounterSet.zero)).replied kindSetPort tag .ok .nothing
             else if (s.policy p).bond = .pair ∧ pol.bond = .none then
               (((u.updPort p (fun x => { x with role := .single })).updPort (p + 1) (fun _ => Port.powerOn)).updCounters (p + 1)
                 (fun _ => CounterSet.zero)).replied kindSetPort tag .ok .nothing
             else u.replied kindSetPort tag .ok .nothing)) ∧
  ∀ (s : State) (p : Nat),
    s.groupOf p = (if (s.port p).role = .pairOdd then p - 1 else p) ∧
    s.members p = (if (s.port p).role = .pairEven then [p, p + 1] else [p]) ∧
    (p ∈ s.groups ↔ p < 48 ∧ (s.port p).role ≠ .pairOdd)

/-- ENABLE_PORT: its tests in order, and the move to STARTING (R127, R135, R118). START_DIVERT for each member is handed while
the link is UP and otherwise falls due later; STOP_DIVERT is handed, or while the link is not UP counts as answered (R126). A
word handed joins the tail of the control queue behind the words already there, one that is there already is not queued again,
and nothing else changes (R153). That a pair's even member is handed its word first is the model's choice (DESIGN CHOICE, log
entry 34). What follows in the same event is `State.settle`, whose order is the model's (log entry 7). -/
def Obligations.EnablePortHandsTheControlWords : Prop :=
  (
    ∀ (s : State) (tag port : Byte), Serves s →
      let p := port.toNat
      EndsAt (.enablePort tag port) s
        (if 48 ≤ p then s.refusal kindEnablePort tag .badValue
         else if (s.port p).role = .pairOdd then s.refusal kindEnablePort tag .wrongPort
         else if (s.port p).state ≠ .disabled ∧ (s.port p).state ≠ .faulted then s.refusal kindEnablePort tag .wrongState
         else if (s.port p).state = .faulted ∧
            ((s.port p).clearing ≠ .statusRead ∨ (s.members p).any (fun m => !(s.port m).stoppedSeen) = true) then
          s.refusal kindEnablePort tag .faultPending
         else if ((s.pacer p).rate.x = 0 ∧ (s.pacer p).rate.a = 0) ∧
            (s.pacer p).pending.all (fun r => r.rate.x == 0 && r.rate.a == 0) = true then s.refusal kindEnablePort tag .noRate
         else
          let u := s.begun.updPort p (fun x =>
            { x with state := .starting, clearing := .none, drainCause := none, strayMarkers := 0,
                     fault := if x.state = PortState.faulted then none else x.fault })
          let v := (u.updMembers p (fun x => { x with startedSeen := false })).handStart p
          (v.updCounters p (fun c => { c with counts := Vector.replicate 6 0 })).replied kindEnablePort tag .ok .nothing)) ∧
  (
    ∀ (s : State) (g : Nat), g < 48 →
      let joined (start : Bool) : State :=
        let words : List ControlWord := (s.members g).map (fun m => ⟨start, m⟩)
        { s with link := { s.link with control := s.link.control ++ words.filter (fun w => decide (w ∉ s.link.control)) } }
      (s.link.state = .up → s.handStart g = joined true ∧ s.handStop g = joined false ∧ ∀ m ∈ s.members g,
        ⟨true, m⟩ ∈ (s.handStart g).link.control ∧ ⟨false, m⟩ ∈ (s.handStop g).link.control) ∧
      (s.link.state ≠ .up → s.handStart g = s ∧
        s.handStop g = s.updMembers g (fun p => { p with stoppedSeen := true }) ∧ (s.handStop g).link = s.link ∧
        ∀ m ∈ s.members g, m < 48 → ((s.handStop g).port m).stoppedSeen = true) ∧
      (s.link.control.Nodup → (s.handStart g).link.control.Nodup ∧ (s.handStop g).link.control.Nodup))

/-- DISABLE_PORT with mode DRAIN: its tests in order, the entry to DRAIN_OUT, and the case of FAULTED (R130, R135). With mode
FLUSH: the aborts in ascending slot order, and the move to DRAIN_OUT with cause FLUSH (R131, R135). A mode that is not defined
is refused straight after the WRONG_PORT test (R183). That a pair's even member is handed its STOP_DIVERT first is the model's
choice (DESIGN CHOICE, log entry 34). What follows in the same event is `State.settle`, whose order is the model's (log entry
7). -/
def Obligations.DisablePortDrainsOrFlushes : Prop :=
  (∀ (s : State) (tag port : Byte), Serves s →
    let p := port.toNat
    EndsAt (.disablePortDrain tag port) s
      (if 48 ≤ p then s.refusal kindDisablePort tag .badValue
       else if (s.port p).role = .pairOdd then s.refusal kindDisablePort tag .wrongPort
       else if (s.port p).state = .disabled ∨ (s.port p).state = .drainOut then s.refusal kindDisablePort tag .wrongState
       else if (s.port p).state = .faulted then
        (s.begun.updPort p (fun x => { x with state := .drainOut, drainCause := some .host, clearing := .none })).replied
          kindDisablePort tag .ok .nothing
       else
        ((((s.begun.updPort p (fun x => { x with state := .drainOut, drainCause := some .host })).updMembers p
            (fun x => { x with stoppedSeen := false })).handStop p).unpaceGroup p).replied kindDisablePort tag .ok .nothing)) ∧
  (∀ (s : State) (tag port : Byte), Serves s →
    let p := port.toNat
    let aborted := (((s.groupEpisodes p).filter (fun e => e.state != .linger)).map (fun e => e.slot)).foldl State.abortEpisode s.begun
    EndsAt (.disablePortFlush tag port) s
      (if 48 ≤ p then s.refusal kindDisablePort tag .badValue
       else if (s.port p).role = .pairOdd then s.refusal kindDisablePort tag .wrongPort
       else if (s.port p).state = .disabled then s.refusal kindDisablePort tag .wrongState
       else if (s.port p).state = .drainOut then
        (aborted.updPort p (fun x => { x with drainCause := some .flush })).replied kindDisablePort tag .ok .nothing
       else if (s.port p).state = .faulted then
        (aborted.updPort p (fun x => { x with state := .drainOut, drainCause := some .flush, clearing := .none })).replied
          kindDisablePort tag .ok .nothing
       else
        ((((aborted.updPort p (fun x => { x with state := .drainOut, drainCause := some .flush })).updMembers p
            (fun x => { x with stoppedSeen := false })).handStop p).unpaceGroup p).replied kindDisablePort tag .ok .nothing)) ∧
  ∀ (s : State) (tag port mode : Byte), Serves s → mode ≠ 0 → mode ≠ 1 →
    EndsAt (.frameReceived (Frame.encode ⟨kindDisablePort, tag, [port, mode]⟩)) s
      (s.refusal kindDisablePort tag (if port.toNat < 48 ∧ (s.port port.toNat).role = .pairOdd then .wrongPort else .badValue))

/-- RESUME_PORT clears the suspended flag and reports its earlier value, in every port state (R137). PORT_STATUS reports the
drain group's record, also for the odd member, and in FAULTED sets the clearing progress to STATUS_READ (R139, R135).
RATE_STATUS reports one pacer with the scheduler's figures and changes nothing else (R119); that the release in flight it
reports is that of the even port alone, so that an orphaned release begun for a single odd port before the bond was formed is
not reported as the pair's, is the model's choice (DESIGN CHOICE, log entry 16), and the clock state reported before the start
decision is a free value (log entry 13). What follows in the same event is `State.settle`, whose order is the model's (log
entry 7). -/
def Obligations.ResumePortAndTheStatusCommandsReport : Prop :=
  (∀ (s : State) (tag port : Byte), Serves s →
    let p := port.toNat
    EndsAt (.resumePort tag port) s
      (if 48 ≤ p then s.refusal kindResumePort tag .badValue
       else if (s.port p).role = .pairOdd then s.refusal kindResumePort tag .wrongPort
       else (s.begun.updPort p (fun x => { x with suspended := false })).replied kindResumePort tag .ok
        (.flag (s.port p).suspended))) ∧
  (∀ (s : State) (tag port : Byte), Serves s →
    let p := port.toNat
    let g := s.groupOf p
    let x := s.port g
    let number (st : EpState) := ((s.groupEpisodes g).filter (fun e => e.state == st)).length
    EndsAt (.portStatus tag port) s
      (if 48 ≤ p then s.refusal kindPortStatus tag .badValue
       else
        (if x.state = .faulted then s.begun.updPort g (fun y => { y with clearing := .statusRead }) else s.begun).replied
          kindPortStatus tag .ok (.port
          { port := p, role := (s.port p).role, group := g, state := x.state,
            members := (s.members g).map (fun m =>
              ⟨m, (s.port m).startedSeen, (s.port m).stoppedSeen, s.link.egressFull.getLsbD m⟩),
            suspended := x.suspended, clearing := x.clearing, drainCause := x.drainCause, fault := x.fault,
            strayMarkers := x.strayMarkers, policy := x.policy, armed := number .armed, active := number .active,
            draining := number .draining, linger := number .linger }))) ∧
  ∀ (s : State) (tag port : Byte), Serves s →
    let p := port.toNat
    let x := s.pacer p
    EndsAt (.rateStatus tag port) s
      (if 48 ≤ p then s.refusal kindRateStatus tag .badValue
       else if (s.port p).role = .pairOdd then s.refusal kindRateStatus tag .wrongPort
       else s.begun.replied kindRateStatus tag .ok (.rate
        { rate := x.rate, burst := x.burst, releaseCredit := x.releaseCredit, grantCredit := x.grantCredit,
          remainder := x.remainder, pending := x.pending, commit := x.commit, cursors := x.cursors,
          releaseInFlight := (s.release? p).isSome, gateOpen := (s.members p).all (fun m => !s.link.egressFull.getLsbD m),
          suspended := (s.port p).suspended, clock := s.reportedClock, grantQueueFill := s.sched.queue.length,
          backlogLength := s.sched.backlog.length, notMade := s.sched.notMade }))

/-! ### Rates -/

/-- SET_RATE: its tests in order; an accepted one writes the pending rate and clears the commit mark; an apply code other than
0 NOW, 1 ON_COMMIT, 2 ON_NEXT_EPISODE and a continuity code other than 0 KEEP, 1 RESET are refused with BAD_VALUE (R112, R183,
Table 11-2). COMMIT_RATE: its tests in order, behind the length test of at most 48 bytes (R173), a port named twice taken once
(R183); it marks the named pacers whose pending rate waits for a commit and lists them (R114; the order of the list is the
model's, log entry 28). What follows in the same event is `State.settle`, whose order is the model's (log entry 7). -/
def Obligations.SetAndCommitRateWriteThePendingRate : Prop :=
  (
    ∀ (s : State) (tag port x : Byte) (a b : Half) (burst : BitVec 24) (apply continuity : Byte), Serves s →
      let p := port.toNat
      let rate : Rate := ⟨x.toNat, a.toNat, b.toNat⟩
      let applies : Option ApplyMode :=
        if apply = 0 then some .now else if apply = 1 then some .onCommit else if apply = 2 then some .onNextEpisode else none
      let keeps : Option Continuity := if continuity = 0 then some .keep else if continuity = 1 then some .reset else none
      EndsAt (.setRate tag port x a b burst apply continuity) s
        (if 48 ≤ p then s.refusal kindSetRate tag .badValue
         else if (s.port p).role = .pairOdd then s.refusal kindSetRate tag .wrongPort
         else if rate.b = 0 ∨ rate.b ≤ rate.a then s.refusal kindSetRate tag .badValue
         else if 262143 < burst.toNat then s.refusal kindSetRate tag .badValue
         else match applies, keeps with
          | some mode, some kept =>
            (s.begun.updPacer p (fun x => { x with pending := some ⟨rate, burst.toNat, mode, kept⟩, commit := false })).replied kindSetRate tag .ok .nothing
          | _, _ => s.refusal kindSetRate tag .badValue)) ∧
  (
    ∀ (s : State) (tag : Byte) (ports : List Byte), Serves s → ports.length ≤ 1024 →
      let named := firstOnes (ports.map (fun b => b.toNat))
      let marked := named.filter (fun p => (s.pacer p).pending.any (fun r => r.apply == .onCommit))
      EndsAt (.commitRate tag ports) s
        (if 48 < ports.length then s.refusal kindCommitRate tag .badLength
         else if named = [] ∨ (∃ p ∈ named, 48 ≤ p) then s.refusal kindCommitRate tag .badValue
         else if ∃ p ∈ named, (s.port p).role = .pairOdd then s.refusal kindCommitRate tag .wrongPort
         else if marked = [] then s.refusal kindCommitRate tag .wrongState
         else (marked.foldl (fun u p => u.updPacer p (fun x => { x with commit := true })) s.begun).replied kindCommitRate tag .ok (.ports marked))) ∧
  ∀ l : List Nat, (firstOnes l).Sublist l ∧ (firstOnes l).Nodup ∧ ∀ x ∈ l, x ∈ firstOnes l

/-- A pacer tick: due rates apply first, then every pacer that is not the odd one of a pair accrues X + A/B to both credits
and caps them; every 2,000th tick is a grant tick and every 32,000th a deadline tick (R102, R103). None is delivered before
the start decision (R121). A pending rate is due when its mode is NOW, or ON_COMMIT with the commit mark set (R113, R114);
that the due rates of several pacers apply, and raise their RATE_APPLIED notices, in ascending port order is the model's
choice (DESIGN CHOICE, log entry 20; R117 gives no order). On a grant tick every outstanding grant's timer counts down, on a
deadline tick every deadline, idle and linger counter that is present (R12, R15, R18, R52), before the decisions that the
accrual leads to, so that the tick counts for no grant of its own event (DESIGN CHOICE, log entry 14); a tick that would bring
one to 0 leaves its expiry due, and the expiry is a row of its own (DEDUCED, log entry 5). What follows in the same event is
`State.settle`, whose order is the model's (log entries 7, 14). -/
def Obligations.PacerTickAccruesAndTicks : Prop :=
  (∀ s : State, Runs s → s.time.clock.isSome = true →
    let n := s.time.ticks + 1
    let applied := s.groups.foldl State.applyDue { s.begun with time := ⟨s.time.clock, n⟩ }
    let accrued := { applied with pacers := vmapIdx applied.pacers (fun i p => if (s.port i).role = .pairOdd then p else
      { p with remainder := if p.rate.b ≤ p.remainder + p.rate.a then p.remainder + p.rate.a - p.rate.b else p.remainder + p.rate.a,
               releaseCredit := min (p.releaseCredit + p.rate.x + (if p.rate.b ≤ p.remainder + p.rate.a then 1 else 0)) p.burst,
               grantCredit := min (p.grantCredit + p.rate.x + (if p.rate.b ≤ p.remainder + p.rate.a then 1 else 0)) p.burst }) }
    let granted := if n % 2000 = 0 then accrued.updAll Episode.grantTick else accrued
    EndsAt .pacerTick s (if n % 32000 = 0 then granted.updAll Episode.deadlineTick else granted)) ∧
  (∀ s : State, Runs s → s.time.clock = none → EndsAt .pacerTick s s.begun) ∧
  (∀ (s : State) (g : Nat), s.applyDue g =
    match (s.pacer g).pending with
    | none => s
    | some r => if r.apply = .now ∨ (r.apply = .onCommit ∧ (s.pacer g).commit = true) then s.applyRate g else s) ∧
  (∀ (e : Episode) (x : Grant) (d : Deadline) (c : Countdown),
    x.tick = (if x.timer ≤ 1 then { x with due := true } else { x with timer := x.timer - 1 }) ∧
    d.tick = (if d.value ≤ 1 then { d with due := true } else { d with value := d.value - 1 }) ∧
    c.tick = (if c.value ≤ 1 then { c with due := true } else { c with value := c.value - 1 }) ∧
    e.grantTick = { e with roster := e.roster.map (fun r => { r with grants := r.grants.map Grant.tick }) } ∧
    e.deadlineTick = { e with deadline := e.deadline.map Deadline.tick, idle := e.idle.map Countdown.tick,
                              linger := e.linger.map Countdown.tick }) ∧
  ∀ (s : State) (f : Episode → Episode), s.updAll f = { s with table := { s.table with episodes := s.table.episodes.map f } }

/-- When a pending rate applies, KEEP lowers credits above the new burst limit and keeps a remainder below the new B, RESET
sets all three to 0; the pending rate and the commit mark go; RATE_APPLIED carries the values the application left (R116,
R117). -/
def Obligations.RateApplicationFollowsItsContinuity : Prop :=
  ∀ (s : State) (g : Nat) (r : PendingRate), g < 48 → (s.pacer g).pending = some r →
    let x := s.pacer g
    let y : Pacer := match r.continuity with
      | .keep => { x with rate := r.rate, burst := r.burst, pending := none, commit := false,
                          releaseCredit := if (r.burst : Int) < x.releaseCredit then r.burst else x.releaseCredit,
                          grantCredit := if (r.burst : Int) < x.grantCredit then r.burst else x.grantCredit,
                          remainder := if x.remainder < r.rate.b then x.remainder else 0 }
      | .reset => { x with rate := r.rate, burst := r.burst, pending := none, commit := false,
                           releaseCredit := 0, grantCredit := 0, remainder := 0 }
    (s.applyRate g = (s.updPacer g (fun _ => y)).raise (.rateApplied
      { port := g, rate := r.rate, burst := r.burst, apply := r.apply, continuity := r.continuity,
        releaseCredit := y.releaseCredit, grantCredit := y.grantCredit, remainder := y.remainder })) ∧
    y.cursors = x.cursors ∧ y.releaseCredit ≤ r.burst ∧ y.grantCredit ≤ r.burst ∧
    (-9215 ≤ x.releaseCredit → -9215 ≤ y.releaseCredit) ∧ (-589823 ≤ x.grantCredit → -589823 ≤ y.grantCredit)

/-- The Timebase: the start decision, the loss of the reference and its return, with their notices (R120, R121). Store
initialisation completes: the part is ready with every cell free, and READY is raised (R98, R175, R181); the clock state that
READY carries before the start decision is a free value (log entry 13). What follows in the same event is `State.settle`,
whose order is the model's (log entry 7). -/
def Obligations.ClockAndStoreInitialisationStartThePart : Prop :=
  (
    (∀ s : State, Runs s → s.time.clock = none →
      EndsAt (.clockStartDecision true) s { s.begun with time := ⟨some .reference, s.time.ticks⟩ } ∧
      EndsAt (.clockStartDecision false) s
        ({ s.begun with time := ⟨some .fallback, s.time.ticks⟩ }.raise (.clockState .fallback))) ∧
    (∀ s : State, Runs s → s.time.clock = some .reference →
      EndsAt .referenceLost s ({ s.begun with time := ⟨some .fallback, s.time.ticks⟩ }.raise (.clockState .fallback))) ∧
    ∀ s : State, Runs s → s.time.clock = some .fallback →
      EndsAt .referenceReturned s ({ s.begun with time := ⟨some .reference, s.time.ticks⟩ }.raise (.clockState .reference))) ∧
  (
    ∀ s : State, Runs s → s.store.initialising = true →
      let u := { s.begun with store := { s.store with initialising := false }, mgmt := { s.mgmt with ready := true } }.raise
        (.ready ⟨Config.familyCode, Config.partCode, Config.dieRevision⟩ s.mgmt.startCause s.reportedClock)
      EndsAt .storeInitComplete s u ∧ (s.packetsWithCells = [] → u.freeCells = 2097152))

/-! ### Episodes -/

/-- LIST_EPISODES and EPISODE_STATUS: their tests, what they report, and that they change nothing else (R28, R29). A handle is
stale when its slot is FREE or its generation differs (R2). HALT_EPISODE sets the halted flag and RESUME_EPISODE clears it, in
ARMED, ACTIVE and DRAINING; nothing else of the record changes (R25). What follows in the same event is `State.settle`, whose
order is the model's (log entry 7). -/
def Obligations.EpisodeReportsHandlesAndTheHaltedFlag : Prop :=
  (∀ (s : State) (tag port : Byte) (start : Half), Serves s →
    let p := port.toNat
    let found := ((s.groupEpisodes p).filter (fun e => decide (start.toNat ≤ e.slot))).take 32
    EndsAt (.listEpisodes tag port start) s
      (if 48 ≤ p then s.refusal kindListEpisodes tag .badValue
       else if (s.port p).role = .pairOdd then s.refusal kindListEpisodes tag .wrongPort
       else if 1024 < start.toNat then s.refusal kindListEpisodes tag .badValue
       else s.begun.replied kindListEpisodes tag .ok (.handles (found.map (fun e => ⟨e.slot, s.generation e.slot⟩))
        (match found.drop 31 with | last :: _ => last.slot + 1 | [] => 1024)))) ∧
  (∀ (s : State) (tag : Byte) (handle : Half), Serves s →
    EndsAt (.episodeStatus tag handle) s
      (match s.live? (handleOf handle) with
       | none => s.refusal kindEpisodeStatus tag .staleHandle
       | some e => s.begun.replied kindEpisodeStatus tag .ok (.episode
          { handle := ⟨e.slot, s.generation e.slot⟩, key := e.key, origin := e.origin, state := e.state, halted := e.halted,
            expired := e.expired, damaged := e.damaged, closeReason := e.closeReason, cls := e.cls, report := e.report,
            n := e.n, e := e.e, reservation := e.reservation, heldOwn := e.heldOwn, borrowed := e.borrowed,
            granted := e.granted, queueLength := e.holdQueue.length, inFlight := if e.inFlight then 1 else 0,
            rosterSize := e.roster.length, finished := e.finished, unlisted := e.unlisted,
            deadline := e.deadline.map (fun d => (d.value, d.last)), idle := e.idle.map (fun c => c.value),
            linger := e.linger.map (fun c => c.value), arrived := e.arrived, released := e.released, trimmed := e.trimmed,
            discarded := e.discarded }))) ∧
  (∀ (s : State) (h : Handle),
    (s.live? h).isSome = true ↔ s.generation h.slot = h.gen ∧ ∃ e ∈ s.table.episodes, e.slot = h.slot) ∧
  (let effect (s : State) (kind tag : Byte) (handle : Half) (flag : Bool) : State :=
    match s.live? (handleOf handle) with
    | none => s.refusal kind tag .staleHandle
    | some e =>
      if e.state = .linger then s.refusal kind tag .wrongState
      else
        let records := s.table.episodes.map (fun x => if x.slot = e.slot then { x with halted := flag } else x)
        { s.begun with table := { s.table with episodes := records } }.replied kind tag .ok .nothing
  ∀ (s : State) (tag : Byte) (handle : Half), Serves s →
    EndsAt (.haltEpisode tag handle) s (effect s kindHaltEpisode tag handle true) ∧
    EndsAt (.resumeEpisode tag handle) s (effect s kindResumeEpisode tag handle false))

/-- ABORT_EPISODE: LINGER with close reason ABORTED, no deadline or idle counter, UNPACE produced, every grant withdrawn, the
hold queue discarded, and the episode closed if it is then empty (R17, R26). A full teardown leaves no outstanding grant and
no held packet, lowers the charges by each discarded packet's cells by its admission kind, and counts each as discarded (R17).
What follows in the same event is `State.settle`, whose order is the model's (log entry 7). -/
def Obligations.AbortTearsDownAndDiscards : Prop :=
  (
    ∀ (s : State) (tag : Byte) (handle : Half), Serves s →
      EndsAt (.abortEpisode tag handle) s
        (match s.live? (handleOf handle) with
         | none => s.refusal kindAbortEpisode tag .staleHandle
         | some e =>
          if e.state = .linger then s.refusal kindAbortEpisode tag .wrongState
          else
            let u := s.begun.updEp e.slot (fun x =>
              { x with state := .linger, closeReason := some .aborted, deadline := none, idle := none })
            let v := ((u.unpaceEpisode e.slot).updEp e.slot Episode.withdrawAll).updEp e.slot Episode.discardHeld
            (v.closeIfEmpty e.slot).replied kindAbortEpisode tag .ok .nothing)) ∧
  (
    ∀ e : Episode,
      (e.withdrawAll).granted = 0 ∧ e.discardHeld.holdQueue = [] ∧
      e.discardHeld.heldOwn = e.heldOwn - ((e.holdQueue.filter (fun p => p.kind == .own)).map (fun p => cellsOf p.length)).sum ∧
      e.discardHeld.borrowed =
        e.borrowed - ((e.holdQueue.filter (fun p => p.kind == .borrowed)).map (fun p => cellsOf p.length)).sum ∧
      (e.discarded.packets ≤ 4294967295 →
        e.discardHeld.discarded.packets = min (e.discarded.packets + e.holdQueue.length) 4294967295) ∧
      e.discardHeld.roster = e.roster ∧ e.discardHeld.arrived = e.arrived ∧ e.discardHeld.released = e.released ∧
      e.discardHeld.trimmed = e.trimmed ∧ e.discardHeld.reservation = e.reservation)

/-- EXTEND_DEADLINE: its tests in order; an accepted one reloads the counter and records the value (R22); a tick that is due
stays due (`Deadline.due` is the model's own, DEDUCED, log entries 5 and 6). ADD_RESERVATION: its tests in order; an accepted
one raises R by the cells (R56). What follows in the same event is `State.settle`, whose order is the model's (log entry 7).
-/
def Obligations.ExtendDeadlineAndAddReservationChangeTheRecord : Prop :=
  (
    ∀ (s : State) (tag : Byte) (handle : Half) (value : Byte), Serves s →
      EndsAt (.extendDeadline tag handle value) s
        (if value = 0 then s.refusal kindExtendDeadline tag .badValue
         else match s.live? (handleOf handle) with
          | none => s.refusal kindExtendDeadline tag .staleHandle
          | some e =>
            if e.origin = .sighted ∧ (e.state = .armed ∨ e.state = .active) then
              match e.deadline with
              | none => s.refusal kindExtendDeadline tag .wrongState
              | some d =>
                if d.last / 2 < d.value then s.refusal kindExtendDeadline tag .early
                else (s.begun.updEp e.slot (fun x => { x with deadline := some ⟨value.toNat, value.toNat, d.due⟩ })).replied kindExtendDeadline tag .ok (.number value.toNat)
            else s.refusal kindExtendDeadline tag .wrongState)) ∧
  (
    ∀ (s : State) (tag : Byte) (handle cells : Half), Serves s →
      EndsAt (.addReservation tag handle cells) s
        (if cells = 0 ∨ 16384 < cells.toNat then s.refusal kindAddReservation tag .badValue
         else match s.live? (handleOf handle) with
          | none => s.refusal kindAddReservation tag .staleHandle
          | some e =>
            if ¬ (e.origin = .sighted ∧ (e.state = .armed ∨ e.state = .active)) then s.refusal kindAddReservation tag .wrongState
            else if 65535 < e.reservation + cells.toNat then s.refusal kindAddReservation tag .badValue
            else if s.claimableRoom < cells.toNat then s.refusal kindAddReservation tag .noSpace
            else (s.begun.updEp e.slot (fun x => { x with reservation := x.reservation + cells.toNat })).replied kindAddReservation tag .ok
              (.number (e.reservation + cells.toNat))))

/-- A sighting in UP: the port, tag and N tests, the duplicate, the lingering record, and otherwise creation (R5 to R8, R31,
R148); a packet that is open is broken first (R149). Creation by sighting: refused for want of a slot, then for want of room;
else the lowest free slot and the claim, the record filled from the sighting and the policy (R3, R6, R7). The slot is the
lowest-numbered FREE one, and there is none exactly when no slot is FREE (R6); the key map finds the record of a key (R1); ΣR
is the sum of the reservations of ARMED, ACTIVE and DRAINING episodes and ΣB that of all borrowed cells (R6); a freed slot's
generation advances (R2, R15); the records stand in slot order. What follows in the same event is `State.settle`, whose order
is the model's (log entry 7). -/
def Obligations.SightingIsIgnoredOrCreatesAnEpisode : Prop :=
  (∀ (s : State) (port : Byte) (requester : Endpoint) (tag : Half) (n : Byte) (e : Half) (cls : BitVec 2) (report : Bool),
    Runs s → s.link.state = .up →
    let w := s.wordIn.breakOpen false
    let ignored := { w with link := { w.link with ignoredSightings := bump32 s.link.ignoredSightings } }
    let a : Announcement := { key := ⟨s.groupOf port.toNat, requester, tag⟩, n := n.toNat,
                              e := if e = 0 then none else some e.toNat, cls := cls.toNat, report := report }
    EndsAt (.sighting port requester tag n e cls report) s
      (if s.establishedPorts ≤ port.toNat then ignored
       else if (s.port a.key.group).state ≠ .active ∨ tag = 0 ∨ n = 0 ∨ 64 < n.toNat then ignored
       else match s.lookup a.key with
        | none => w.createSighted a
        | some old =>
          if old.state ≠ .linger then ignored
          else if old.linger = none then ((w.closeEpisode old.slot).freeEpisode old.slot).createSighted a
          else (w.freeEpisode old.slot).createSighted a)) ∧
  (∀ (s : State) (a : Announcement),
     let room := min (2097152 - s.store.floor - s.sumR) (2097152 - s.sumR - s.sumB)
     let pol := s.policy a.key.group
     let refused (cause : FullCause) : State :=
       if s.table.refusing then s
       else { s with table := { s.table with refusing := true } }.raise (.tableFull cause)
     s.createSighted a =
       match s.freeSlot? with
       | none => refused .table
       | some slot =>
         if room < pol.reservation ∧ room < 16 then refused .store
         else
           let claim := if pol.reservation ≤ room then pol.reservation else room
           let e : Episode :=
             { slot := slot, key := a.key, origin := .sighted, state := .armed, halted := false, expired := false,
               damaged := false, closeReason := none, cls := a.cls, report := a.report, n := some a.n, e := a.e,
               reservation := claim, heldOwn := 0, borrowed := 0, holdQueue := [], inFlight := false, roster := [],
               rosterCursor := none, unlisted := ⟨0, 0⟩, finished := 0, deadline := some ⟨pol.deadline, pol.deadline, false⟩,
               idle := none, linger := none, arrived := ⟨0, 0⟩, released := ⟨0, 0⟩, trimmed := ⟨0, 0⟩, discarded := ⟨0, 0⟩ }
           { s with table := { s.table with refusing := false, episodes := insertEpisode e s.table.episodes } }) ∧
  (∀ s : State,
    (s.freeSlot? = none ↔ ∀ n, n < 1024 → ∃ e ∈ s.table.episodes, e.slot = n) ∧
    (∀ n, s.freeSlot? = some n ↔
      n < 1024 ∧ (∀ e ∈ s.table.episodes, e.slot ≠ n) ∧ ∀ m, m < n → ∃ e ∈ s.table.episodes, e.slot = m) ∧
    (∀ key, s.lookup key = none ↔ ∀ e ∈ s.table.episodes, e.key ≠ key) ∧
    (∀ key e, s.lookup key = some e → e ∈ s.table.episodes ∧ e.key = key) ∧
    s.sumR = ((s.table.episodes.filter (fun e => decide (e.state = .armed ∨ e.state = .active ∨ e.state = .draining))).map
      (fun e => e.reservation)).sum ∧
    s.sumB = (s.table.episodes.map (fun e => e.borrowed)).sum ∧
    ∀ slot, s.freeEpisode slot = { s with table := { s.table with
      episodes := s.table.episodes.filter (fun e => decide (e.slot ≠ slot)),
      generations := vupd s.table.generations slot (fun n => n + 1) } }) ∧
  ∀ (e : Episode) (l : List Episode), insertEpisode e l =
    l.takeWhile (fun x => decide (x.slot ≤ e.slot)) ++ e :: l.dropWhile (fun x => decide (x.slot ≤ e.slot))

/-- An episode closes: its linger counter is loaded from the policy, and EPISODE_CLOSED is raised as the notice policy says
(R13, R14). A LINGER episode closes when it is empty and not yet closed. An empty DRAINING episode goes to LINGER, its close
reason EXPIRED if its deadline expired and else COMPLETED, and closes (R13). A SIGHTED episode in ACTIVE whose finished count
equals N completes: its grants are withdrawn without a strike, and it goes to DRAINING, or to LINGER if empty (R11). -/
def Obligations.EpisodesCloseWhenEmptyAndComplete : Prop :=
  (∀ (s : State) (slot : Nat), s.ep? slot = none →
    s.closeEpisode slot = s ∧ s.closeIfEmpty slot = s ∧ s.afterEmptying slot = s ∧ s.testCompletion slot = s) ∧
  ∀ (s : State) (slot : Nat) (e : Episode), s.ep? slot = some e →
    let set (f : Episode → Episode) : State :=
      { s with table := { s.table with episodes := s.table.episodes.map (fun x => if x.slot = slot then f x else x) } }
    let called : Bool := match (s.policy e.key.group).notice with
      | .none => false
      | .marked => decide (e.origin = .sighted) && e.report
      | .every => true
    let closed := set (fun x => { x with linger := some ⟨(s.policy e.key.group).linger, false⟩ })
    (s.closeEpisode slot = if called then closed.raise (.episodeClosed
        { handle := ⟨e.slot, s.generation e.slot⟩, key := e.key, origin := e.origin, closeReason := e.closeReason,
          expired := e.expired, damaged := e.damaged, rosterSize := e.roster.length, finished := e.finished,
          unlisted := e.unlisted, arrived := e.arrived, released := e.released, trimmed := e.trimmed,
          discarded := e.discarded }) else closed) ∧
    (s.closeIfEmpty slot =
      if e.state = .linger ∧ e.linger = none ∧ e.heldOwn = 0 ∧ e.borrowed = 0 then s.closeEpisode slot else s) ∧
    (s.afterEmptying slot =
      if e.state = .draining ∧ e.heldOwn = 0 ∧ e.borrowed = 0 then
        (set (fun x => { x with state := .linger, deadline := none, idle := none,
                                closeReason := some (if x.expired then .expired else .completed) })).closeIfEmpty slot
      else s.closeIfEmpty slot) ∧
    (s.completeEpisode slot =
      (set (fun x => { x with state := .draining, deadline := none, idle := none, roster := x.roster.map (fun r =>
        { r with grants := [], state := if r.state = .granted then .waiting else r.state }) })).afterEmptying slot) ∧
    (s.testCompletion slot =
      if e.origin = .sighted ∧ e.state = .active ∧ e.n = some e.finished then s.completeEpisode slot else s)

/-- Deadline expiry: of an ARMED episode, and of an ACTIVE one under either action (R18 to R21). The order of state, teardown,
close, EXPIRE count and EPISODE_EXPIRED within the event is DEDUCED (log entry 21), and the order of its notices is the
model's (log entry 20). Where the EXPIRE count takes the group into DRAIN_OUT (R163), the UNPACE frames of the teardown and of
the entry into DRAIN_OUT are frames of one event: they are produced episode by episode in the order of the table, which is
slot order (`State.RosterLaw`), and each responder has one (R69). A count reaches T when it changes to T (R162), and its type
is protected when its bit of the mask is set (R163). A due deadline that EXTEND_DEADLINE has reloaded lowers the new value by
1 and nothing expires (R22; DEDUCED, log entries 5 and 6). What follows in the same event is `State.settle`, whose order is
the model's (log entry 7). -/
def Obligations.DeadlineExpiryEndsTheEpisode : Prop :=
  (∀ (s : State) (slot : Nat) (e : Episode), Runs s → DeadlineDue s slot e → (e.state = .armed ∨ e.state = .active) →
    let g := e.key.group
    let pol := s.policy g
    let lingering := s.begun.updEp slot (fun x =>
      { x with state := .linger, closeReason := some .expired, deadline := none, idle := none, expired := true })
    let draining := s.begun.updEp slot (fun x =>
      { x with state := .draining, deadline := none, idle := none, expired := true })
    let ordersStandDown : Prop := (s.port g).state = .active ∧ protects pol.protect .expire = true ∧
      reachesThreshold pol.mode (vget (s.counterSet g).counts 5 0) s.counters.threshold = true
    let unpaced (u : State) : State := if ordersStandDown then u.unpaceGroup g else u
    let told (u : State) (action : Option ExpiryAction) : State :=
      if pol.notice = .none then u
      else u.raise (.episodeExpired ⟨⟨slot, u.generation slot⟩, e.key, e.state, action⟩)
    EndsAt (.deadlineExpiry slot) s
      (if e.state = .armed then told ((lingering.closeIfEmpty slot).count g .expire) none
       else if pol.expiry = .drain then
        told ((((unpaced draining).teardown slot false).afterEmptying slot).count g .expire) (some .drain)
       else told ((((unpaced lingering).teardown slot true).closeIfEmpty slot).count g .expire) (some .discard))) ∧
  (∀ (s : State) (slot : Nat) (e : Episode), s.SlotsDistinct → s.ep? slot = some e → e.state = .active → e.key.group < 48 →
    (s.port e.key.group).state = .active → protects (s.policy e.key.group).protect .expire = true →
    reachesThreshold (s.policy e.key.group).mode (vget (s.counterSet e.key.group).counts 5 0) s.counters.threshold = true →
    let t := s.expireDeadline slot e
    (t.port e.key.group).state = .drainOut ∧
    t.sched = ((s.table.episodes.filter (fun x => x.key.group == e.key.group)).flatMap Episode.unpaceFrames).foldl
      Scheduler.join s.sched) ∧
  (∀ (s : State) (slot : Nat) (e : Episode) (d : Deadline), Runs s → s.ep? slot = some e → e.deadline = some d →
     d.due = true → 1 < d.value →
     EndsAt (.deadlineExpiry slot) s
       (s.begun.updEp slot (fun x => { x with deadline := some { d with value := d.value - 1, due := false } }))) ∧
  (∀ (mode : CounterMode) (old limit : Nat),
    let new := if old < 255 then old + 1 else if mode = .wrap then 0 else old
    reachesThreshold mode old limit = true ↔ new ≠ old ∧ new = limit) ∧
  (∀ (mask : BitVec 6) (type : EvType), protects mask type = mask.getLsbD type.index) ∧
  ∀ (s : State) (slot : Nat) (discards : Bool),
    let withdrawn := (s.unpaceEpisode slot).updEp slot (fun x => { x with roster := x.roster.map (fun r =>
      { r with grants := [], state := if r.state = .granted then .waiting else r.state }) })
    s.teardown slot discards = if discards then withdrawn.updEp slot Episode.discardHeld else withdrawn

/-- Idle expiry takes an ACTIVE episode to DRAINING, or to LINGER if empty; linger expiry frees a closed record, whose slot's
generation advances (R12, R15). What follows in the same event is `State.settle`, whose order is the model's (log entry 7). -/
def Obligations.IdleAndLingerExpiryEndAndFree : Prop :=
  (∀ (s : State) (slot : Nat) (e : Episode) (c : Countdown), Runs s → s.ep? slot = some e → e.state = .active →
    e.idle = some c → c.due = true →
    EndsAt (.idleExpiry slot) s
      ((s.begun.updEp slot (fun x => { x with state := .draining, deadline := none, idle := none })).afterEmptying slot)) ∧
  ∀ (s : State) (slot : Nat) (e : Episode) (c : Countdown), Runs s → s.ep? slot = some e → e.state = .linger →
    e.linger = some c → c.due = true →
    EndsAt (.lingerExpiry slot) s
      { s.begun with table := { s.table with episodes := s.table.episodes.filter (fun x => x.slot != slot),
                                             generations := vupd s.table.generations slot (fun n => n + 1) } }

/-! ### Grants -/

/-- Grant timer expiry: the grant is withdrawn with a strike; the third strike retires the responder, counts RETIRE, raises
the finished count and tests for completion (R53, R54). That THRESHOLD and the PORT_STATE of a stand-down that the RETIRE
count orders stand ahead of the EPISODE_CLOSED of the completion is the model's choice (DESIGN CHOICE, log entry 20). What
follows in the same event is `State.settle`, whose order is the model's (log entry 7). -/
def Obligations.GrantExpiryStrikesAndRetires : Prop :=
  ∀ (s : State) (slot position number : Nat) (e : Episode) (r : Responder), Runs s → GrantDue s slot position number e r →
    let struck := s.begun.updEp slot (fun x => { x with roster := x.roster.modify position (fun y => y.strike number) })
    let retired := struck.updEp slot (fun x =>
      { x with roster := x.roster.modify position (fun y => { y with state := .retired, grants := [] }) })
    EndsAt (.grantTimerExpiry slot position number) s
      (if r.strikes + 1 = 3 then
        ((retired.count e.key.group .retire).updEp slot (fun x => { x with finished := x.finished + 1 })).testCompletion slot
       else struck)

/-- A scheduling decision is taken exactly when its conditions hold and the group has a candidate (R58 to R60, R62), whose
size is the policy's grant size, or with E announced the smaller of it and E less the packets arrived and remaining, never
lowered (R61); k is the cells of a packet of the policy's MTU. It takes the lowest-numbered class that holds a candidate, in
it the first slot after the class cursor in ring order (R64; the records stand in slot order by `State.RosterLaw`), and in the
episode the first position after the roster cursor in ring order (R65). A grant is recorded with its frame: the responder's
entry, the roster and class cursors, the credit and the queue (R51, R63 to R66). -/
def Obligations.GrantDecisionsAreConditionedAndRecorded : Prop :=
  (∀ (s : State) (g : Nat), s.k g = ((s.policy g).mtu + 255) / 256) ∧
  (∀ (s : State) (g : Nat),
    let size (x : Episode) (y : Responder) : Nat :=
      match x.e with
      | none => (s.policy g).grantSize
      | some total => min (s.policy g).grantSize (total - y.packetsArrived - y.remaining)
    let isCandidate (x : Episode) (y : Responder) : Prop :=
      x ∈ s.table.episodes ∧ x.key.group = g ∧ x.origin = .sighted ∧ x.state = .active ∧ x.halted = false ∧
      y.unpaced = false ∧ (y.state = .waiting ∨ (y.state = .granted ∧ y.grants.length < 2)) ∧ 1 ≤ size x y ∧
      x.heldOwn + s.k g * (x.granted + size x y) ≤ x.reservation
    let mayDecide : Prop := (s.port g).state = .active ∧ 0 < (s.pacer g).grantCredit ∧ s.sched.backlog = [] ∧
      s.sched.queue.length < 512
    (∀ c, s.decision? g = some c → mayDecide ∧
      ∃ (e : Episode) (r : Responder), e.slot = c.slot ∧ e.roster[c.position]? = some r ∧ isCandidate e r ∧ e.cls ≤ 3 ∧
        c.size = size e r ∧
        (∀ (p : Nat) (y : Responder), e.roster[p]? = some y → isCandidate e y → p ≠ c.position →
          RingBefore e.rosterCursor c.position p) ∧
        ∀ (x : Episode) (p : Nat) (y : Responder), x.roster[p]? = some y → isCandidate x y →
          e.cls ≤ x.cls ∧ (s.SlotOrder → x.cls = e.cls → x.slot ≠ e.slot → RingBefore (s.classCursor g e.cls) e.slot x.slot)) ∧
    (mayDecide → (∃ (x : Episode) (p : Nat) (y : Responder), x.roster[p]? = some y ∧ isCandidate x y ∧ x.cls ≤ 3) →
      (s.decision? g).isSome = true)) ∧
  (
    ∀ (s : State) (g : Nat) (c : Candidate) (e : Episode) (r : Responder),
      s.ep? c.slot = some e → e.roster[c.position]? = some r →
      let pol := s.policy g
      s.makeGrant g c =
        { s with
          table := { s.table with episodes := s.table.episodes.map (fun x => if x.slot = c.slot then
            { x with rosterCursor := some c.position, roster := x.roster.modify c.position (fun y =>
              { y with grants := y.grants ++ [⟨y.nextNumber, c.size, pol.grantTimeout, false⟩], state := .granted,
                       nextNumber := if y.nextNumber = 65535 then 1 else y.nextNumber + 1 }) } else x) },
          pacers := vupd s.pacers g (fun p => { p with grantCredit := p.grantCredit - (c.size * pol.mtu : Nat) }),
          sched := { s.sched with
            queue := s.sched.queue ++ [⟨r.endpoint, e.key.requester, e.key.tag, r.nextNumber, c.size⟩],
            classCursors := vupd s.sched.classCursors g (fun v => vupd v e.cls (fun _ => some c.slot)) } })

/-- A produced UNPACE frame joins the queue, else the backlog, else is not made and counted; sending a frame moves the
backlog's head into the place it frees (R68, R70). UNPACE is produced for an episode only if it is SIGHTED, for each responder
that is neither FINISHED nor RETIRED and not yet unpaced, in roster order: the responder is unpaced and its grants withdrawn,
and its frame carries its next grant number and the count 0 (R34, R69). For a drain group it is produced for its episodes in
the order of the table, which is slot order (`State.RosterLaw`). -/
def Obligations.UnpaceIsProducedAndKeepsItsOrder : Prop :=
  (∀ (c : Scheduler) (f : GrantFrame), c.join f =
    if c.backlog = [] ∧ c.queue.length < 512 then { c with queue := c.queue ++ [f] }
    else if c.backlog.length < 16384 then { c with backlog := c.backlog ++ [f] }
    else { c with notMade := bump32 c.notMade }) ∧
  (∀ (c : Scheduler) (h : GrantFrame) (rest : List GrantFrame), c.queue = h :: rest →
    (c.backlog = [] → c.sendHead = { c with queue := rest }) ∧
    ∀ b more, c.backlog = b :: more → c.sendHead = { c with queue := rest ++ [b], backlog := more }) ∧
  (∀ (s : State) (slot : Nat) (e : Episode), s.ep? slot = some e →
    let wanted (r : Responder) : Bool := r.state != .finished && r.state != .retired && !r.unpaced
    let ended (r : Responder) : Responder := { r with unpaced := true, grants := [], state := .waiting }
    (e.origin = .sighted →
      s.unpaceEpisode slot = { s with
        table := { s.table with episodes := s.table.episodes.map (fun x => if x.slot = slot then
          (if x.origin = .sighted then { x with roster := x.roster.map (fun r => if wanted r then ended r else r) } else x)
          else x) },
        sched := ((e.roster.filter wanted).map (fun r =>
          (⟨r.endpoint, e.key.requester, e.key.tag, r.nextNumber, 0⟩ : GrantFrame))).foldl Scheduler.join s.sched }) ∧
    (e.origin = .adopted → (s.unpaceEpisode slot).sched = s.sched ∧ (s.unpaceEpisode slot).ep? slot = some e)) ∧
  ∀ (s : State) (g : Nat), s.unpaceGroup g =
    ((s.table.episodes.filter (fun e => e.key.group == g)).map (fun e => e.slot)).foldl State.unpaceEpisode s

/-! ### Arrivals -/

/-- A PACKET descriptor in UP: a packet still open is broken first; the descriptor is malformed, a staging drop, or staged
with its room reserved; at 147,456 bytes the part pauses the switch (R149 to R151). A payload word in UP: rejected with no
packet open, consumed for a packet that is not staged, breaking on a bad count or a wrong total, stored, or completing the
packet, which is then dispatched (R148, R149, R185). A broken packet is discarded and counted and its room released (R149);
that it stays open, its further words consumed, until its last payload word has come, and that a packet whose words are only
consumed is not counted again when it is interrupted, is DEDUCED (log entry 17). That a packet whose last payload word is
damaged is still open is the model's choice (DESIGN CHOICE, log entry 36). The staging fill is the sum of the lengths of the
packets that hold room: the open packet if it is staged, the passed-through packet being sent, those waiting to be sent, the
write list and the packet being written (R150). The port count and the maximum length are the established ones (R146). At
49,152 bytes or less a paused part resumes the switch, with RESUME in UP (R151). What follows in the same event is
`State.settle`, whose order is the model's (log entry 7). -/
def Obligations.DescriptorsAndPayloadBuildPackets : Prop :=
  (∀ (s : State) (port flags : Byte) (length : Half) (dest src : Endpoint) (tag grant : Half), Runs s → s.link.state = .up →
    let d : Descriptor := ⟨port.toNat, flags, length.toNat, dest, src, tag, grant⟩
    let opened (staged : Bool) (l : Link) : Link := { l with openPacket := some ⟨d, staged, 0, []⟩ }
    let w := s.wordIn.breakOpen true
    EndsAt (.packetDescriptor port flags length dest src tag grant) s
      (if length.toNat < 64 ∨ 9216 < length.toNat ∨ s.establishedLength < length.toNat ∨ s.establishedPorts ≤ port.toNat then
        { w with link := opened false { w.link with discards := bump32 w.link.discards } }
       else if 196608 < w.stagingFill + length.toNat then
        { w with link := opened false { w.link with stagingDrops := bump32 s.link.stagingDrops } }
       else if w.link.paused = false ∧ 147456 ≤ w.stagingFill + length.toNat then
        { w with link := { opened true w.link with paused := true }, out := w.out ++ [.pause] }
       else { w with link := opened true w.link })) ∧
  (∀ (s : State) (last : Bool) (count : Byte) (data : List Byte), Runs s → s.link.state = .up →
    EndsAt (.payloadWord last count data) s
      (match s.link.openPacket with
       | none => { s.wordIn with link := { s.wordIn.link with rejectedWords := bump32 s.link.rejectedWords } }
       | some o =>
        let total := o.received + count.toNat
        let bytes := o.data ++ data.take count.toNat
        if o.staged = false then
          (if last then { s.wordIn with link := { s.wordIn.link with openPacket := none } } else s.wordIn)
        else if count.toNat = 0 ∨ 28 < count.toNat ∨ o.desc.length < total then s.wordIn.breakOpen last
        else if last = false then
          { s.wordIn with link := { s.wordIn.link with openPacket := some { o with received := total, data := bytes } } }
        else if total ≠ o.desc.length then s.wordIn.breakOpen true
        else { s.wordIn with link := { s.wordIn.link with openPacket := none } }.arrive o.desc bytes)) ∧
  (∀ (s : State) (ended : Bool),
    s.breakOpen ended =
      match s.link.openPacket with
      | none => s
      | some o =>
        let after : Option OpenPacket := if ended then none else some { o with staged := false }
        if o.staged then
          { s with link := { s.link with openPacket := after, discards := bump32 s.link.discards } }.resumeCheck
        else { s with link := { s.link with openPacket := after } }) ∧
  (∀ s : State, s.stagingFill =
    (match s.link.openPacket with | some o => if o.staged then o.desc.length else 0 | none => 0) +
    (match s.link.sending with | some (.passed p) => p.desc.length | _ => 0) +
    (s.link.passList.map (fun p => p.desc.length)).sum + (s.store.writeList.map (fun p => p.length)).sum +
    (match s.store.transfer with | .write p => p.length | _ => 0)) ∧
  (∀ (s : State) (p : LinkParams), s.link.established = some p →
    s.establishedPorts = p.portCount ∧ s.establishedLength = p.maxLength) ∧
  ∀ s : State,
    s.resumeCheck =
      if s.link.paused = true ∧ s.stagingFill ≤ 49152 then
        { s with link := { s.link with paused := false }, out := if s.link.state = .up then s.out ++ [.resume] else s.out }
      else s

/-- The dispatch of a complete packet: a port fault for a member not expecting diverts; else adoption or pass-through for an
absent key, and for a present key the handling its episode's state and origin call for (R9, R23, R24, R32, R129). A port
fault: the packet is passed through, the group goes to FAULTED with its fault record, the stop flags cleared, STOP_DIVERT
handed, PORT_STATE raised, and UNPACE produced unless it was FAULTED before (R134); that a pair's even member is handed its
STOP_DIVERT first is the model's choice (DESIGN CHOICE, log entry 34). -/
def Obligations.CompletePacketIsDispatchedOrFaultsThePort : Prop :=
  (
    ∀ (s : State) (d : Descriptor) (data : List Byte),
      let g := s.groupOf d.port
      let x := s.port d.port
      let a : Arrival := ⟨d, data, g⟩
      let expecting := match (s.port g).state with
        | .active => true
        | .starting => x.startedSeen
        | .drainOut => !x.stoppedSeen
        | .faulted => !x.stoppedSeen
        | .disabled => false
      let tag : Half := if d.flags.getLsbD 0 then d.tag else 0
      s.arrive d data =
        if expecting = false then s.portFault a
        else match s.lookup ⟨g, d.dest, tag⟩ with
          | none =>
            if (s.port g).state = .active ∧ (s.policy g).adopt = true ∧ s.freeSlot?.isSome = true then s.arriveUnmatched a
            else s.passThrough a
          | some e =>
            if e.state = .draining then s.arriveDraining e.slot a
            else if e.state = .linger then (s.count g .late).passThrough a
            else if e.state = .active ∧ e.origin = .adopted then s.arriveAdopted e.slot a
            else s.arriveSighted e.slot a) ∧
  (
    ∀ (s : State) (a : Arrival),
      let g := a.group
      let u : State := { s with link := { s.link with passList := s.link.passList ++ [⟨a.desc, a.data⟩] } }
      let record : FaultRecord := ⟨(s.port g).state, a.desc.port, a.desc.src, a.desc.dest, a.desc.length⟩
      let v := u.updPort g (fun p => { p with state := .faulted, clearing := .awaitingStatus, fault := some record })
      let w := ((v.updMembers g (fun p => { p with stoppedSeen := false })).handStop g).raisePortState g .fault
      s.portFault a = if (s.port g).state = .faulted then w else w.unpaceGroup g)

/-- The handling of a complete packet by its episode: SIGHTED in ARMED or ACTIVE (the order of R40: ARMED becomes ACTIVE and a
pending ON_NEXT_EPISODE rate applies, R10, R115; the sender is found or entered; the counts; the judgement of a listed sender,
its last flag and the completion test; borrow-or-trim for an unlisted one, R39), ADOPTED in ACTIVE (R12, R48), DRAINING (R23).
An absent key is adopted where the policy adopts and a slot is free, and else passed through (R9, R152). -/
def Obligations.ArrivalsAreHandledByStateAndOrigin : Prop :=
  let noted (s : State) (slot : Nat) (a : Arrival) : State := s.updEp slot (fun x => { x.noteSender a with
    arrived := ⟨min (x.arrived.packets + 1) 4294967295, min (x.arrived.bytes + a.desc.length) 4294967295⟩ })
  let known (s : State) (slot : Nat) (a : Arrival) : Bool :=
    (s.ep? slot).any (fun e => e.roster.any (fun r => r.endpoint == a.desc.src))
  (∀ (s : State) (slot : Nat) (a : Arrival) (e : Episode), s.ep? slot = some e →
    let activated := if e.state = .armed then
      (s.updEp slot (fun x => { x with state := .active })).applyNextEpisode a.group else s
    let u := noted (activated.enter slot a) slot a
    s.arriveSighted slot a =
      match (u.ep? slot).bind (fun x => x.roster.find? (fun r => r.endpoint == a.desc.src)) with
      | none => u.borrowOrTrim slot a false
      | some r => ((u.judgeAndHold slot a r).applyLast slot a r).testCompletion slot) ∧
  (∀ (s : State) (slot : Nat) (a : Arrival),
    let u := (noted (s.enter slot a) slot a).updEp slot (fun x =>
      { x with idle := some ⟨((s.enter slot a).policy a.group).idle, false⟩ })
    s.arriveAdopted slot a = u.borrowOrTrim slot a (known u slot a)) ∧
  (∀ (s : State) (slot : Nat) (a : Arrival),
    let u := noted (s.count a.group .late) slot a
    s.arriveDraining slot a = u.borrowOrTrim slot a (known u slot a)) ∧
  (∀ (s : State) (a : Arrival),
    s.arriveUnmatched a =
      if (s.port a.group).state = .active ∧ (s.policy a.group).adopt = true then
        match s.freeSlot? with
        | none => s.passThrough a
        | some slot =>
          let e : Episode :=
            { slot := slot, key := ⟨a.group, a.desc.dest, if a.desc.flags.getLsbD 0 then a.desc.tag else 0⟩, origin := .adopted,
              state := .active, halted := false, expired := false, damaged := false, closeReason := none, cls := 3,
              report := false, n := none, e := none, reservation := 0, heldOwn := 0, borrowed := 0, holdQueue := [],
              inFlight := false, roster := [], rosterCursor := none, unlisted := ⟨0, 0⟩, finished := 0, deadline := none,
              idle := some ⟨(s.policy a.group).idle, false⟩, linger := none, arrived := ⟨0, 0⟩, released := ⟨0, 0⟩,
              trimmed := ⟨0, 0⟩, discarded := ⟨0, 0⟩ }
          ({ s with table := { s.table with refusing := false, episodes := insertEpisode e s.table.episodes } }.applyNextEpisode
            a.group).arriveAdopted slot a
      else s.passThrough a) ∧
  (∀ (s : State) (a : Arrival),
    s.passThrough a = { s with link := { s.link with passList := s.link.passList ++ [⟨a.desc, a.data⟩] } }) ∧
  ∀ (s : State) (g : Nat), s.applyNextEpisode g =
    match (s.pacer g).pending with
    | none => s
    | some r => if r.apply = .onNextEpisode then s.applyRate g else s

/-- A packet's responder is found, or entered while the roster and the pool have room; into a SIGHTED episode of a group in
DRAIN_OUT or FAULTED it is entered unpaced, its UNPACE frame produced at once (R34 to R36, R38, R48). The packets-arrived
count of a listed sender, or else the unlisted counts, note the packet (R39; past 32 bits a free value, log entry 12). An
opening packet uses the allowance (R43); a grant-cited packet uses one packet of its grant and reloads the timer (R45); an
expired grant goes with a strike (R53); the last flag finishes the responder (R47); own admission raises the held-own cells
and puts the packet on the write list (R42, R79). -/
def Obligations.RespondersAreEnteredCountedAndStruck : Prop :=
  (∀ (s : State) (slot : Nat) (a : Arrival) (e : Episode), s.SlotsDistinct → s.ep? slot = some e →
    let limit : Nat := match e.origin with | .sighted => e.n.getD 0 | .adopted => 64
    let place (r : Responder) : State :=
      { s with table := { s.table with episodes := s.table.episodes.map (fun x =>
          if x.slot = slot then { x with roster := x.roster ++ [r] } else x) } }
    s.enter slot a =
      if (∃ r ∈ e.roster, r.endpoint = a.desc.src) ∨ limit ≤ e.roster.length ∨
          16384 ≤ (s.table.episodes.map (fun x => x.roster.length)).sum then s
      else match e.origin with
        | .adopted => place ⟨a.desc.src, .waiting, 0, [], 1, 0, false, 0⟩
        | .sighted =>
          if (s.port e.key.group).state = .drainOut ∨ (s.port e.key.group).state = .faulted then
            { place ⟨a.desc.src, .waiting, (s.policy e.key.group).allowance, [], 1, 0, true, 0⟩ with
              sched := s.sched.join ⟨a.desc.src, e.key.requester, e.key.tag, 1, 0⟩ }
          else place ⟨a.desc.src, .opening, (s.policy e.key.group).allowance, [], 1, 0, false, 0⟩) ∧
  (∀ (e : Episode) (a : Arrival),
    ((∃ r ∈ e.roster, r.endpoint = a.desc.src) →
      e.noteSender a = { e with roster := e.roster.map (fun r =>
        if r.endpoint = a.desc.src then { r with packetsArrived := bump32 r.packetsArrived } else r) }) ∧
    ((∀ r ∈ e.roster, r.endpoint ≠ a.desc.src) → ∃ u : Tally, e.noteSender a = { e with unlisted := u } ∧
      (e.unlisted.packets < 4294967295 → u.packets = e.unlisted.packets + 1) ∧
      (e.unlisted.bytes + a.desc.length < 4294967296 → u.bytes = e.unlisted.bytes + a.desc.length))) ∧
  (∀ r : Responder, r.useAllowance =
    { r with allowance := r.allowance - 1,
             state := if r.allowance - 1 = 0 ∧ r.state = .opening then .waiting else r.state }) ∧
  (∀ (r : Responder) (number timeout : Nat),
    let left := (r.grants.map (fun g =>
      if g.number = number then { g with remaining := g.remaining - 1, timer := timeout, due := false } else g)).filter
        (fun g => !decide (g.number = number ∧ g.remaining = 0))
    r.useGrant number timeout =
      { r with grants := left, state := if r.state = .granted ∧ left = [] then .waiting else r.state }) ∧
  (∀ (r : Responder) (number : Nat),
    let left := r.grants.filter (fun g => !decide (g.number = number))
    r.strike number =
      { r with grants := left, strikes := r.strikes + 1,
               state := if r.state = .granted ∧ left = [] then .waiting else r.state }) ∧
  (∀ (s : State) (slot : Nat) (a : Arrival) (r : Responder),
    let last : Bool := a.desc.flags.getLsbD 0 && decide (a.desc.tag ≠ 0) && a.desc.flags.getLsbD 1
    s.applyLast slot a r =
      if last = true ∧ r.state ≠ .finished ∧ r.state ≠ .retired then
        s.updEp slot (fun x => { x with finished := x.finished + 1, roster := x.roster.map (fun y =>
          if y.endpoint = r.endpoint then { y with state := .finished, grants := [] } else y) })
      else s) ∧
  ∀ (s : State) (slot : Nat) (a : Arrival) (e : Episode), s.ep? slot = some e →
    let packet : HeldPacket :=
      { handle := ⟨e.slot, s.generation e.slot⟩, responder := a.desc.src, length := a.desc.length, cls := e.cls, kind := .own,
        data := a.data, chain := [] }
    s.holdOwn slot a = { s.updEp slot (fun x => { x with heldOwn := x.heldOwn + cellsOf a.desc.length }) with
      store := { s.store with writeList := s.store.writeList ++ [packet] } }

/-- The judgement of a listed responder's packet, in the order of Table 2-3, with the event it counts, the way it is held and
the entry's change (R41 to R46). -/
def Obligations.JudgementFollowsTheTable : Prop :=
  ∀ (s : State) (slot : Nat) (a : Arrival) (r : Responder),
    let pol := s.policy a.group
    let number := a.desc.grantNumber.toNat
    s.judgeAndHold slot a r =
      if pol.mtu < a.desc.length ∨ r.state = .finished ∨ r.state = .retired then
        (s.count a.group .overrun).borrowOrTrim slot a true
      else if r.unpaced = true then s.borrowOrTrim slot a true
      else if number = 0 then
        (if r.allowance = 0 then (s.count a.group .overrun).borrowOrTrim slot a true
         else
          let u := s.updEp slot (fun x => x.updResponder r.endpoint Responder.useAllowance)
          match u.ep? slot with
          | none => u
          | some e =>
            if e.heldOwn + s.k a.group * e.granted + cellsOf a.desc.length ≤ e.reservation then u.holdOwn slot a
            else u.borrowOrTrim slot a true)
      else if ∃ g ∈ r.grants, g.number = number then
        (s.updEp slot (fun x => x.updResponder r.endpoint (fun y => y.useGrant number pol.grantTimeout))).holdOwn slot a
      else (s.count a.group .stray).borrowOrTrim slot a true

/-- Borrow-or-trim: borrowed within the borrow cap and the store-wide sum, and then charged and put on the write list; trimmed
otherwise, with TRIM for a listed sender and a loss stub if there is room (R49, R50, R79). -/
def Obligations.BorrowOrTrimKeepsWithinCapAndStore : Prop :=
  ∀ (s : State) (slot : Nat) (a : Arrival) (listed : Bool) (e : Episode), s.ep? slot = some e →
    let c := cellsOf a.desc.length
    let fits := e.borrowed + c ≤ (s.policy e.key.group).borrowCap ∧ s.sumR + s.sumB + c ≤ 2097152
    (fits →
      let records := s.table.episodes.map (fun x => if x.slot = slot then { x with borrowed := x.borrowed + c } else x)
      let packet : HeldPacket :=
        { handle := ⟨e.slot, s.generation e.slot⟩, responder := a.desc.src, length := a.desc.length, cls := e.cls,
          kind := .borrowed, data := a.data, chain := [] }
      s.borrowOrTrim slot a listed =
        { s with table := { s.table with episodes := records },
                 store := { s.store with writeList := s.store.writeList ++ [packet] } }) ∧
    (¬ fits →
      let u := (s.updEp slot (fun x => { x with trimmed := x.trimmed.add a.desc.length })).resumeCheck
      let v := if listed then u.count e.key.group .trim else u
      s.borrowOrTrim slot a listed =
        if v.link.stubs.length < 256 then
          let stub : Stub := ⟨e.key.requester, a.desc.src, e.key.tag, a.desc.grantNumber, a.desc.length⟩
          { v with link := { v.link with stubs := v.link.stubs ++ [stub] } }
        else v)

/-! ### The store -/

/-- CAPTURE taken: refused for a stale handle, else the engine holds it and the capture reader waits (R87, R95). A capture
read completes: OK with the record's fields, at most 128 bytes and the queue length at the grant, or DATA_ERROR with nothing
and the corrected count left as it was; the engine is free again (R96). What follows in the same event is `State.settle`,
whose order is the model's (log entry 7). -/
def Obligations.CaptureWaitsAndIsAnswered : Prop :=
  (∀ (s : State) (tag : Byte) (handle : Half), Serves s →
    EndsAt (.capture tag handle) s
      (match s.live? (handleOf handle) with
       | none => s.refusal kindCapture tag .staleHandle
       | some _ => { s.begun with mgmt := { s.mgmt with engine := .capturing tag (handleOf handle) } })) ∧
  ∀ (s : State) (snap : CaptureSnap) (tag : Byte) (h : Handle) (corrected : Nat), Runs s →
    s.store.transfer = .capture snap → s.mgmt.engine = .capturing tag h →
    let answered (u : State) (status : Status) (body : ReplyBody) : State :=
      { u with mgmt := { u.mgmt with engine := .idle, replies := u.mgmt.replies ++ [⟨tag, kindCapture, status, body⟩] } }
    let ended := { s.begun with store := { s.store with transfer := .none } }
    let counted := { s.begun with store := { s.store with
      transfer := .none, corrected := min (s.store.corrected + corrected) 4294967295 } }
    EndsAt (.captureReadComplete corrected false) s (answered counted .ok (.captured
      { handle := snap.record.handle, responder := snap.record.responder, length := snap.record.length, cls := snap.record.cls,
        firstCell := snap.record.chain.headD 0, kind := snap.record.kind, bytes := snap.record.data.take 128,
        queueLength := snap.queueLength })) ∧
    EndsAt (.captureReadComplete corrected true) s (answered ended .dataError .nothing)

/-- The store arbiter's choice by the cases of R85, taken of who waits (the arrival writer, the release reader with a drain
group to present, the engine's CAPTURE), the pass count, the staging fill and who was served last. At the end of an event the
arbiter grants nothing while a transfer runs, and else it grants the requester so chosen; only a capture that is answered at
its grant leaves the DRAM free for the next choice (R84, R96). Where two or more have come to wait at a DRAM that was idle
before the event, which of them is granted first is a free value (R84; log entry 9). The return arbiter completes its item,
which releases a passed-through packet's room, and begins the head of the first source that is not empty in the order control,
grant frames, stubs, passed-through, released (R150, R153, R154): the item leaves its source in that event, a grant frame with
the UNPACE backlog's head moving to the tail of its queue (R70), and nothing else changes. Without UP, with an item being
sent, under the hold or with every source empty it begins nothing (R153, R154). What follows in the same event is
`State.settle`, whose order is the model's (log entry 7). -/
def Obligations.StoreAndReturnArbitersServeInOrder : Prop :=
  (
    ∀ (writer reader capture : Bool) (pass fill : Nat) (last : Option Served),
      arbiterChoice writer reader capture pass fill last =
        if capture = true ∧ pass = 16 then some .capture
        else if writer = true ∧ 98304 ≤ fill then some .writer
        else if writer = true ∧ reader = true then
          (match last with | none => some .writer | some .writer => some .reader | some .reader => some .writer)
        else if writer = true then some .writer
        else if reader = true then some .reader
        else if capture = true then some .capture
        else none) ∧
  (
    ∀ s : State,
      let capture : Bool := match s.mgmt.engine with | .capturing _ _ => true | _ => false
      s.arbiterPick = arbiterChoice s.writerWaits s.readerGroup?.isSome capture s.store.passCount s.stagingFill s.store.lastServed ∧
      s.requesters = (if s.writerWaits then [Requester.writer] else []) ++
        (if s.readerGroup?.isSome then [Requester.reader] else []) ++ (if capture then [Requester.capture] else []) ∧
      s.grantDram .writer = s.grantWrite ∧ s.grantDram .reader = s.grantRead ∧ s.grantDram .capture = s.grantCapture) ∧
  (
    ∀ (s : State) (wasIdle : Bool),
      let served (u : State) (r : Requester) : State :=
        let v := u.grantDram r
        if v.store.transfer ≠ .none then v
        else match v.arbiterPick with
          | none => v
          | some q => v.grantDram q
      (s.store.transfer ≠ .none → s.storeArbiter wasIdle = s) ∧
      (s.store.transfer = .none → wasIdle = false ∨ s.requesters.length < 2 →
        s.storeArbiter wasIdle = (match s.arbiterPick with | none => s | some r => served s r)) ∧
      (s.store.transfer = .none → wasIdle = true → 2 ≤ s.requesters.length →
        ∃ r ∈ s.requesters, s.storeArbiter wasIdle = served { s with choices := s.choices + 1 } r)) ∧
  (
    (∀ (s : State) (item : OutItem), Runs s → s.link.sending = some item →
      EndsAt .returnItemComplete s { s.begun with link := { s.link with sending := none } }.resumeCheck) ∧
    ∀ s : State,
      let sending (item : OutItem) : State :=
        { s with link := { s.link with sending := some item }, out := s.out ++ [.item item] }
      s.beginItem =
        if s.link.state = .up ∧ s.link.sending = none ∧ s.link.hold = false then
          match s.link.control, s.sched.queue, s.link.stubs, s.link.passList, s.store.released with
          | w :: rest, _, _, _, _ =>
            let t := sending (.control w)
            { t with link := { t.link with control := rest } }
          | [], f :: rest, _, _, _ =>
            { sending (.grant f) with sched :=
              match s.sched.backlog with
              | [] => { s.sched with queue := rest }
              | b :: more => { s.sched with queue := rest ++ [b], backlog := more } }
          | [], [], x :: rest, _, _ =>
            let t := sending (.stub x)
            { t with link := { t.link with stubs := rest } }
          | [], [], [], p :: rest, _ =>
            let t := sending (.passed p)
            { t with link := { t.link with passList := rest } }
          | [], [], [], [], r :: rest => { sending (.released r) with store := { s.store with released := rest } }
          | [], [], [], [], [] => s
        else s)

/-- The packets with cells are those of the hold queues, the one being written and those of the releases in flight, each of
cells(L) cells (R73). The arrival writer waits when the free cells are enough for the write list's head (R80); the reader
presents the first drain group after its cursor in ring order whose release waits, while the released-packet queue has a place
(R86). A write's grant takes the head off the write list and gives it cells(L) free cells (R73, R80; which of them is a free
value, log entry 10), a read's grant moves the cursor, a capture's grant answers a stale handle or an empty hold queue at once
and else copies the head packet as it stands (R96, R97). The grant to writer or reader is remembered, and raises the pass
count while a capture waits (R84, R85). -/
def Obligations.StoreGrantsTakeCellsAndTurns : Prop :=
  (∀ (s : State) (p : HeldPacket), cellsOf p.length = (p.length + 255) / 256 ∧
    (p ∈ s.packetsWithCells ↔ (∃ e ∈ s.table.episodes, p ∈ e.holdQueue) ∨ s.store.transfer = .write p ∨
      ∃ r ∈ s.store.releases.toList, ∃ x, r = some x ∧ x.packet = p) ∧
    s.usedCells = (s.packetsWithCells.map (fun x => x.chain)).flatten) ∧
  (∀ s : State, s.freeCells =
    if s.store.initialising then 0 else 2097152 - (s.packetsWithCells.map (fun p => cellsOf p.length)).sum) ∧
  (∀ s : State, s.writerWaits = true ↔
    s.store.initialising = false ∧ ∃ p rest, s.store.writeList = p :: rest ∧ cellsOf p.length ≤ s.freeCells) ∧
  (∀ s : State,
    let waits (g : Nat) : Prop := g < 48 ∧ ∃ r, s.release? g = some r ∧ r.granted = false
    (s.readerGroup? = none ↔ 16 ≤ s.store.released.length ∨ s.store.initialising = true ∨ ∀ g, ¬ waits g) ∧
    ∀ g, s.readerGroup? = some g →
      s.store.released.length < 16 ∧ s.store.initialising = false ∧ waits g ∧
      (s.store.groupCursor = none → ∀ h, waits h → g ≤ h) ∧
      ∀ c, s.store.groupCursor = some c →
        (c < g ∧ ∀ h, waits h → c < h → g ≤ h) ∨ (g ≤ c ∧ ∀ h, waits h → h ≤ c ∧ g ≤ h)) ∧
  (∀ (s : State) (p : HeldPacket) (rest : List HeldPacket), s.store.writeList = p :: rest →
    ∃ chain, s.grantWrite = { s with choices := s.choices + 1, store := { s.store with
        writeList := rest, transfer := .write { p with chain := chain }, lastServed := some .writer,
        passCount := s.notePass } } ∧
      (s.writerWaits = true → s.usedCells.Nodup → (∀ c ∈ s.usedCells, c < 2097152) →
        (∀ x ∈ s.packetsWithCells, x.chain.length = cellsOf x.length) →
        chain.length = cellsOf p.length ∧ chain.Nodup ∧ ∀ c ∈ chain, c < 2097152 ∧ c ∉ s.usedCells)) ∧
  (∀ (s : State) (g : Nat) (r : Release), s.readerGroup? = some g → s.release? g = some r →
    s.grantRead = { s with store := { s.store with
      releases := vupd s.store.releases g (fun _ => some { r with granted := true }), transfer := .release g,
      groupCursor := some g, lastServed := some .reader, passCount := s.notePass } }) ∧
  (∀ (s : State) (tag : Byte) (h : Handle), s.mgmt.engine = .capturing tag h →
    let u : State := { s with store := { s.store with passCount := 0 } }
    let answered (status : Status) : State := { u with mgmt := { s.mgmt with
      engine := .idle, replies := s.mgmt.replies ++ [⟨tag, kindCapture, status, .nothing⟩] } }
    s.grantCapture =
      match s.live? h with
      | none => answered .staleHandle
      | some e =>
        match e.holdQueue with
        | [] => answered .empty
        | head :: _ => { u with store := { u.store with transfer := .capture ⟨head, e.holdQueue.length⟩ } }) ∧
  ∀ s : State,
    ((∃ tag h, s.mgmt.engine = .capturing tag h) → s.notePass = min 16 (s.store.passCount + 1)) ∧
    ((∀ tag h, s.mgmt.engine ≠ .capturing tag h) → s.notePass = s.store.passCount)

/-- A store write completes: its staging room goes, and the packet joins its hold queue, is discarded, or is orphaned (R81). A
release read completes: the cases of R89 in their order, with the corrected count and the suspension of an uncorrectable read
(R89, R92, R93). A suspension sets the flag and raises PORT_STATE with cause store, unless the group is suspended already
(R93, R136); that the group is the one which the release's port belongs to at the completion, where a bond was formed or
dissolved since the release began, is the model's choice (DESIGN CHOICE, log entry 38), and that this notice stands ahead of
an EPISODE_CLOSED of the same event is the model's choice (DESIGN CHOICE, log entry 20). A released packet fills its place of
the released-packet queue (R90). What follows in the same event is `State.settle`, whose order is the model's (log entry 7).
-/
def Obligations.StoreCompletionsHoldReleaseOrDiscard : Prop :=
  (∀ (s : State) (p : HeldPacket), Runs s → s.store.transfer = .write p →
    let u := { s.begun with store := { s.store with transfer := .none } }.resumeCheck
    EndsAt .storeWriteComplete s
      (match s.live? p.handle with
       | none => u
       | some e =>
        if e.state ≠ .linger then u.updEp e.slot (fun x => { x with holdQueue := x.holdQueue ++ [p] })
        else (u.updEp e.slot (fun x => x.discard p)).closeIfEmpty e.slot)) ∧
  (∀ (s : State) (g corrected : Nat) (bad : Bool) (r : Release), Runs s → s.store.transfer = .release g → s.release? g = some r →
    let p := r.packet
    let u := { s.begun with store := { s.store with
      corrected := min (s.store.corrected + corrected) 4294967295, transfer := .none,
      releases := vupd s.store.releases g (fun _ => none) } }
    EndsAt (.releaseReadComplete corrected bad) s
      (match s.live? p.handle with
       | none => if bad then u.suspend g else u
       | some e =>
        let v := u.updEp e.slot (fun x => { x with inFlight := false })
        if bad then ((v.updEp e.slot (fun x => { x.discard p with damaged := true })).suspend g).afterEmptying e.slot
        else if (e.state = .active ∨ e.state = .draining) ∧ s.link.state = .up then
          ((v.updEp e.slot (fun x => { x.uncharge p with released := x.released.add p.length })).joinReleased g e p).afterEmptying
            e.slot
        else (v.updEp e.slot (fun x => x.discard p)).afterEmptying e.slot)) ∧
  (∀ (s : State) (port : Nat), s.suspend port =
    let g := s.groupOf port
    if (s.port g).suspended = true then s
    else (s.updPort g (fun x => { x with suspended := true })).raisePortState g .store) ∧
  (∀ (s : State) (g : Nat) (e : Episode) (p : HeldPacket), s.joinReleased g e p =
    { s with store := { s.store with
      released := s.store.released ++ [⟨g, e.key.requester, p.responder, p.length, p.data⟩] } }) ∧
  ∀ (x : Episode) (p : HeldPacket),
    x.uncharge p = (match p.kind with
      | .own => { x with heldOwn := x.heldOwn - cellsOf p.length }
      | .borrowed => { x with borrowed := x.borrowed - cellsOf p.length }) ∧
    x.discard p = { x.uncharge p with
      discarded := ⟨min (x.discarded.packets + 1) 4294967295, min (x.discarded.bytes + p.length) 4294967295⟩ }

/-- A release decision is taken exactly when its conditions hold and the group has an episode to release from (R107; that an
orphaned release begun for a single odd port before the bond was formed does not count as the pair's release in flight is the
model's choice: DESIGN CHOICE, log entry 16), and it chooses the lowest-numbered class that holds one, in it the first slot
after the class's release cursor in ring order (R108; the records stand in slot order by `State.RosterLaw`). The head record
leaves the hold queue, the in-flight flag is set, the credit pays its length, the class's release cursor is set to the slot,
and the release is recorded as awaiting its read (R88, R104, R108); without a decision nothing changes. -/
def Obligations.ReleaseBeginsUnderItsConditions : Prop :=
  ∀ (s : State) (g : Nat),
    let isEligible (x : Episode) : Prop := x ∈ s.table.episodes ∧ x.key.group = g ∧ (x.state = .active ∨ x.state = .draining) ∧
      x.halted = false ∧ x.holdQueue ≠ []
    let mayBegin : Prop := 0 < (s.pacer g).releaseCredit ∧ (∀ m ∈ s.members g, s.link.egressFull.getLsbD m = false) ∧
      (s.port g).suspended = false ∧ s.link.state = .up ∧ s.release? g = none
    (∀ e, s.releaseChoice? g = some e → mayBegin ∧ isEligible e ∧ e.cls ≤ 3 ∧ ∀ x, isEligible x → e.cls ≤ x.cls ∧
      (s.SlotOrder → x.cls = e.cls → x.slot ≠ e.slot → RingBefore (vget (s.pacer g).cursors e.cls none) e.slot x.slot)) ∧
    (mayBegin → (∃ x, isEligible x ∧ x.cls ≤ 3) → (s.releaseChoice? g).isSome = true) ∧
    (∀ e head rest, s.releaseChoice? g = some e → e.holdQueue = head :: rest →
      s.beginRelease g =
        { s with
          table := { s.table with episodes := s.table.episodes.map (fun x => if x.slot = e.slot then
            { x with holdQueue := x.holdQueue.drop 1, inFlight := true } else x) },
          pacers := vupd s.pacers g (fun p => { p with releaseCredit := p.releaseCredit - (head.length : Nat),
                                                       cursors := vupd p.cursors e.cls (fun _ => some e.slot) }),
          store := { s.store with releases := vupd s.store.releases g (fun _ => some { packet := head, granted := false }) } }) ∧
    (s.releaseChoice? g = none → s.beginRelease g = s)

/-- STORE_STATUS reports the accounting; SET_POOL sets the shared floor up to C and reports it with the room that results
(R77, R78). READ_COUNTERS reports the set, T, the mode and the mask, and clears nothing; CLEAR_COUNTERS reports the counts and
marks and zeroes them; SET_THRESHOLD changes T and nothing else (R165 to R167). What follows in the same event is
`State.settle`, whose order is the model's (log entry 7). -/
def Obligations.StoreAndCounterCommandsReportAndSet : Prop :=
  (∀ (s : State) (tag : Byte), Serves s →
    EndsAt (.storeStatus tag) s (s.begun.replied kindStoreStatus tag .ok (.store
      { cells := 2097152, freeCells := s.freeCells, sumR := s.sumR, sumB := s.sumB, floor := s.store.floor,
        claimableRoom := s.claimableRoom, writesWaiting := s.store.writeList.length,
        writesBytes := (s.store.writeList.map (fun p => p.length)).sum, releasedFill := s.store.released.length,
        corrected := s.store.corrected, freeEntries := s.freeEntries, episodes := s.table.episodes.length }))) ∧
  (∀ (s : State) (tag : Byte) (floor : BitVec 24), Serves s →
    EndsAt (.setPool tag floor) s
      (if 2097152 < floor.toNat then s.refusal kindSetPool tag .badValue
       else { s.begun with store := { s.store with floor := floor.toNat } }.replied kindSetPool tag .ok
        (.pool floor.toNat (min (2097152 - floor.toNat - s.sumR) (2097152 - s.sumR - s.sumB))))) ∧
  (∀ (s : State) (tag port : Byte), Serves s →
    let p := port.toNat
    EndsAt (.readCounters tag port) s
      (if 48 ≤ p then s.refusal kindReadCounters tag .badValue
       else if (s.port p).role = .pairOdd then s.refusal kindReadCounters tag .wrongPort
       else s.begun.replied kindReadCounters tag .ok (.counters
        { set := s.counterSet p, threshold := s.counters.threshold, mode := (s.policy p).mode,
          protect := (s.policy p).protect }))) ∧
  (∀ (s : State) (tag port : Byte), Serves s →
    let p := port.toNat
    EndsAt (.clearCounters tag port) s
      (if 48 ≤ p then s.refusal kindClearCounters tag .badValue
       else if (s.port p).role = .pairOdd then s.refusal kindClearCounters tag .wrongPort
       else { s.begun with counters := { s.counters with sets := vupd s.counters.sets p (fun _ =>
          ⟨Vector.replicate 6 0, Vector.replicate 6 false⟩) } }.replied kindClearCounters tag .ok (.cleared (s.counterSet p)))) ∧
  ∀ (s : State) (tag value : Byte), Serves s →
    EndsAt (.setThreshold tag value) s
      (if value = 0 then s.refusal kindSetThreshold tag .badValue
       else { s.begun with counters := { s.counters with threshold := value.toNat } }.replied kindSetThreshold tag .ok
        (.number s.counters.threshold))

/-! ### The counters -/

/-- A counter increment under either mode: it raises the count by 1 below 255, and the mode decides at 255; under HOLD it then
leaves the counters as they are and reaches no threshold (R161). It changes no other count. -/
def Obligations.CountFollowsItsMode : Prop :=
  ∀ (s : State) (g : Nat) (type : EvType), g < 48 →
    let old (u : State) := vget (u.counterSet g).counts type.index 0
    old (s.count g type) =
      (if old s < 255 then old s + 1 else match (s.policy g).mode with | .hold => old s | .wrap => 0) ∧
    (∀ other, other ≠ type →
      vget ((s.count g type).counterSet g).counts other.index 0 = vget (s.counterSet g).counts other.index 0) ∧
    (∀ h, h ≠ g → (s.count g type).counterSet h = s.counterSet h) ∧
    (s.count g type).counters.threshold = s.counters.threshold ∧
    (old s ≤ 255 → old (s.count g type) ≤ 255) ∧
    (old s = 255 → (s.policy g).mode = .hold →
      (s.count g type).counters = s.counters ∧ (s.count g type).mgmt = s.mgmt ∧ (s.count g type).ports = s.ports)

/-- A count that reaches T sets the mark, raises THRESHOLD if the mark was clear and none if it was set, and orders a
stand-down if the type is protected; an increment that does not reach T does none of these (R162, R163). The stand-down takes
a group in ACTIVE into DRAIN_OUT as DISABLE_PORT does (R130, R133): the drain cause STAND_DOWN, the members' stopped-seen
flags cleared, STOP_DIVERT handed for each member, UNPACE produced, and PORT_STATE with cause stand-down raised behind the
THRESHOLD notice, with the group's suspended flag and whether a stop marker is awaited. That a pair's even member is handed
its STOP_DIVERT first is the model's choice (DESIGN CHOICE, log entry 34). A group in any other state the order leaves as it
is. The notice's port state is written again as the event leaves it (R162). -/
def Obligations.ReachingTheThresholdTellsAndProtects : Prop :=
  (∀ (s : State) (g : Nat) (type : EvType), g < 48 →
    let old := vget (s.counterSet g).counts type.index 0
    let t := s.count g type
    let new := vget (t.counterSet g).counts type.index 0
    let mark (u : State) := vget (u.counterSet g).marks type.index false
    let masked := (s.policy g).protect.getLsbD type.index
    let told : Mgmt := if mark s = true then s.mgmt else s.mgmt.raise (.threshold
      { port := g, type := type, count := new, threshold := s.counters.threshold, mode := (s.policy g).mode,
        inMask := masked, ordered := masked, state := (s.port g).state })
    (¬ (new ≠ old ∧ new = s.counters.threshold) → mark t = mark s ∧ t = { s with counters := t.counters }) ∧
    (new ≠ old ∧ new = s.counters.threshold →
      let u : State := { s with counters := t.counters, mgmt := told,
                                evThresholds := if mark s = true then s.evThresholds else s.evThresholds ++ [(g, type)] }
      let drained := u.updPort g (fun p => { p with state := .drainOut, drainCause := some .standDown })
      let stopping := (((drained.updMembers g (fun p => { p with stoppedSeen := false })).handStop g).unpaceGroup g)
      mark t = true ∧
      (masked = true → (s.port g).state = .active →
        t = stopping.raise (.portState
          { port := g, cause := .standDown, state := .drainOut, suspended := (s.port g).suspended,
            stopAwaited := decide (∃ m ∈ s.members g, (stopping.port m).stoppedSeen = false), fault := none }) ∧
        (s.link.state = .up → (∀ m ∈ s.members g, m < 48 → (t.port m).stoppedSeen = false) ∧
          ∀ m ∈ s.members g, ⟨false, m⟩ ∈ t.link.control) ∧
        (s.link.state ≠ .up → ∀ m ∈ s.members g, m < 48 → (t.port m).stoppedSeen = true)) ∧
      (masked = false ∨ (s.port g).state ≠ .active → t = u))) ∧
  ∀ s : State, s.refreshThresholds = { s with mgmt := { s.mgmt with notices := s.mgmt.notices.map (fun n =>
    match n with
    | .threshold x => if (x.port, x.type) ∈ s.evThresholds then .threshold { x with state := (s.port x.port).state } else n
    | _ => n) } }

/-- SET_THRESHOLD sets T to its value and answers OK with the previous T; 0 is refused with BAD_VALUE and keeps T; either way
the counts and the reached marks are kept (R165), and the reply waits in the reply queue or has begun to be sent. Before READY
it is answered NOT_READY (R165), and nothing of the row's own changes; what follows in the same event is `State.settle`, whose
order is the model's (log entry 7). -/
def Obligations.SetThresholdSetsTAndKeepsCounts : Prop :=
  (∀ (s : State) (tag value : Byte), Serves s →
    let reply : Reply :=
      if value = 0 then ⟨tag, kindSetThreshold, .badValue, .nothing⟩
      else ⟨tag, kindSetThreshold, .ok, .number s.counters.threshold⟩
    ∃ t, exec (.setThreshold tag value) s = .next t ∧ t.counters.sets = s.counters.sets ∧
      t.counters.threshold = (if value = 0 then s.counters.threshold else value.toNat) ∧
      (reply ∈ t.mgmt.replies ∨ t.mgmt.sending = some (.reply reply))) ∧
  ∀ (s : State) (tag value : Byte), TakesCommand s → s.mgmt.ready = false →
    EndsAt (.setThreshold tag value) s (s.refusal kindSetThreshold tag .notReady)

/-! ### The divert link -/

/-- The loss of the link: ALIGNING with its lane counts at 0, the loss mark and LINK_STATE, the open packet and the item being
sent lost and counted, the control queue emptied, the hold lifted, and the ports' states and flags (R138, R147); what is kept
is kept, of a port's record everything but the state and the flags named: its suspended flag, clearing progress, drain cause
and fault record. The paused flag is kept unless the loss releases room of staging, by the open packet or by a passed-through
packet that was being sent, and the fill is then at 49,152 bytes or less: it is cleared, and no word is sent (R151; R147 lists
the flag as kept, and that R151 holds for the room which the loss itself releases is the model's choice: DESIGN CHOICE, log
entry 37). An open packet is broken at the loss, and counted as a discard, only while it is staged: one whose words are only
consumed was counted at its descriptor or at its break (R149; DEDUCED, log entry 17). The link reaches UP: the parameters are
established, all egress-full flags set, the hold cleared, LINK_STATE raised, PAUSE sent first if the part is paused, and
START_DIVERT handed for every member of a group in STARTING (R146, R138). -/
def Obligations.LinkLossAndReturnTakeThePorts : Prop :=
  (∀ (s : State) (cause : LinkCause),
    let t := s.loseLink cause
    let openStaged : Bool := s.link.openPacket.any (fun o => o.staged)
    let passing : Bool := match s.link.sending with | some (.passed _) => true | _ => false
    let opened := if openStaged then bump32 s.link.discards else s.link.discards
    t.link.state = .aligning ∧ t.link.lanes = Vector.replicate 4 Lane.zero ∧ t.link.lastGood = none ∧ t.link.loss = true ∧
    t.link.control = [] ∧ t.link.hold = false ∧ t.link.sending = none ∧ t.link.openPacket = none ∧
    t.mgmt = s.mgmt.raise (.linkState cause) ∧ t.out = s.out ∧
    t.link.discards = (if passing then bump32 opened else opened) ∧
    t.link.returnLosses = (if s.link.sending.isSome then bump32 s.link.returnLosses else s.link.returnLosses) ∧
    t.link.stagingDrops = s.link.stagingDrops ∧ t.link.ignoredSightings = s.link.ignoredSightings ∧
    t.link.paused = (s.link.paused && !((openStaged || passing) && decide (t.stagingFill ≤ 49152))) ∧
    t.link.rejectedWords = s.link.rejectedWords ∧ t.link.mismatch = s.link.mismatch ∧
    t.link.stubs = s.link.stubs ∧ t.link.passList = s.link.passList ∧ t.link.egressFull = s.link.egressFull ∧
    t.link.expected = s.link.expected ∧ t.link.established = s.link.established ∧ t.sched = s.sched ∧ t.store = s.store ∧
    t.table = s.table ∧ t.pacers = s.pacers ∧ t.counters = s.counters ∧
    ∀ g ∈ s.groups, (∀ h ∈ s.groups, h ≠ g → ∀ m ∈ s.members h, m ∉ s.members g) →
      ((s.port g).state = .active ∨ (s.port g).state = .starting →
        (t.port g).state = .starting ∧ ∀ m ∈ s.members g, m < 48 →
          t.port m = { s.port m with state := if m = g then .starting else (s.port m).state, startedSeen := false }) ∧
      ((s.port g).state = .drainOut ∨ (s.port g).state = .faulted →
        ∀ m ∈ s.members g, m < 48 → t.port m = { s.port m with stoppedSeen := true }) ∧
      ((s.port g).state = .disabled → ∀ m ∈ s.members g, t.port m = s.port m)) ∧
  ∀ (s : State) (p : LinkParams),
    let t := s.reachUp p
    t.link.state = .up ∧ t.link.established = some p ∧ t.link.egressFull = BitVec.allOnes 48 ∧ t.link.hold = false ∧
    t.mgmt = s.mgmt.raise (.linkState (.up p)) ∧ t.out = (if s.link.paused then s.out ++ [.pause] else s.out) ∧
    t.ports = s.ports ∧ t.table = s.table ∧
    (∀ g, g ∈ s.groups → (s.port g).state = .starting → ∀ m ∈ s.members g, ⟨true, m⟩ ∈ t.link.control)

/-- A framing error raises the lane's framing run; a fourth in a row returns the link to ALIGNING, from UP as a loss with
cause FRAMING; in ALIGNING it returns the alignment run to 0 (R142, R143). In DESKEW the block also counts as a word of its
lane (log entry 19). A damaged word: in DOWN it changes nothing; in ALIGNING it returns the alignment runs of its lanes to 0;
in DESKEW it is a word of the lanes with a good sync header; in PARAMS with the type code of a parameter block it returns the
link to ALIGNING, and otherwise acts on the framing runs alone; in UP it counts the code errors, also of a block with a bad
sync header, and breaks the open packet it belongs to, or is dropped and counted (R142, R145, R149; operands, log entry 18).
The packet it breaks stays open, also where the word was its last payload word (DESIGN CHOICE, log entry 36). What follows in
the same event is `State.settle`, whose order is the model's (log entry 7). -/
def Obligations.LaneErrorsRealignRejectOrBreak : Prop :=
  (
    ∀ (s : State) (lane : Fin 4), Runs s →
      let run := s.link.lanes[lane].framingRun
      let raised := s.begun.updLanes (fun i l => if i = lane.val then { l with framingRun := l.framingRun + 1 } else l)
      (s.link.state = .down → EndsAt (.framingError lane) s s.begun) ∧
      (s.link.state = .aligning →
        EndsAt (.framingError lane) s (s.begun.updLanes (fun i l => if i = lane.val then { l with alignRun := 0 } else l))) ∧
      (s.link.state = .deskew ∨ s.link.state = .params → 3 ≤ run → EndsAt (.framingError lane) s s.begun.toAligning) ∧
      (s.link.state = .up → 3 ≤ run → EndsAt (.framingError lane) s (s.begun.loseLink .framing)) ∧
      (s.link.state = .params ∨ s.link.state = .up → run < 3 → EndsAt (.framingError lane) s raised) ∧
      (s.link.state = .deskew → run < 3 →
        EndsAt (.framingError lane) s (raised.updLanes (fun i l => if i = lane.val then l.word else l)).deskewCheck)) ∧
  (
    ∀ (s : State) (blocks : Vector BlockCheck 4) (code : Byte) (ofPacket : Bool), Runs s →
      let goodSync (i : Nat) : Prop := vget blocks i .absent = .good ∨ vget blocks i .absent = .code
      (s.link.state = .down → EndsAt (.damagedWord blocks code ofPacket) s s.begun) ∧
      (s.link.state = .deskew → EndsAt (.damagedWord blocks code ofPacket) s
        (s.begun.updLanes (fun i l => if goodSync i then { l.word with framingRun := 0 } else l)).deskewCheck) ∧
      (s.link.state = .params → EndsAt (.damagedWord blocks code ofPacket) s
        (if code = 0x08 then s.begun.toAligning
         else s.begun.updLanes (fun i l => if goodSync i then { l with framingRun := 0 } else l))) ∧
      (s.link.state = .aligning → EndsAt (.damagedWord blocks code ofPacket) s
        (s.begun.updLanes (fun i l => if vget blocks i .absent = .absent then l else { l with alignRun := 0 }))) ∧
      (s.link.state = .up →
        let u := s.begun.updLanes (fun i l => match vget blocks i .absent with
          | .good => { l with framingRun := 0 }
          | .code => { l with framingRun := 0, codeErrors := min 255 (l.codeErrors + 1) }
          | .both => { l with codeErrors := min 255 (l.codeErrors + 1) }
          | .framing => l
          | .absent => l)
        EndsAt (.damagedWord blocks code ofPacket) s
          (if ofPacket = true ∧ s.link.openPacket.isSome = true then u.breakOpen false
           else { u with link := { u.link with rejectedWords := bump32 s.link.rejectedWords } })))

/-- Alignment words raise the alignment runs up to 16 and bring DESKEW when all four stand there; lane markers bring PARAMS
when the last lane's arrives, or ALIGNING when the skew is too great; both are rejected in UP (R143, R144, R148). In DOWN they
change nothing, a lane marker in ALIGNING returns the alignment runs of its lanes to 0, an alignment word in DESKEW is a word
of its lanes, and in PARAMS both act on the framing runs alone (R142 to R144). In ALIGNING, DESKEW and PARAMS each lane of the
part carries sixteen alignment words, then one lane-marker word, repeated (R143; their bytes by 11; block 0 is the first
alignment word by log entry 29). A word in DESKEW counts on each lane whose marker has come; with all four markers in, the
link goes to PARAMS, and a fifth word after one marker while another is missing returns it to ALIGNING with its lane counts at
0 and no last good block (R144, R147). A parameter block in PARAMS: a bad checksum returns the link to ALIGNING, a match
brings it UP, a mismatch is recorded and told once; in UP it is a rejected word (R145, R148), and in the other states it is a
word of no effect but on the lane counts (statement O47). That at UP the START_DIVERT words join the control queue in
ascending port order is the model's choice (DESIGN CHOICE, log entry 34). What follows in the same event is `State.settle`,
whose order is the model's (log entry 7). -/
def Obligations.LanesAreEstablishedAndParametersCompared : Prop :=
  (∀ (s : State) (lanes : BitVec 4), Runs s → s.link.state = .aligning →
    let u := s.begun.updLanes (fun i l => if lanes.getLsbD i then { l with alignRun := min 16 (l.alignRun + 1) } else l)
    EndsAt (.alignmentWord lanes) s
      (if ∀ l ∈ u.link.lanes.toList, l.alignRun = 16 then { u with link := { u.link with state := .deskew } } else u)) ∧
  (∀ (s : State) (lanes : BitVec 4), Runs s → s.link.state = .deskew →
    let u := s.begun.updLanes (fun i l => if lanes.getLsbD i then
      { l with framingRun := 0, sinceMarker := some (match l.sinceMarker with | none => 0 | some n => n + 1) } else l)
    EndsAt (.laneMarkerWord lanes) s
      (if ∀ l ∈ u.link.lanes.toList, l.sinceMarker.isSome = true then
        { u with link := { u.link with state := .params, lanes := vmap u.link.lanes (fun l => { l with sinceMarker := none }) } }
       else if ∃ l ∈ u.link.lanes.toList, ∃ n, l.sinceMarker = some n ∧ 5 ≤ n then u.toAligning
       else u)) ∧
  (∀ (s : State) (lanes : BitVec 4), Runs s → s.link.state = .up →
    let u := s.begun.updLanes (fun i l => if lanes.getLsbD i then { l with framingRun := 0 } else l)
    let v := { u with link := { u.link with rejectedWords := bump32 s.link.rejectedWords } }
    EndsAt (.alignmentWord lanes) s v ∧ EndsAt (.laneMarkerWord lanes) s v) ∧
  (∀ (s : State) (lanes : BitVec 4), Runs s →
    let cleared := s.begun.updLanes (fun i l => if lanes.getLsbD i then { l with framingRun := 0 } else l)
    (s.link.state = .down → EndsAt (.alignmentWord lanes) s s.begun ∧ EndsAt (.laneMarkerWord lanes) s s.begun) ∧
    (s.link.state = .aligning → EndsAt (.laneMarkerWord lanes) s
      (s.begun.updLanes (fun i l => if lanes.getLsbD i then { l with alignRun := 0 } else l))) ∧
    (s.link.state = .deskew → EndsAt (.alignmentWord lanes) s
      (s.begun.updLanes (fun i l => if lanes.getLsbD i then { l.word with framingRun := 0 } else l)).deskewCheck) ∧
    (s.link.state = .params → EndsAt (.alignmentWord lanes) s cleared ∧ EndsAt (.laneMarkerWord lanes) s cleared)) ∧
  (∀ (state : LinkState) (lane : Fin 4) (i : Nat),
    state.patternBlock lane i =
      if state = .down ∨ state = .up then none
      else if i % 17 < 16 then some ⟨0b10, List.replicate 8 0x0F⟩
      else some ⟨0b10, [0xE1, BitVec.ofNat 8 lane.val, 0, 0, 0, 0, 0, 0]⟩) ∧
  (∀ (s : State) (id : Half) (laneCount portCount : Byte) (length : Half) (checksum : Byte), Runs s →
     let p : LinkParams := ⟨id.toNat, laneCount.toNat, portCount.toNat, length.toNat⟩
     let u := { s.wordIn with link := { s.wordIn.link with lastGood := some p } }
     (s.link.state = .params →
       EndsAt (.parameterBlock id laneCount portCount length checksum) s
         (if (p.linkId + p.laneCount + p.portCount + p.maxLength) % 256 ≠ checksum.toNat then s.wordIn.toAligning
          else if p = s.link.expected then u.reachUp p
          else if s.link.mismatch = true then u
          else { u with link := { u.link with mismatch := true } }.raise (.linkState (.mismatch p s.link.expected)))) ∧
     (s.link.state = .up →
       EndsAt (.parameterBlock id laneCount portCount length checksum) s
         { s.wordIn with link := { s.wordIn.link with rejectedWords := bump32 s.link.rejectedWords } })) ∧
  (∀ l : Lane, l.word = { l with sinceMarker := l.sinceMarker.map (fun n => n + 1) }) ∧
  (∀ s : State, s.toAligning = { s with link := { s.link with
    state := .aligning, lanes := Vector.replicate 4 ⟨0, 0, 0, none⟩, lastGood := none } }) ∧
  ∀ s : State, s.deskewCheck =
    if ∀ l ∈ s.link.lanes.toList, l.sinceMarker ≠ none then
      { s with link := { s.link with state := .params, lanes := s.link.lanes.map (fun l => { l with sinceMarker := none }) } }
    else if ∃ l ∈ s.link.lanes.toList, ∃ n, l.sinceMarker = some n ∧ 5 ≤ n then s.toAligning
    else s

/-- DIVERT_STARTED and DIVERT_STOPPED in UP: an awaited marker sets its member's flag, and the last started flag makes the
group ACTIVE with PORT_STATE; any other marker is stray; a packet that is open is broken first (R126, R128, R148, R149).
STATUS replaces all 48 egress-full flags, HOLD_RETURN and RESUME_RETURN write the hold, IDLE changes nothing but the framing
runs, and a word of no type is rejected (R109, R148, R154). A MARKER of no code is rejected too, and changes no port; whether
it also breaks the open packet is a free value (log entry 15). In no other state is a word taken by its type (R147): a
descriptor, a payload word, a SIGHTING, a MARKER, STATUS, HOLD_RETURN, RESUME_RETURN, IDLE, a word of no type, and outside
PARAMS a parameter block, change nothing in DOWN, return every alignment run to 0 in ALIGNING (R143), are one word of every
lane in DESKEW (R144; DEDUCED, log entry 19), and act in PARAMS on the framing runs alone (R142, R145). What follows in the
same event is `State.settle`, whose order is the model's (log entry 7). -/
def Obligations.MarkersAndSingleWordsAreTakenByType : Prop :=
  (∀ (s : State) (port : Byte), Runs s → s.link.state = .up →
    let m := port.toNat
    let g := s.groupOf m
    let w := s.wordIn.breakOpen false
    let rejected := { w with link := { w.link with rejectedWords := bump32 s.link.rejectedWords } }
    let stray := w.updPort g (fun p => { p with strayMarkers := min 255 (p.strayMarkers + 1) })
    let seen := w.updPort m (fun p => { p with startedSeen := true })
    EndsAt (.divertStarted port) s
      (if s.establishedPorts ≤ m then rejected
       else if (s.port g).state = .starting ∧ (s.port m).startedSeen = false then
        (if ∀ x ∈ seen.members g, (seen.port x).startedSeen = true then
          (seen.updPort g (fun p => { p with state := .active })).raisePortState g .started
         else seen)
       else stray) ∧
    EndsAt (.divertStopped port) s
      (if s.establishedPorts ≤ m then rejected
       else if ((s.port g).state = .drainOut ∨ (s.port g).state = .faulted) ∧ (s.port m).stoppedSeen = false then
        w.updPort m (fun p => { p with stoppedSeen := true })
       else stray)) ∧
  (∀ (i : Instr) (s : State), Runs s →
    (match i with
      | .packetDescriptor _ _ _ _ _ _ _ => True
      | .payloadWord _ _ _ => True
      | .sighting _ _ _ _ _ _ _ => True
      | .divertStarted _ => True
      | .divertStopped _ => True
      | .statusWord _ => True
      | .holdReturn => True
      | .resumeReturn => True
      | .idleWord => True
      | .unknownTypeWord _ => True
      | .parameterBlock _ _ _ _ _ => s.link.state ≠ .params
      | _ => False) →
    (s.link.state = .down → EndsAt i s s.begun) ∧
    (s.link.state = .aligning → EndsAt i s (s.begun.updLanes (fun _ l => { l with alignRun := 0 }))) ∧
    (s.link.state = .deskew →
      EndsAt i s (s.begun.updLanes (fun _ l => { l.word with framingRun := 0 })).deskewCheck) ∧
    (s.link.state = .params → EndsAt i s s.wordIn)) ∧
  ∀ (s : State), Runs s → s.link.state = .up →
    let w := s.wordIn
    (∀ full, EndsAt (.statusWord full) s { w with link := { w.link with egressFull := full } }) ∧
    EndsAt .holdReturn s { w with link := { w.link with hold := true } } ∧
    EndsAt .resumeReturn s { w with link := { w.link with hold := false } } ∧
    EndsAt .idleWord s w ∧
    (let kept := { w with link := { w.link with rejectedWords := bump32 s.link.rejectedWords } }
     let cut := w.breakOpen false
     let broken := { cut with link := { cut.link with rejectedWords := bump32 s.link.rejectedWords } }
     EndsAt (.unknownTypeWord false) s kept ∧
     (EndsAt (.unknownTypeWord true) s kept ∨ EndsAt (.unknownTypeWord true) s broken) ∧
     kept.ports = s.ports ∧ broken.ports = s.ports)

/-- A drain-out is complete when every stopped-seen flag is set and every episode of the group is LINGER and closed: the
records are freed and their slots' generations advance, the group is DISABLED, and PORT_STATE with cause drained is raised
(R15, R16, R132). PORT_STATE carries the group's state, its suspended flag, the stop-marker-awaited condition, and with cause
fault the fault record (R140). -/
def Obligations.DrainOutCompletesToDisabled : Prop :=
  (∀ (s : State) (g : Nat), g < 48 → (s.port g).state = .drainOut →
    let t := s.completeDrain g
    ((∀ m ∈ s.members g, (s.port m).stoppedSeen = true) ∧
      (∀ e ∈ s.table.episodes, e.key.group = g → e.state = .linger ∧ e.linger.isSome = true) →
      (t.port g).state = .disabled ∧ (t.port g).suspended = false ∧
      (t.port g).drainCause = none ∧ t.policy g = s.policy g ∧
      t.mgmt = s.mgmt.raise (.portState { port := g, cause := .drained, state := .disabled, suspended := false,
                                          stopAwaited := false, fault := none }) ∧
      (∀ e ∈ t.table.episodes, e.key.group ≠ g) ∧
      (∀ e ∈ s.table.episodes, e.key.group ≠ g →
        (∀ x ∈ s.table.episodes, x.key.group = g → x.slot ≠ e.slot) → e ∈ t.table.episodes) ∧
      (s.SlotsDistinct → t.table.episodes = s.table.episodes.filter (fun e => e.key.group != g) ∧ ∀ n, n < 1024 →
        t.generation n = if ∃ e ∈ s.table.episodes, e.key.group = g ∧ e.slot = n then s.generation n + 1
          else s.generation n)) ∧
    (¬ ((∀ m ∈ s.members g, (s.port m).stoppedSeen = true) ∧
      (∀ e ∈ s.table.episodes, e.key.group = g → e.state = .linger ∧ e.linger.isSome = true)) → t = s)) ∧
  ∀ (s : State) (g : Nat) (cause : PortCause), s.raisePortState g cause = s.raise (.portState
    { port := g, cause := cause, state := (s.port g).state, suspended := (s.port g).suspended,
      stopAwaited := decide (((s.port g).state = .drainOut ∨ (s.port g).state = .faulted) ∧
        ∃ m ∈ s.members g, (s.port m).stoppedSeen = false),
      fault := if cause = .fault then (s.port g).fault else none })

/-! ### What the commands leave alone, and what follows an event -/

/-- For every row that can be (`Instr.wellFormed`; the body of a COMMIT_RATE has at most 48 bytes, R183), on a part whose
framer is between frames and whose command queue is empty: T changes only by SET_THRESHOLD and the resets; the counts and
marks only by arrivals, grant and deadline expiries, ENABLE_PORT, CLEAR_COUNTERS, SET_PORT and the resets. The policy records
and bond roles change only by SET_PORT and the resets; the expected link parameters only by SET_LINK_PARAMS and the reset
input; the shared floor only by SET_POOL and the resets; the ready flag only by the completion of initialisation and the
resets. FRAME_RECEIVED can carry any command of the host, so it is set aside here; where commands wait, any event may perform
them, as it frees a reply place (R172). -/
def Obligations.OtherCommandsKeepCountersAndSettings : Prop :=
  ∀ (i : Instr) (s t : State), i.wellFormed = true → s.mgmt.framer = [] → s.mgmt.commands = [] → exec i s = .next t →
    (match i with
      | .frameReceived _ => True
      | .setThreshold _ _ => True
      | .transmitComplete => True
      | .resetInputAssert => True
      | .resetInputRelease => True
      | _ => t.counters.threshold = s.counters.threshold) ∧
    (match i with
      | .frameReceived _ => True
      | .payloadWord _ _ _ => True
      | .grantTimerExpiry _ _ _ => True
      | .deadlineExpiry _ => True
      | .enablePort _ _ => True
      | .clearCounters _ _ => True
      | .setPort _ _ _ => True
      | .transmitComplete => True
      | .resetInputAssert => True
      | .resetInputRelease => True
      | _ => t.counters.sets = s.counters.sets) ∧
    (match i with
      | .frameReceived _ => True
      | .setPort _ _ _ => True
      | .transmitComplete => True
      | .resetInputAssert => True
      | .resetInputRelease => True
      | _ => ∀ p, t.policy p = s.policy p ∧ (t.port p).role = (s.port p).role) ∧
    (match i with
      | .frameReceived _ => True
      | .setLinkParams _ _ _ _ _ => True
      | .resetInputAssert => True
      | .resetInputRelease => True
      | _ => t.link.expected = s.link.expected) ∧
    (match i with
      | .frameReceived _ => True
      | .setPool _ _ => True
      | .transmitComplete => True
      | .resetInputAssert => True
      | .resetInputRelease => True
      | _ => t.store.floor = s.store.floor) ∧
    (match i with
      | .frameReceived _ => True
      | .storeInitComplete => True
      | .transmitComplete => True
      | .resetInputAssert => True
      | .resetInputRelease => True
      | _ => t.mgmt.ready = s.mgmt.ready)

/-- What follows from an event in the same event leaves nothing that is ready undone: no reply place that somebody wants is
free (R172), an idle transmitter has nothing to send (R180), an idle DRAM has no requester (R84), no release and, with
distinct slots, no grant decision is ready (R58, R107), no drain-out is complete (R132), and an unheld link in UP that sends
nothing has nothing to send (R153). Where no command waits it changes none of the figures named: the counters, the clock, the
ready flag, the link's state, lanes, parameters, marks and counts, the floor, the corrected count, the policies and roles; and
on a part with nothing waiting anywhere it changes nothing at all. The order of what follows is the model's (log entry 7). -/
def Obligations.WhatFollowsAnEventIsConfinedAndComplete : Prop :=
  (∀ (s : State) (wasIdle : Bool),
    let t := s.settle wasIdle
    (t.mgmt.replies.length + t.mgmt.reserved < 16 → t.mgmt.owed = [] ∧ (t.mgmt.engine = .idle → t.mgmt.commands = []) ∧
      t.mgmt.pendingErrors = 0 ∧ t.mgmt.busyBacklog = []) ∧
    (t.mgmt.sending = none → t.mgmt.replies = [] ∧ t.mgmt.notices = []) ∧
    (t.store.transfer = .none → t.writerWaits = false ∧ t.readerGroup? = none ∧ ∀ tag h, t.mgmt.engine ≠ .capturing tag h) ∧
    (∀ g ∈ t.groups, t.releaseChoice? g = none) ∧
    t.evThresholds = []) ∧
  (∀ (s : State) (wasIdle : Bool), s.SlotsDistinct →
    let t := s.settle wasIdle
    (∀ g ∈ t.groups, t.decision? g = none) ∧
    (∀ g ∈ t.groups, ¬ ((t.port g).state = .drainOut ∧ (∀ m ∈ t.members g, (t.port m).stoppedSeen = true) ∧
      ∀ e ∈ t.table.episodes, e.key.group = g → e.state = .linger ∧ e.linger.isSome = true)) ∧
    (t.link.state = .up → t.link.hold = false → t.link.sending = none →
      t.link.control = [] ∧ t.sched.queue = [] ∧ t.link.stubs = [] ∧ t.link.passList = [] ∧ t.store.released = [])) ∧
  (∀ (s : State) (wasIdle : Bool), s.mgmt.commands = [] →
    let t := s.settle wasIdle
    t.pending = s.pending ∧ t.inReset = s.inReset ∧ t.counters = s.counters ∧ t.time = s.time ∧
    t.mgmt.ready = s.mgmt.ready ∧ t.mgmt.framer = s.mgmt.framer ∧ t.mgmt.startCause = s.mgmt.startCause ∧
    t.mgmt.frameErrors = s.mgmt.frameErrors ∧ t.mgmt.busyCount = s.mgmt.busyCount ∧
    t.table.refusing = s.table.refusing ∧ t.store.floor = s.store.floor ∧ t.store.initialising = s.store.initialising ∧
    t.store.corrected = s.store.corrected ∧ t.link.state = s.link.state ∧ t.link.lanes = s.link.lanes ∧
    t.link.expected = s.link.expected ∧ t.link.lastGood = s.link.lastGood ∧ t.link.established = s.link.established ∧
    t.link.mismatch = s.link.mismatch ∧ t.link.loss = s.link.loss ∧ t.link.openPacket = s.link.openPacket ∧
    t.link.egressFull = s.link.egressFull ∧ t.link.hold = s.link.hold ∧ t.link.paused = s.link.paused ∧
    t.link.discards = s.link.discards ∧ t.link.stagingDrops = s.link.stagingDrops ∧
    t.link.ignoredSightings = s.link.ignoredSightings ∧ t.link.rejectedWords = s.link.rejectedWords ∧
    t.link.returnLosses = s.link.returnLosses ∧
    ∀ p, t.policy p = s.policy p ∧ (t.port p).role = (s.port p).role) ∧
  ∀ (s : State) (wasIdle : Bool), (∀ g, (s.port g).state ≠ .drainOut ∧ (s.port g).state ≠ .active) → s.link.state ≠ .up →
    s.store.initialising = true → s.mgmt.engine = .idle → s.mgmt.commands = [] → s.mgmt.owed = [] →
    s.mgmt.pendingErrors = 0 → s.mgmt.busyBacklog = [] → s.mgmt.replies = [] → s.mgmt.notices = [] → s.evThresholds = [] →
    s.settle wasIdle = s

/-! ### Encodings -/

/-- A policy record within Table 6-2 is read back from its 18 bytes as it was written (Table 11-3). Any 18 bytes are read as
the record whose fields stand at the offsets of Table 11-3, if every field lies within Table 6-2 and has a defined code, and
otherwise as none: a number outside its range, an undefined code, and a protect mask with bit 6 or 7 set (R124, R183);
SET_PORT refuses what is read as none (statement O11). -/
def Obligations.PolicyRecordDecodesAsEncoded : Prop :=
  (∀ (pol : Policy) (port : Byte),
     256 ≤ pol.mtu → pol.mtu ≤ 9216 → 1 ≤ pol.allowance → pol.allowance ≤ 15 → 1 ≤ pol.grantSize → pol.grantSize ≤ 64 →
     16 ≤ pol.reservation → pol.reservation ≤ 16384 → pol.borrowCap ≤ 65535 → 1 ≤ pol.deadline → pol.deadline ≤ 255 →
     1 ≤ pol.grantTimeout → pol.grantTimeout ≤ 255 → 1 ≤ pol.linger → pol.linger ≤ 255 → 1 ≤ pol.idle → pol.idle ≤ 255 →
     (port :: pol.encode).length = 19 ∧ policyAt (port :: pol.encode) 1 = some pol) ∧
  ∀ record : Vector Byte 18,
    let byte (k : Nat) : Nat := (record.toList.getD k 0).toNat
    let half (k : Nat) : Nat := byte k * 256 + byte (k + 1)
    let within : Prop := byte 0 ≤ 1 ∧ 256 ≤ half 1 ∧ half 1 ≤ 9216 ∧ 1 ≤ byte 3 ∧ byte 3 ≤ 15 ∧ 1 ≤ byte 4 ∧ byte 4 ≤ 64 ∧
      16 ≤ half 5 ∧ half 5 ≤ 16384 ∧ 1 ≤ byte 9 ∧ 1 ≤ byte 10 ∧ 1 ≤ byte 11 ∧ 1 ≤ byte 12 ∧ byte 13 ≤ 1 ∧ byte 14 ≤ 2 ∧
      byte 15 ≤ 1 ∧ byte 16 ≤ 1 ∧ byte 17 < 64
    (¬ within → policyAt record.toList 0 = none) ∧
    (within → policyAt record.toList 0 = some
      { bond := if byte 0 = 0 then .none else .pair, mtu := half 1, allowance := byte 3, grantSize := byte 4,
        reservation := half 5, borrowCap := half 7, deadline := byte 9, grantTimeout := byte 10, linger := byte 11,
        idle := byte 12, expiry := if byte 13 = 0 then .drain else .discard,
        notice := if byte 14 = 0 then .none else if byte 14 = 1 then .marked else .every, adopt := decide (byte 15 = 1),
        mode := if byte 16 = 0 then .hold else .wrap, protect := BitVec.ofNat 6 (byte 17) })

/-! ### Invariants -/

/-- Every invariant below holds after reset. -/
def Obligations.ResetHasTheInvariants : Prop :=
  State.reset.mgmt.NoticesSound ∧ State.reset.mgmt.PlacesSound ∧ State.reset.counters.Sound ∧ State.reset.link.LanesSound ∧
  State.reset.QueuesSound ∧ State.reset.RosterLaw ∧ State.reset.ChainLaw ∧ State.reset.CreditLaw ∧
  State.reset.KeysUnique ∧ State.reset.StoreBound ∧ State.reset.ReservationLaw

/-- Every step keeps the bounds of the notice queue, the command queue, the reply places, the counters and the lane counts. -/
def Obligations.StepsKeepQueuesAndCountsBounded : Prop :=
  ∀ s t : State, step s = .next t → s.mgmt.NoticesSound → s.mgmt.PlacesSound → s.counters.Sound → s.link.LanesSound →
    t.mgmt.NoticesSound ∧ t.mgmt.PlacesSound ∧ t.counters.Sound ∧ t.link.LanesSound

/-- Every step keeps the bounds of the grant frame queue, the UNPACE backlog, the stub queue, the control queue, the
released-packet queue with its reserved places, and the staging fill (R68, R70, R50, R153, R90, R150). -/
def Obligations.StepsKeepTransferQueuesBounded : Prop :=
  ∀ s t : State, step s = .next t → s.QueuesSound → t.QueuesSound

/-- Every step keeps the rosters: at most N distinct endpoints, at most 64, with at most two grants each, a responder GRANTED
exactly while it holds one, and at most 16,384 entries in all; and the records in slot order (R2, R35 to R38). -/
def Obligations.StepsKeepRostersWithinTheirLimits : Prop :=
  ∀ s t : State, step s = .next t → s.RosterLaw → t.RosterLaw

/-- Every step keeps the chains of the packets disjoint, in the range of the cells, and of cells(L) cells each (R73). -/
def Obligations.StepsKeepChainsDisjointAndWhole : Prop :=
  ∀ s t : State, step s = .next t → s.ChainLaw → t.ChainLaw

/-- Every step keeps both credits of every pacer in their ranges, the remainder below B and A below B (R104, R105, R112). -/
def Obligations.StepsKeepCreditsInTheirRanges : Prop :=
  ∀ s t : State, step s = .next t → s.CreditLaw → t.CreditLaw

/-- Every step keeps the slots and the keys of the episodes unique. -/
def Obligations.StepsKeepEpisodeKeysUnique : Prop :=
  ∀ s t : State, step s = .next t → s.KeysUnique → t.KeysUnique

/-- Every step keeps the reservations and borrowings within the store. -/
def Obligations.StepsKeepReservationsAndBorrowingsWithinTheStore : Prop :=
  ∀ s t : State, step s = .next t → s.StoreBound → t.StoreBound

/-- Every step keeps each episode's held-own cells and granted packets within its reservation. -/
def Obligations.StepsKeepGrantsWithinReservations : Prop :=
  ∀ s t : State, step s = .next t → s.ReservationLaw → t.ReservationLaw
end

