-- ==== Sys2Proof/Laws/State.lean ====
section
/-! SUPPORT. What each update of one field leaves as it was, and what reads after an update give. -/

set_option linter.all false

namespace Sys2Proof.Machine

theorem foldl_keeps {α β : Type} (proj : State → β) (f : State → α → State) (h : ∀ s a, proj (f s a) = proj s)
    (l : List α) (s : State) : proj (l.foldl f s) = proj s := by
  induction l generalizing s with
  | nil => rfl
  | cons a l ih => rw [List.foldl_cons, ih, h]

/-- A fold keeps what each of its steps keeps. -/
theorem foldl_inv {α : Type} (P : State → Prop) (f : State → α → State) (h : ∀ s a, P s → P (f s a)) (l : List α) (s : State)
    (hs : P s) : P (l.foldl f s) := by
  induction l generalizing s with
  | nil => exact hs
  | cons a l ih => exact ih _ (h _ _ hs)

/-- An entry of a vector after one entry was changed. -/
theorem mem_vupd {α : Type} {n : Nat} (v : Vector α n) (i : Nat) (f : α → α) (x : α) (h : x ∈ (vupd v i f).toList) :
    x ∈ v.toList ∨ ∃ y ∈ v.toList, x = f y := by
  unfold vupd at h
  split at h
  · rename_i hi
    rw [List.mem_iff_getElem] at h
    obtain ⟨j, hj, e⟩ := h
    simp only [Vector.getElem_toList, Vector.getElem_set] at e
    split at e
    · right; exact ⟨v[i], by simp, e.symm⟩
    · left; rw [← e]; simp
  · exact Or.inl h

/-- Reading a vector's entry after one entry was changed. -/
theorem vget_vupd {α : Type} {n : Nat} (v : Vector α n) (i j : Nat) (f : α → α) (d : α) :
    vget (vupd v i f) j d = if i = j ∧ j < n then f (vget v j d) else vget v j d := by
  unfold vget vupd
  by_cases hj : j < n <;> by_cases hi : i < n <;> simp [hi, hj]
  · by_cases h : i = j
    · subst h; simp
    · simp [h]
  · intro h; omega

theorem port_updPort (s : State) (p q : Nat) (f : Port → Port) :
    (s.updPort p f).port q = if p = q ∧ q < 48 then f (s.port q) else s.port q := vget_vupd _ _ _ _ _

theorem pacer_updPacer (s : State) (p q : Nat) (f : Pacer → Pacer) :
    (s.updPacer p f).pacer q = if p = q ∧ q < 48 then f (s.pacer q) else s.pacer q := vget_vupd _ _ _ _ _

theorem counterSet_updCounters (s : State) (g h : Nat) (f : CounterSet → CounterSet) :
    (s.updCounters g f).counterSet h = if g = h ∧ h < 48 then f (s.counterSet h) else s.counterSet h :=
  vget_vupd _ _ _ _ _

theorem index_injective (a b : EvType) (h : a.index = b.index) : a = b := by
  cases a <;> cases b <;> first | rfl | cases h

theorem index_lt (a : EvType) : a.index < 6 := by cases a <;> decide

/-- A fold whose every step changes nothing changes nothing. -/
theorem foldl_id {α β : Type} (f : β → α → β) (s : β) (l : List α) (h : ∀ a ∈ l, f s a = s) : l.foldl f s = s := by
  induction l with
  | nil => rfl
  | cons a l ih => rw [List.foldl_cons, h a (by simp)]; exact ih (fun b hb => h b (by simp [hb]))

theorem mem_ringAfter {α : Type} (place : α → Nat) (cursor : Option Nat) (l : List α) (x : α) :
    x ∈ ringAfter place cursor l ↔ x ∈ l := by
  unfold ringAfter
  cases cursor with
  | none => rfl
  | some c =>
    simp only [List.mem_append, List.mem_filter, decide_eq_true_eq]
    constructor
    · rintro (h | h) <;> exact h.1
    · intro h
      by_cases hc : c < place x
      · exact Or.inl ⟨h, hc⟩
      · exact Or.inr ⟨h, by omega⟩

@[simp] theorem Mgmt.makeReply_keeps (m : Mgmt) (r : Reply) :
    (m.makeReply r).framer = m.framer ∧ (m.makeReply r).frameErrors = m.frameErrors ∧ (m.makeReply r).pendingErrors =
      m.pendingErrors ∧ (m.makeReply r).busyCount = m.busyCount ∧ (m.makeReply r).commands = m.commands ∧ (m.makeReply
      r).engine = m.engine ∧ (m.makeReply r).owed = m.owed ∧ (m.makeReply r).busyBacklog = m.busyBacklog ∧
      (m.makeReply r).notices = m.notices ∧ (m.makeReply r).overflow = m.overflow ∧ (m.makeReply r).ready = m.ready ∧
      (m.makeReply r).sending = m.sending ∧ (m.makeReply r).startCause = m.startCause := by
  simp [Mgmt.makeReply]

@[simp] theorem Mgmt.giveFramer_keeps (m : Mgmt) :
    (m.giveFramer).framer = m.framer ∧ (m.giveFramer).frameErrors = m.frameErrors ∧ (m.giveFramer).busyCount =
      m.busyCount ∧ (m.giveFramer).commands = m.commands ∧ (m.giveFramer).engine = m.engine ∧ (m.giveFramer).owed =
      m.owed ∧ (m.giveFramer).notices = m.notices ∧ (m.giveFramer).overflow = m.overflow ∧ (m.giveFramer).ready =
      m.ready ∧ (m.giveFramer).sending = m.sending ∧ (m.giveFramer).startCause = m.startCause := by
  unfold Mgmt.giveFramer; (repeat' split) <;> simp [Mgmt.makeReply]

@[simp] theorem Mgmt.beginFrame_keeps (m : Mgmt) (f : TxFrame) :
    (m.beginFrame f).framer = m.framer ∧ (m.beginFrame f).frameErrors = m.frameErrors ∧ (m.beginFrame f).pendingErrors
      = m.pendingErrors ∧ (m.beginFrame f).busyCount = m.busyCount ∧ (m.beginFrame f).commands = m.commands ∧
      (m.beginFrame f).engine = m.engine ∧ (m.beginFrame f).owed = m.owed ∧ (m.beginFrame f).busyBacklog =
      m.busyBacklog ∧ (m.beginFrame f).ready = m.ready ∧ (m.beginFrame f).startCause = m.startCause := by
  unfold Mgmt.beginFrame; split <;> simp

@[simp] theorem Mgmt.raise_keeps (m : Mgmt) (n : Notice) :
    (m.raise n).framer = m.framer ∧ (m.raise n).frameErrors = m.frameErrors ∧ (m.raise n).pendingErrors =
      m.pendingErrors ∧ (m.raise n).busyCount = m.busyCount ∧ (m.raise n).commands = m.commands ∧ (m.raise n).engine =
      m.engine ∧ (m.raise n).owed = m.owed ∧ (m.raise n).busyBacklog = m.busyBacklog ∧ (m.raise n).replies = m.replies
      ∧ (m.raise n).ready = m.ready ∧ (m.raise n).sending = m.sending ∧ (m.raise n).startCause = m.startCause := by
  unfold Mgmt.raise; (repeat' split) <;> simp

@[simp] theorem Mgmt.discardFrame_keeps (m : Mgmt) :
    (m.discardFrame).framer = m.framer ∧ (m.discardFrame).busyCount = m.busyCount ∧ (m.discardFrame).commands =
      m.commands ∧ (m.discardFrame).engine = m.engine ∧ (m.discardFrame).owed = m.owed ∧ (m.discardFrame).busyBacklog
      = m.busyBacklog ∧ (m.discardFrame).replies = m.replies ∧ (m.discardFrame).notices = m.notices ∧
      (m.discardFrame).overflow = m.overflow ∧ (m.discardFrame).ready = m.ready ∧ (m.discardFrame).sending = m.sending
      ∧ (m.discardFrame).startCause = m.startCause := by
  simp [Mgmt.discardFrame]

@[simp] theorem Mgmt.acceptFrame_keeps (m : Mgmt) (f : Frame) :
    (m.acceptFrame f).framer = m.framer ∧ (m.acceptFrame f).frameErrors = m.frameErrors ∧ (m.acceptFrame
      f).pendingErrors = m.pendingErrors ∧ (m.acceptFrame f).engine = m.engine ∧ (m.acceptFrame f).owed = m.owed ∧
      (m.acceptFrame f).replies = m.replies ∧ (m.acceptFrame f).notices = m.notices ∧ (m.acceptFrame f).overflow =
      m.overflow ∧ (m.acceptFrame f).ready = m.ready ∧ (m.acceptFrame f).sending = m.sending ∧ (m.acceptFrame
      f).startCause = m.startCause := by
  unfold Mgmt.acceptFrame; (repeat' split) <;> simp

@[simp] theorem updPort_keeps (s : State) (p : Nat) (f : Port → Port) :
    (s.updPort p f).pending = s.pending ∧ (s.updPort p f).inReset = s.inReset ∧ (s.updPort p f).mgmt = s.mgmt ∧
      (s.updPort p f).table = s.table ∧ (s.updPort p f).sched = s.sched ∧ (s.updPort p f).store = s.store ∧
      (s.updPort p f).pacers = s.pacers ∧ (s.updPort p f).time = s.time ∧ (s.updPort p f).counters = s.counters ∧
      (s.updPort p f).link = s.link ∧ (s.updPort p f).choices = s.choices ∧ (s.updPort p f).out = s.out ∧
      (s.updPort p f).evThresholds = s.evThresholds := by
  unfold State.updPort
  try dsimp only
  (repeat' split) <;> first | (simp; done) | (refine ⟨?_,?_,?_,?_,?_,?_,?_,?_,?_,?_,?_,?_,?_⟩ <;> first | rfl | (simp; done)) | simp_all

@[simp] theorem updPacer_keeps (s : State) (p : Nat) (f : Pacer → Pacer) :
    (s.updPacer p f).pending = s.pending ∧ (s.updPacer p f).inReset = s.inReset ∧ (s.updPacer p f).mgmt = s.mgmt ∧
      (s.updPacer p f).table = s.table ∧ (s.updPacer p f).sched = s.sched ∧ (s.updPacer p f).store = s.store ∧
      (s.updPacer p f).time = s.time ∧ (s.updPacer p f).counters = s.counters ∧ (s.updPacer p f).ports = s.ports ∧
      (s.updPacer p f).link = s.link ∧ (s.updPacer p f).choices = s.choices ∧ (s.updPacer p f).out = s.out ∧
      (s.updPacer p f).evThresholds = s.evThresholds := by
  unfold State.updPacer
  try dsimp only
  (repeat' split) <;> first | (simp; done) | (refine ⟨?_,?_,?_,?_,?_,?_,?_,?_,?_,?_,?_,?_,?_⟩ <;> first | rfl | (simp; done)) | simp_all

@[simp] theorem updMembers_keeps (s : State) (g : Nat) (f : Port → Port) :
    (s.updMembers g f).pending = s.pending ∧ (s.updMembers g f).inReset = s.inReset ∧ (s.updMembers g f).mgmt = s.mgmt ∧
      (s.updMembers g f).table = s.table ∧ (s.updMembers g f).sched = s.sched ∧ (s.updMembers g f).store = s.store ∧
      (s.updMembers g f).pacers = s.pacers ∧ (s.updMembers g f).time = s.time ∧ (s.updMembers g f).counters = s.counters ∧
      (s.updMembers g f).link = s.link ∧ (s.updMembers g f).choices = s.choices ∧ (s.updMembers g f).out = s.out ∧
      (s.updMembers g f).evThresholds = s.evThresholds := by
  refine ⟨?_, ?_, ?_, ?_, ?_, ?_, ?_, ?_, ?_, ?_, ?_, ?_, ?_⟩
  · unfold State.updMembers; (try dsimp only); (repeat' split) <;> (try dsimp only) <;>
      first | rfl | (simp; done) | (rw [foldl_keeps (fun s : State => s.pending) _ (by intros; simp)]; (try simp); done) |
        (simp; (try rw [foldl_keeps (fun s : State => s.pending) _ (by intros; simp)]); done)
  · unfold State.updMembers; (try dsimp only); (repeat' split) <;> (try dsimp only) <;>
      first | rfl | (simp; done) | (rw [foldl_keeps (fun s : State => s.inReset) _ (by intros; simp)]; (try simp); done) |
        (simp; (try rw [foldl_keeps (fun s : State => s.inReset) _ (by intros; simp)]); done)
  · unfold State.updMembers; (try dsimp only); (repeat' split) <;> (try dsimp only) <;>
      first | rfl | (simp; done) | (rw [foldl_keeps (fun s : State => s.mgmt) _ (by intros; simp)]; (try simp); done) |
        (simp; (try rw [foldl_keeps (fun s : State => s.mgmt) _ (by intros; simp)]); done)
  · unfold State.updMembers; (try dsimp only); (repeat' split) <;> (try dsimp only) <;>
      first | rfl | (simp; done) | (rw [foldl_keeps (fun s : State => s.table) _ (by intros; simp)]; (try simp); done) |
        (simp; (try rw [foldl_keeps (fun s : State => s.table) _ (by intros; simp)]); done)
  · unfold State.updMembers; (try dsimp only); (repeat' split) <;> (try dsimp only) <;>
      first | rfl | (simp; done) | (rw [foldl_keeps (fun s : State => s.sched) _ (by intros; simp)]; (try simp); done) |
        (simp; (try rw [foldl_keeps (fun s : State => s.sched) _ (by intros; simp)]); done)
  · unfold State.updMembers; (try dsimp only); (repeat' split) <;> (try dsimp only) <;>
      first | rfl | (simp; done) | (rw [foldl_keeps (fun s : State => s.store) _ (by intros; simp)]; (try simp); done) |
        (simp; (try rw [foldl_keeps (fun s : State => s.store) _ (by intros; simp)]); done)
  · unfold State.updMembers; (try dsimp only); (repeat' split) <;> (try dsimp only) <;>
      first | rfl | (simp; done) | (rw [foldl_keeps (fun s : State => s.pacers) _ (by intros; simp)]; (try simp); done) |
        (simp; (try rw [foldl_keeps (fun s : State => s.pacers) _ (by intros; simp)]); done)
  · unfold State.updMembers; (try dsimp only); (repeat' split) <;> (try dsimp only) <;>
      first | rfl | (simp; done) | (rw [foldl_keeps (fun s : State => s.time) _ (by intros; simp)]; (try simp); done) |
        (simp; (try rw [foldl_keeps (fun s : State => s.time) _ (by intros; simp)]); done)
  · unfold State.updMembers; (try dsimp only); (repeat' split) <;> (try dsimp only) <;>
      first | rfl | (simp; done) | (rw [foldl_keeps (fun s : State => s.counters) _ (by intros; simp)]; (try simp); done) |
        (simp; (try rw [foldl_keeps (fun s : State => s.counters) _ (by intros; simp)]); done)
  · unfold State.updMembers; (try dsimp only); (repeat' split) <;> (try dsimp only) <;>
      first | rfl | (simp; done) | (rw [foldl_keeps (fun s : State => s.link) _ (by intros; simp)]; (try simp); done) |
        (simp; (try rw [foldl_keeps (fun s : State => s.link) _ (by intros; simp)]); done)
  · unfold State.updMembers; (try dsimp only); (repeat' split) <;> (try dsimp only) <;>
      first | rfl | (simp; done) | (rw [foldl_keeps (fun s : State => s.choices) _ (by intros; simp)]; (try simp); done) |
        (simp; (try rw [foldl_keeps (fun s : State => s.choices) _ (by intros; simp)]); done)
  · unfold State.updMembers; (try dsimp only); (repeat' split) <;> (try dsimp only) <;>
      first | rfl | (simp; done) | (rw [foldl_keeps (fun s : State => s.out) _ (by intros; simp)]; (try simp); done) |
        (simp; (try rw [foldl_keeps (fun s : State => s.out) _ (by intros; simp)]); done)
  · unfold State.updMembers; (try dsimp only); (repeat' split) <;> (try dsimp only) <;>
      first | rfl | (simp; done) | (rw [foldl_keeps (fun s : State => s.evThresholds) _ (by intros; simp)]; (try simp); done) |
        (simp; (try rw [foldl_keeps (fun s : State => s.evThresholds) _ (by intros; simp)]); done)

@[simp] theorem updEp_keeps (s : State) (slot : Nat) (f : Episode → Episode) :
    (s.updEp slot f).pending = s.pending ∧ (s.updEp slot f).inReset = s.inReset ∧ (s.updEp slot f).mgmt = s.mgmt ∧
      (s.updEp slot f).table.generations = s.table.generations ∧ (s.updEp slot f).table.refusing = s.table.refusing ∧
      (s.updEp slot f).sched = s.sched ∧ (s.updEp slot f).store = s.store ∧ (s.updEp slot f).pacers = s.pacers ∧
      (s.updEp slot f).time = s.time ∧ (s.updEp slot f).counters = s.counters ∧ (s.updEp slot f).ports = s.ports ∧
      (s.updEp slot f).link = s.link ∧ (s.updEp slot f).choices = s.choices ∧ (s.updEp slot f).out = s.out ∧
      (s.updEp slot f).evThresholds = s.evThresholds := by
  unfold State.updEp
  try dsimp only
  (repeat' split) <;> first | (simp; done) | (refine ⟨?_,?_,?_,?_,?_,?_,?_,?_,?_,?_,?_,?_,?_,?_,?_⟩ <;> first | rfl | (simp; done)) | simp_all

@[simp] theorem raise_keeps (s : State) (n : Notice) :
    (s.raise n).pending = s.pending ∧ (s.raise n).inReset = s.inReset ∧ (s.raise n).mgmt.replies = s.mgmt.replies ∧
      (s.raise n).mgmt.engine = s.mgmt.engine ∧ (s.raise n).mgmt.commands = s.mgmt.commands ∧
      (s.raise n).mgmt.ready = s.mgmt.ready ∧ (s.raise n).mgmt.framer = s.mgmt.framer ∧
      (s.raise n).mgmt.sending = s.mgmt.sending ∧ (s.raise n).mgmt.startCause = s.mgmt.startCause ∧
      (s.raise n).mgmt.frameErrors = s.mgmt.frameErrors ∧ (s.raise n).mgmt.busyCount = s.mgmt.busyCount ∧
      (s.raise n).mgmt.owed = s.mgmt.owed ∧ (s.raise n).mgmt.busyBacklog = s.mgmt.busyBacklog ∧
      (s.raise n).mgmt.pendingErrors = s.mgmt.pendingErrors ∧ (s.raise n).table = s.table ∧ (s.raise n).sched = s.sched ∧
      (s.raise n).store = s.store ∧ (s.raise n).pacers = s.pacers ∧ (s.raise n).time = s.time ∧
      (s.raise n).counters = s.counters ∧ (s.raise n).ports = s.ports ∧ (s.raise n).link = s.link ∧
      (s.raise n).choices = s.choices ∧ (s.raise n).out = s.out ∧ (s.raise n).evThresholds = s.evThresholds := by
  unfold State.raise
  try dsimp only
  (repeat' split) <;> first | (simp; done) | (refine ⟨?_,?_,?_,?_,?_,?_,?_,?_,?_,?_,?_,?_,?_,?_,?_,?_,?_,?_,?_,?_,?_,?_,?_,?_,?_⟩ <;> first | rfl | (simp; done)) | simp_all

@[simp] theorem emit_keeps (s : State) (o : Output) :
    (s.emit o).pending = s.pending ∧ (s.emit o).inReset = s.inReset ∧ (s.emit o).mgmt = s.mgmt ∧
      (s.emit o).table = s.table ∧ (s.emit o).sched = s.sched ∧ (s.emit o).store = s.store ∧ (s.emit o).pacers = s.pacers ∧
      (s.emit o).time = s.time ∧ (s.emit o).counters = s.counters ∧ (s.emit o).ports = s.ports ∧ (s.emit o).link = s.link ∧
      (s.emit o).choices = s.choices ∧ (s.emit o).evThresholds = s.evThresholds := by
  unfold State.emit
  try dsimp only
  (repeat' split) <;> first | (simp; done) | (refine ⟨?_,?_,?_,?_,?_,?_,?_,?_,?_,?_,?_,?_,?_⟩ <;> first | rfl | (simp; done)) | simp_all

end Sys2Proof.Machine
end

