-- ==== Sys2Proof/Laws/Shared.lean ====
section
/-! SUPPORT. What the shared operations of Machine/Ops.lean leave as they were. -/

set_option linter.all false

namespace Sys2Proof.Machine

@[simp] theorem raisePortState_keeps (s : State) (g : Nat) (cause : PortCause) :
    (s.raisePortState g cause).pending = s.pending ∧ (s.raisePortState g cause).inReset = s.inReset ∧
      (s.raisePortState g cause).mgmt.replies = s.mgmt.replies ∧ (s.raisePortState g cause).mgmt.engine = s.mgmt.engine ∧
      (s.raisePortState g cause).mgmt.commands = s.mgmt.commands ∧ (s.raisePortState g cause).mgmt.ready = s.mgmt.ready ∧
      (s.raisePortState g cause).mgmt.framer = s.mgmt.framer ∧ (s.raisePortState g cause).mgmt.sending = s.mgmt.sending ∧
      (s.raisePortState g cause).mgmt.startCause = s.mgmt.startCause ∧
      (s.raisePortState g cause).mgmt.frameErrors = s.mgmt.frameErrors ∧
      (s.raisePortState g cause).mgmt.busyCount = s.mgmt.busyCount ∧ (s.raisePortState g cause).mgmt.owed = s.mgmt.owed ∧
      (s.raisePortState g cause).mgmt.busyBacklog = s.mgmt.busyBacklog ∧
      (s.raisePortState g cause).mgmt.pendingErrors = s.mgmt.pendingErrors ∧ (s.raisePortState g cause).table = s.table ∧
      (s.raisePortState g cause).sched = s.sched ∧ (s.raisePortState g cause).store = s.store ∧
      (s.raisePortState g cause).pacers = s.pacers ∧ (s.raisePortState g cause).time = s.time ∧
      (s.raisePortState g cause).counters = s.counters ∧ (s.raisePortState g cause).ports = s.ports ∧
      (s.raisePortState g cause).link = s.link ∧ (s.raisePortState g cause).choices = s.choices ∧
      (s.raisePortState g cause).out = s.out ∧ (s.raisePortState g cause).evThresholds = s.evThresholds := by
  unfold State.raisePortState
  try dsimp only
  (repeat' split) <;> first | (simp; done) | (refine ⟨?_,?_,?_,?_,?_,?_,?_,?_,?_,?_,?_,?_,?_,?_,?_,?_,?_,?_,?_,?_,?_,?_,?_,?_,?_⟩ <;> first | rfl | (simp; done)) | simp_all

@[simp] theorem handControl_keeps (s : State) (w : ControlWord) :
    (s.handControl w).pending = s.pending ∧ (s.handControl w).inReset = s.inReset ∧ (s.handControl w).mgmt = s.mgmt ∧
      (s.handControl w).table = s.table ∧ (s.handControl w).sched = s.sched ∧ (s.handControl w).store = s.store ∧
      (s.handControl w).pacers = s.pacers ∧ (s.handControl w).time = s.time ∧ (s.handControl w).counters = s.counters ∧
      (s.handControl w).ports = s.ports ∧ (s.handControl w).link.lanes = s.link.lanes ∧
      (s.handControl w).link.state = s.link.state ∧ (s.handControl w).link.expected = s.link.expected ∧
      (s.handControl w).link.lastGood = s.link.lastGood ∧ (s.handControl w).link.established = s.link.established ∧
      (s.handControl w).link.mismatch = s.link.mismatch ∧ (s.handControl w).link.loss = s.link.loss ∧
      (s.handControl w).link.openPacket = s.link.openPacket ∧ (s.handControl w).link.egressFull = s.link.egressFull ∧
      (s.handControl w).link.hold = s.link.hold ∧ (s.handControl w).link.paused = s.link.paused ∧
      (s.handControl w).link.stubs = s.link.stubs ∧ (s.handControl w).link.passList = s.link.passList ∧
      (s.handControl w).link.sending = s.link.sending ∧ (s.handControl w).link.discards = s.link.discards ∧
      (s.handControl w).link.stagingDrops = s.link.stagingDrops ∧
      (s.handControl w).link.ignoredSightings = s.link.ignoredSightings ∧
      (s.handControl w).link.rejectedWords = s.link.rejectedWords ∧
      (s.handControl w).link.returnLosses = s.link.returnLosses ∧ (s.handControl w).choices = s.choices ∧
      (s.handControl w).out = s.out ∧ (s.handControl w).evThresholds = s.evThresholds := by
  unfold State.handControl
  try dsimp only
  (repeat' split) <;> first | (simp; done) | (refine ⟨?_,?_,?_,?_,?_,?_,?_,?_,?_,?_,?_,?_,?_,?_,?_,?_,?_,?_,?_,?_,?_,?_,?_,?_,?_,?_,?_,?_,?_,?_,?_,?_⟩ <;> first | rfl | (simp; done)) | simp_all

@[simp] theorem handStart_keeps (s : State) (g : Nat) :
    (s.handStart g).pending = s.pending ∧ (s.handStart g).inReset = s.inReset ∧ (s.handStart g).mgmt = s.mgmt ∧
      (s.handStart g).table = s.table ∧ (s.handStart g).sched = s.sched ∧ (s.handStart g).store = s.store ∧
      (s.handStart g).pacers = s.pacers ∧ (s.handStart g).time = s.time ∧ (s.handStart g).counters = s.counters ∧
      (s.handStart g).ports = s.ports ∧ (s.handStart g).link.lanes = s.link.lanes ∧
      (s.handStart g).link.state = s.link.state ∧ (s.handStart g).link.expected = s.link.expected ∧
      (s.handStart g).link.lastGood = s.link.lastGood ∧ (s.handStart g).link.established = s.link.established ∧
      (s.handStart g).link.mismatch = s.link.mismatch ∧ (s.handStart g).link.loss = s.link.loss ∧
      (s.handStart g).link.openPacket = s.link.openPacket ∧ (s.handStart g).link.egressFull = s.link.egressFull ∧
      (s.handStart g).link.hold = s.link.hold ∧ (s.handStart g).link.paused = s.link.paused ∧
      (s.handStart g).link.stubs = s.link.stubs ∧ (s.handStart g).link.passList = s.link.passList ∧
      (s.handStart g).link.sending = s.link.sending ∧ (s.handStart g).link.discards = s.link.discards ∧
      (s.handStart g).link.stagingDrops = s.link.stagingDrops ∧
      (s.handStart g).link.ignoredSightings = s.link.ignoredSightings ∧
      (s.handStart g).link.rejectedWords = s.link.rejectedWords ∧ (s.handStart g).link.returnLosses = s.link.returnLosses ∧
      (s.handStart g).choices = s.choices ∧ (s.handStart g).out = s.out ∧ (s.handStart g).evThresholds = s.evThresholds := by
  refine ⟨?_, ?_, ?_, ?_, ?_, ?_, ?_, ?_, ?_, ?_, ?_, ?_, ?_, ?_, ?_, ?_, ?_, ?_, ?_, ?_, ?_, ?_, ?_, ?_, ?_, ?_, ?_, ?_, ?_, ?_, ?_, ?_⟩
  · unfold State.handStart; (try dsimp only); (repeat' split) <;> (try dsimp only) <;>
      first | rfl | (simp; done) | (rw [foldl_keeps (fun s : State => s.pending) _ (by intros; simp)]; (try simp); done) |
        (simp; (try rw [foldl_keeps (fun s : State => s.pending) _ (by intros; simp)]); done)
  · unfold State.handStart; (try dsimp only); (repeat' split) <;> (try dsimp only) <;>
      first | rfl | (simp; done) | (rw [foldl_keeps (fun s : State => s.inReset) _ (by intros; simp)]; (try simp); done) |
        (simp; (try rw [foldl_keeps (fun s : State => s.inReset) _ (by intros; simp)]); done)
  · unfold State.handStart; (try dsimp only); (repeat' split) <;> (try dsimp only) <;>
      first | rfl | (simp; done) | (rw [foldl_keeps (fun s : State => s.mgmt) _ (by intros; simp)]; (try simp); done) |
        (simp; (try rw [foldl_keeps (fun s : State => s.mgmt) _ (by intros; simp)]); done)
  · unfold State.handStart; (try dsimp only); (repeat' split) <;> (try dsimp only) <;>
      first | rfl | (simp; done) | (rw [foldl_keeps (fun s : State => s.table) _ (by intros; simp)]; (try simp); done) |
        (simp; (try rw [foldl_keeps (fun s : State => s.table) _ (by intros; simp)]); done)
  · unfold State.handStart; (try dsimp only); (repeat' split) <;> (try dsimp only) <;>
      first | rfl | (simp; done) | (rw [foldl_keeps (fun s : State => s.sched) _ (by intros; simp)]; (try simp); done) |
        (simp; (try rw [foldl_keeps (fun s : State => s.sched) _ (by intros; simp)]); done)
  · unfold State.handStart; (try dsimp only); (repeat' split) <;> (try dsimp only) <;>
      first | rfl | (simp; done) | (rw [foldl_keeps (fun s : State => s.store) _ (by intros; simp)]; (try simp); done) |
        (simp; (try rw [foldl_keeps (fun s : State => s.store) _ (by intros; simp)]); done)
  · unfold State.handStart; (try dsimp only); (repeat' split) <;> (try dsimp only) <;>
      first | rfl | (simp; done) | (rw [foldl_keeps (fun s : State => s.pacers) _ (by intros; simp)]; (try simp); done) |
        (simp; (try rw [foldl_keeps (fun s : State => s.pacers) _ (by intros; simp)]); done)
  · unfold State.handStart; (try dsimp only); (repeat' split) <;> (try dsimp only) <;>
      first | rfl | (simp; done) | (rw [foldl_keeps (fun s : State => s.time) _ (by intros; simp)]; (try simp); done) |
        (simp; (try rw [foldl_keeps (fun s : State => s.time) _ (by intros; simp)]); done)
  · unfold State.handStart; (try dsimp only); (repeat' split) <;> (try dsimp only) <;>
      first | rfl | (simp; done) | (rw [foldl_keeps (fun s : State => s.counters) _ (by intros; simp)]; (try simp); done) |
        (simp; (try rw [foldl_keeps (fun s : State => s.counters) _ (by intros; simp)]); done)
  · unfold State.handStart; (try dsimp only); (repeat' split) <;> (try dsimp only) <;>
      first | rfl | (simp; done) | (rw [foldl_keeps (fun s : State => s.ports) _ (by intros; simp)]; (try simp); done) |
        (simp; (try rw [foldl_keeps (fun s : State => s.ports) _ (by intros; simp)]); done)
  · unfold State.handStart; (try dsimp only); (repeat' split) <;> (try dsimp only) <;>
      first | rfl | (simp; done) | (rw [foldl_keeps (fun s : State => s.link.lanes) _ (by intros; simp)]; (try simp); done) |
        (simp; (try rw [foldl_keeps (fun s : State => s.link.lanes) _ (by intros; simp)]); done)
  · unfold State.handStart; (try dsimp only); (repeat' split) <;> (try dsimp only) <;>
      first | rfl | (simp; done) | (rw [foldl_keeps (fun s : State => s.link.state) _ (by intros; simp)]; (try simp); done) |
        (simp; (try rw [foldl_keeps (fun s : State => s.link.state) _ (by intros; simp)]); done)
  · unfold State.handStart; (try dsimp only); (repeat' split) <;> (try dsimp only) <;>
      first | rfl | (simp; done) | (rw [foldl_keeps (fun s : State => s.link.expected) _ (by intros; simp)]; (try simp); done) |
        (simp; (try rw [foldl_keeps (fun s : State => s.link.expected) _ (by intros; simp)]); done)
  · unfold State.handStart; (try dsimp only); (repeat' split) <;> (try dsimp only) <;>
      first | rfl | (simp; done) | (rw [foldl_keeps (fun s : State => s.link.lastGood) _ (by intros; simp)]; (try simp); done) |
        (simp; (try rw [foldl_keeps (fun s : State => s.link.lastGood) _ (by intros; simp)]); done)
  · unfold State.handStart; (try dsimp only); (repeat' split) <;> (try dsimp only) <;>
      first | rfl | (simp; done) | (rw [foldl_keeps (fun s : State => s.link.established) _ (by intros; simp)]; (try simp); done) |
        (simp; (try rw [foldl_keeps (fun s : State => s.link.established) _ (by intros; simp)]); done)
  · unfold State.handStart; (try dsimp only); (repeat' split) <;> (try dsimp only) <;>
      first | rfl | (simp; done) | (rw [foldl_keeps (fun s : State => s.link.mismatch) _ (by intros; simp)]; (try simp); done) |
        (simp; (try rw [foldl_keeps (fun s : State => s.link.mismatch) _ (by intros; simp)]); done)
  · unfold State.handStart; (try dsimp only); (repeat' split) <;> (try dsimp only) <;>
      first | rfl | (simp; done) | (rw [foldl_keeps (fun s : State => s.link.loss) _ (by intros; simp)]; (try simp); done) |
        (simp; (try rw [foldl_keeps (fun s : State => s.link.loss) _ (by intros; simp)]); done)
  · unfold State.handStart; (try dsimp only); (repeat' split) <;> (try dsimp only) <;>
      first | rfl | (simp; done) | (rw [foldl_keeps (fun s : State => s.link.openPacket) _ (by intros; simp)]; (try simp); done) |
        (simp; (try rw [foldl_keeps (fun s : State => s.link.openPacket) _ (by intros; simp)]); done)
  · unfold State.handStart; (try dsimp only); (repeat' split) <;> (try dsimp only) <;>
      first | rfl | (simp; done) | (rw [foldl_keeps (fun s : State => s.link.egressFull) _ (by intros; simp)]; (try simp); done) |
        (simp; (try rw [foldl_keeps (fun s : State => s.link.egressFull) _ (by intros; simp)]); done)
  · unfold State.handStart; (try dsimp only); (repeat' split) <;> (try dsimp only) <;>
      first | rfl | (simp; done) | (rw [foldl_keeps (fun s : State => s.link.hold) _ (by intros; simp)]; (try simp); done) |
        (simp; (try rw [foldl_keeps (fun s : State => s.link.hold) _ (by intros; simp)]); done)
  · unfold State.handStart; (try dsimp only); (repeat' split) <;> (try dsimp only) <;>
      first | rfl | (simp; done) | (rw [foldl_keeps (fun s : State => s.link.paused) _ (by intros; simp)]; (try simp); done) |
        (simp; (try rw [foldl_keeps (fun s : State => s.link.paused) _ (by intros; simp)]); done)
  · unfold State.handStart; (try dsimp only); (repeat' split) <;> (try dsimp only) <;>
      first | rfl | (simp; done) | (rw [foldl_keeps (fun s : State => s.link.stubs) _ (by intros; simp)]; (try simp); done) |
        (simp; (try rw [foldl_keeps (fun s : State => s.link.stubs) _ (by intros; simp)]); done)
  · unfold State.handStart; (try dsimp only); (repeat' split) <;> (try dsimp only) <;>
      first | rfl | (simp; done) | (rw [foldl_keeps (fun s : State => s.link.passList) _ (by intros; simp)]; (try simp); done) |
        (simp; (try rw [foldl_keeps (fun s : State => s.link.passList) _ (by intros; simp)]); done)
  · unfold State.handStart; (try dsimp only); (repeat' split) <;> (try dsimp only) <;>
      first | rfl | (simp; done) | (rw [foldl_keeps (fun s : State => s.link.sending) _ (by intros; simp)]; (try simp); done) |
        (simp; (try rw [foldl_keeps (fun s : State => s.link.sending) _ (by intros; simp)]); done)
  · unfold State.handStart; (try dsimp only); (repeat' split) <;> (try dsimp only) <;>
      first | rfl | (simp; done) | (rw [foldl_keeps (fun s : State => s.link.discards) _ (by intros; simp)]; (try simp); done) |
        (simp; (try rw [foldl_keeps (fun s : State => s.link.discards) _ (by intros; simp)]); done)
  · unfold State.handStart; (try dsimp only); (repeat' split) <;> (try dsimp only) <;>
      first | rfl | (simp; done) | (rw [foldl_keeps (fun s : State => s.link.stagingDrops) _ (by intros; simp)]; (try simp); done) |
        (simp; (try rw [foldl_keeps (fun s : State => s.link.stagingDrops) _ (by intros; simp)]); done)
  · unfold State.handStart; (try dsimp only); (repeat' split) <;> (try dsimp only) <;>
      first | rfl | (simp; done) | (rw [foldl_keeps (fun s : State => s.link.ignoredSightings) _ (by intros; simp)]; (try simp); done) |
        (simp; (try rw [foldl_keeps (fun s : State => s.link.ignoredSightings) _ (by intros; simp)]); done)
  · unfold State.handStart; (try dsimp only); (repeat' split) <;> (try dsimp only) <;>
      first | rfl | (simp; done) | (rw [foldl_keeps (fun s : State => s.link.rejectedWords) _ (by intros; simp)]; (try simp); done) |
        (simp; (try rw [foldl_keeps (fun s : State => s.link.rejectedWords) _ (by intros; simp)]); done)
  · unfold State.handStart; (try dsimp only); (repeat' split) <;> (try dsimp only) <;>
      first | rfl | (simp; done) | (rw [foldl_keeps (fun s : State => s.link.returnLosses) _ (by intros; simp)]; (try simp); done) |
        (simp; (try rw [foldl_keeps (fun s : State => s.link.returnLosses) _ (by intros; simp)]); done)
  · unfold State.handStart; (try dsimp only); (repeat' split) <;> (try dsimp only) <;>
      first | rfl | (simp; done) | (rw [foldl_keeps (fun s : State => s.choices) _ (by intros; simp)]; (try simp); done) |
        (simp; (try rw [foldl_keeps (fun s : State => s.choices) _ (by intros; simp)]); done)
  · unfold State.handStart; (try dsimp only); (repeat' split) <;> (try dsimp only) <;>
      first | rfl | (simp; done) | (rw [foldl_keeps (fun s : State => s.out) _ (by intros; simp)]; (try simp); done) |
        (simp; (try rw [foldl_keeps (fun s : State => s.out) _ (by intros; simp)]); done)
  · unfold State.handStart; (try dsimp only); (repeat' split) <;> (try dsimp only) <;>
      first | rfl | (simp; done) | (rw [foldl_keeps (fun s : State => s.evThresholds) _ (by intros; simp)]; (try simp); done) |
        (simp; (try rw [foldl_keeps (fun s : State => s.evThresholds) _ (by intros; simp)]); done)

@[simp] theorem handStop_keeps (s : State) (g : Nat) :
    (s.handStop g).pending = s.pending ∧ (s.handStop g).inReset = s.inReset ∧ (s.handStop g).mgmt = s.mgmt ∧
      (s.handStop g).table = s.table ∧ (s.handStop g).sched = s.sched ∧ (s.handStop g).store = s.store ∧
      (s.handStop g).pacers = s.pacers ∧ (s.handStop g).time = s.time ∧ (s.handStop g).counters = s.counters ∧
      (s.handStop g).link.lanes = s.link.lanes ∧ (s.handStop g).link.state = s.link.state ∧
      (s.handStop g).link.expected = s.link.expected ∧ (s.handStop g).link.lastGood = s.link.lastGood ∧
      (s.handStop g).link.established = s.link.established ∧ (s.handStop g).link.mismatch = s.link.mismatch ∧
      (s.handStop g).link.loss = s.link.loss ∧ (s.handStop g).link.openPacket = s.link.openPacket ∧
      (s.handStop g).link.egressFull = s.link.egressFull ∧ (s.handStop g).link.hold = s.link.hold ∧
      (s.handStop g).link.paused = s.link.paused ∧ (s.handStop g).link.stubs = s.link.stubs ∧
      (s.handStop g).link.passList = s.link.passList ∧ (s.handStop g).link.sending = s.link.sending ∧
      (s.handStop g).link.discards = s.link.discards ∧ (s.handStop g).link.stagingDrops = s.link.stagingDrops ∧
      (s.handStop g).link.ignoredSightings = s.link.ignoredSightings ∧
      (s.handStop g).link.rejectedWords = s.link.rejectedWords ∧ (s.handStop g).link.returnLosses = s.link.returnLosses ∧
      (s.handStop g).choices = s.choices ∧ (s.handStop g).out = s.out ∧ (s.handStop g).evThresholds = s.evThresholds := by
  refine ⟨?_, ?_, ?_, ?_, ?_, ?_, ?_, ?_, ?_, ?_, ?_, ?_, ?_, ?_, ?_, ?_, ?_, ?_, ?_, ?_, ?_, ?_, ?_, ?_, ?_, ?_, ?_, ?_, ?_, ?_, ?_⟩
  · unfold State.handStop; (try dsimp only); (repeat' split) <;> (try dsimp only) <;>
      first | rfl | (simp; done) | (rw [foldl_keeps (fun s : State => s.pending) _ (by intros; simp)]; (try simp); done) |
        (simp; (try rw [foldl_keeps (fun s : State => s.pending) _ (by intros; simp)]); done)
  · unfold State.handStop; (try dsimp only); (repeat' split) <;> (try dsimp only) <;>
      first | rfl | (simp; done) | (rw [foldl_keeps (fun s : State => s.inReset) _ (by intros; simp)]; (try simp); done) |
        (simp; (try rw [foldl_keeps (fun s : State => s.inReset) _ (by intros; simp)]); done)
  · unfold State.handStop; (try dsimp only); (repeat' split) <;> (try dsimp only) <;>
      first | rfl | (simp; done) | (rw [foldl_keeps (fun s : State => s.mgmt) _ (by intros; simp)]; (try simp); done) |
        (simp; (try rw [foldl_keeps (fun s : State => s.mgmt) _ (by intros; simp)]); done)
  · unfold State.handStop; (try dsimp only); (repeat' split) <;> (try dsimp only) <;>
      first | rfl | (simp; done) | (rw [foldl_keeps (fun s : State => s.table) _ (by intros; simp)]; (try simp); done) |
        (simp; (try rw [foldl_keeps (fun s : State => s.table) _ (by intros; simp)]); done)
  · unfold State.handStop; (try dsimp only); (repeat' split) <;> (try dsimp only) <;>
      first | rfl | (simp; done) | (rw [foldl_keeps (fun s : State => s.sched) _ (by intros; simp)]; (try simp); done) |
        (simp; (try rw [foldl_keeps (fun s : State => s.sched) _ (by intros; simp)]); done)
  · unfold State.handStop; (try dsimp only); (repeat' split) <;> (try dsimp only) <;>
      first | rfl | (simp; done) | (rw [foldl_keeps (fun s : State => s.store) _ (by intros; simp)]; (try simp); done) |
        (simp; (try rw [foldl_keeps (fun s : State => s.store) _ (by intros; simp)]); done)
  · unfold State.handStop; (try dsimp only); (repeat' split) <;> (try dsimp only) <;>
      first | rfl | (simp; done) | (rw [foldl_keeps (fun s : State => s.pacers) _ (by intros; simp)]; (try simp); done) |
        (simp; (try rw [foldl_keeps (fun s : State => s.pacers) _ (by intros; simp)]); done)
  · unfold State.handStop; (try dsimp only); (repeat' split) <;> (try dsimp only) <;>
      first | rfl | (simp; done) | (rw [foldl_keeps (fun s : State => s.time) _ (by intros; simp)]; (try simp); done) |
        (simp; (try rw [foldl_keeps (fun s : State => s.time) _ (by intros; simp)]); done)
  · unfold State.handStop; (try dsimp only); (repeat' split) <;> (try dsimp only) <;>
      first | rfl | (simp; done) | (rw [foldl_keeps (fun s : State => s.counters) _ (by intros; simp)]; (try simp); done) |
        (simp; (try rw [foldl_keeps (fun s : State => s.counters) _ (by intros; simp)]); done)
  · unfold State.handStop; (try dsimp only); (repeat' split) <;> (try dsimp only) <;>
      first | rfl | (simp; done) | (rw [foldl_keeps (fun s : State => s.link.lanes) _ (by intros; simp)]; (try simp); done) |
        (simp; (try rw [foldl_keeps (fun s : State => s.link.lanes) _ (by intros; simp)]); done)
  · unfold State.handStop; (try dsimp only); (repeat' split) <;> (try dsimp only) <;>
      first | rfl | (simp; done) | (rw [foldl_keeps (fun s : State => s.link.state) _ (by intros; simp)]; (try simp); done) |
        (simp; (try rw [foldl_keeps (fun s : State => s.link.state) _ (by intros; simp)]); done)
  · unfold State.handStop; (try dsimp only); (repeat' split) <;> (try dsimp only) <;>
      first | rfl | (simp; done) | (rw [foldl_keeps (fun s : State => s.link.expected) _ (by intros; simp)]; (try simp); done) |
        (simp; (try rw [foldl_keeps (fun s : State => s.link.expected) _ (by intros; simp)]); done)
  · unfold State.handStop; (try dsimp only); (repeat' split) <;> (try dsimp only) <;>
      first | rfl | (simp; done) | (rw [foldl_keeps (fun s : State => s.link.lastGood) _ (by intros; simp)]; (try simp); done) |
        (simp; (try rw [foldl_keeps (fun s : State => s.link.lastGood) _ (by intros; simp)]); done)
  · unfold State.handStop; (try dsimp only); (repeat' split) <;> (try dsimp only) <;>
      first | rfl | (simp; done) | (rw [foldl_keeps (fun s : State => s.link.established) _ (by intros; simp)]; (try simp); done) |
        (simp; (try rw [foldl_keeps (fun s : State => s.link.established) _ (by intros; simp)]); done)
  · unfold State.handStop; (try dsimp only); (repeat' split) <;> (try dsimp only) <;>
      first | rfl | (simp; done) | (rw [foldl_keeps (fun s : State => s.link.mismatch) _ (by intros; simp)]; (try simp); done) |
        (simp; (try rw [foldl_keeps (fun s : State => s.link.mismatch) _ (by intros; simp)]); done)
  · unfold State.handStop; (try dsimp only); (repeat' split) <;> (try dsimp only) <;>
      first | rfl | (simp; done) | (rw [foldl_keeps (fun s : State => s.link.loss) _ (by intros; simp)]; (try simp); done) |
        (simp; (try rw [foldl_keeps (fun s : State => s.link.loss) _ (by intros; simp)]); done)
  · unfold State.handStop; (try dsimp only); (repeat' split) <;> (try dsimp only) <;>
      first | rfl | (simp; done) | (rw [foldl_keeps (fun s : State => s.link.openPacket) _ (by intros; simp)]; (try simp); done) |
        (simp; (try rw [foldl_keeps (fun s : State => s.link.openPacket) _ (by intros; simp)]); done)
  · unfold State.handStop; (try dsimp only); (repeat' split) <;> (try dsimp only) <;>
      first | rfl | (simp; done) | (rw [foldl_keeps (fun s : State => s.link.egressFull) _ (by intros; simp)]; (try simp); done) |
        (simp; (try rw [foldl_keeps (fun s : State => s.link.egressFull) _ (by intros; simp)]); done)
  · unfold State.handStop; (try dsimp only); (repeat' split) <;> (try dsimp only) <;>
      first | rfl | (simp; done) | (rw [foldl_keeps (fun s : State => s.link.hold) _ (by intros; simp)]; (try simp); done) |
        (simp; (try rw [foldl_keeps (fun s : State => s.link.hold) _ (by intros; simp)]); done)
  · unfold State.handStop; (try dsimp only); (repeat' split) <;> (try dsimp only) <;>
      first | rfl | (simp; done) | (rw [foldl_keeps (fun s : State => s.link.paused) _ (by intros; simp)]; (try simp); done) |
        (simp; (try rw [foldl_keeps (fun s : State => s.link.paused) _ (by intros; simp)]); done)
  · unfold State.handStop; (try dsimp only); (repeat' split) <;> (try dsimp only) <;>
      first | rfl | (simp; done) | (rw [foldl_keeps (fun s : State => s.link.stubs) _ (by intros; simp)]; (try simp); done) |
        (simp; (try rw [foldl_keeps (fun s : State => s.link.stubs) _ (by intros; simp)]); done)
  · unfold State.handStop; (try dsimp only); (repeat' split) <;> (try dsimp only) <;>
      first | rfl | (simp; done) | (rw [foldl_keeps (fun s : State => s.link.passList) _ (by intros; simp)]; (try simp); done) |
        (simp; (try rw [foldl_keeps (fun s : State => s.link.passList) _ (by intros; simp)]); done)
  · unfold State.handStop; (try dsimp only); (repeat' split) <;> (try dsimp only) <;>
      first | rfl | (simp; done) | (rw [foldl_keeps (fun s : State => s.link.sending) _ (by intros; simp)]; (try simp); done) |
        (simp; (try rw [foldl_keeps (fun s : State => s.link.sending) _ (by intros; simp)]); done)
  · unfold State.handStop; (try dsimp only); (repeat' split) <;> (try dsimp only) <;>
      first | rfl | (simp; done) | (rw [foldl_keeps (fun s : State => s.link.discards) _ (by intros; simp)]; (try simp); done) |
        (simp; (try rw [foldl_keeps (fun s : State => s.link.discards) _ (by intros; simp)]); done)
  · unfold State.handStop; (try dsimp only); (repeat' split) <;> (try dsimp only) <;>
      first | rfl | (simp; done) | (rw [foldl_keeps (fun s : State => s.link.stagingDrops) _ (by intros; simp)]; (try simp); done) |
        (simp; (try rw [foldl_keeps (fun s : State => s.link.stagingDrops) _ (by intros; simp)]); done)
  · unfold State.handStop; (try dsimp only); (repeat' split) <;> (try dsimp only) <;>
      first | rfl | (simp; done) | (rw [foldl_keeps (fun s : State => s.link.ignoredSightings) _ (by intros; simp)]; (try simp); done) |
        (simp; (try rw [foldl_keeps (fun s : State => s.link.ignoredSightings) _ (by intros; simp)]); done)
  · unfold State.handStop; (try dsimp only); (repeat' split) <;> (try dsimp only) <;>
      first | rfl | (simp; done) | (rw [foldl_keeps (fun s : State => s.link.rejectedWords) _ (by intros; simp)]; (try simp); done) |
        (simp; (try rw [foldl_keeps (fun s : State => s.link.rejectedWords) _ (by intros; simp)]); done)
  · unfold State.handStop; (try dsimp only); (repeat' split) <;> (try dsimp only) <;>
      first | rfl | (simp; done) | (rw [foldl_keeps (fun s : State => s.link.returnLosses) _ (by intros; simp)]; (try simp); done) |
        (simp; (try rw [foldl_keeps (fun s : State => s.link.returnLosses) _ (by intros; simp)]); done)
  · unfold State.handStop; (try dsimp only); (repeat' split) <;> (try dsimp only) <;>
      first | rfl | (simp; done) | (rw [foldl_keeps (fun s : State => s.choices) _ (by intros; simp)]; (try simp); done) |
        (simp; (try rw [foldl_keeps (fun s : State => s.choices) _ (by intros; simp)]); done)
  · unfold State.handStop; (try dsimp only); (repeat' split) <;> (try dsimp only) <;>
      first | rfl | (simp; done) | (rw [foldl_keeps (fun s : State => s.out) _ (by intros; simp)]; (try simp); done) |
        (simp; (try rw [foldl_keeps (fun s : State => s.out) _ (by intros; simp)]); done)
  · unfold State.handStop; (try dsimp only); (repeat' split) <;> (try dsimp only) <;>
      first | rfl | (simp; done) | (rw [foldl_keeps (fun s : State => s.evThresholds) _ (by intros; simp)]; (try simp); done) |
        (simp; (try rw [foldl_keeps (fun s : State => s.evThresholds) _ (by intros; simp)]); done)

@[simp] theorem unpaceEpisode_keeps (s : State) (slot : Nat) :
    (s.unpaceEpisode slot).pending = s.pending ∧ (s.unpaceEpisode slot).inReset = s.inReset ∧
      (s.unpaceEpisode slot).mgmt = s.mgmt ∧ (s.unpaceEpisode slot).table.generations = s.table.generations ∧
      (s.unpaceEpisode slot).table.refusing = s.table.refusing ∧ (s.unpaceEpisode slot).store = s.store ∧
      (s.unpaceEpisode slot).pacers = s.pacers ∧ (s.unpaceEpisode slot).time = s.time ∧
      (s.unpaceEpisode slot).counters = s.counters ∧ (s.unpaceEpisode slot).ports = s.ports ∧
      (s.unpaceEpisode slot).link = s.link ∧ (s.unpaceEpisode slot).choices = s.choices ∧
      (s.unpaceEpisode slot).out = s.out ∧ (s.unpaceEpisode slot).evThresholds = s.evThresholds := by
  unfold State.unpaceEpisode
  try dsimp only
  (repeat' split) <;> first | (simp; done) | (refine ⟨?_,?_,?_,?_,?_,?_,?_,?_,?_,?_,?_,?_,?_,?_⟩ <;> first | rfl | (simp; done)) | simp_all

@[simp] theorem unpaceGroup_keeps (s : State) (g : Nat) :
    (s.unpaceGroup g).pending = s.pending ∧ (s.unpaceGroup g).inReset = s.inReset ∧ (s.unpaceGroup g).mgmt = s.mgmt ∧
      (s.unpaceGroup g).table.generations = s.table.generations ∧ (s.unpaceGroup g).table.refusing = s.table.refusing ∧
      (s.unpaceGroup g).store = s.store ∧ (s.unpaceGroup g).pacers = s.pacers ∧ (s.unpaceGroup g).time = s.time ∧
      (s.unpaceGroup g).counters = s.counters ∧ (s.unpaceGroup g).ports = s.ports ∧ (s.unpaceGroup g).link = s.link ∧
      (s.unpaceGroup g).choices = s.choices ∧ (s.unpaceGroup g).out = s.out ∧
      (s.unpaceGroup g).evThresholds = s.evThresholds := by
  refine ⟨?_, ?_, ?_, ?_, ?_, ?_, ?_, ?_, ?_, ?_, ?_, ?_, ?_, ?_⟩
  · unfold State.unpaceGroup; (try dsimp only); (repeat' split) <;> (try dsimp only) <;>
      first | rfl | (simp; done) | (rw [foldl_keeps (fun s : State => s.pending) _ (by intros; simp)]; (try simp); done) |
        (simp; (try rw [foldl_keeps (fun s : State => s.pending) _ (by intros; simp)]); done)
  · unfold State.unpaceGroup; (try dsimp only); (repeat' split) <;> (try dsimp only) <;>
      first | rfl | (simp; done) | (rw [foldl_keeps (fun s : State => s.inReset) _ (by intros; simp)]; (try simp); done) |
        (simp; (try rw [foldl_keeps (fun s : State => s.inReset) _ (by intros; simp)]); done)
  · unfold State.unpaceGroup; (try dsimp only); (repeat' split) <;> (try dsimp only) <;>
      first | rfl | (simp; done) | (rw [foldl_keeps (fun s : State => s.mgmt) _ (by intros; simp)]; (try simp); done) |
        (simp; (try rw [foldl_keeps (fun s : State => s.mgmt) _ (by intros; simp)]); done)
  · unfold State.unpaceGroup; (try dsimp only); (repeat' split) <;> (try dsimp only) <;>
      first | rfl | (simp; done) | (rw [foldl_keeps (fun s : State => s.table.generations) _ (by intros; simp)]; (try simp); done) |
        (simp; (try rw [foldl_keeps (fun s : State => s.table.generations) _ (by intros; simp)]); done)
  · unfold State.unpaceGroup; (try dsimp only); (repeat' split) <;> (try dsimp only) <;>
      first | rfl | (simp; done) | (rw [foldl_keeps (fun s : State => s.table.refusing) _ (by intros; simp)]; (try simp); done) |
        (simp; (try rw [foldl_keeps (fun s : State => s.table.refusing) _ (by intros; simp)]); done)
  · unfold State.unpaceGroup; (try dsimp only); (repeat' split) <;> (try dsimp only) <;>
      first | rfl | (simp; done) | (rw [foldl_keeps (fun s : State => s.store) _ (by intros; simp)]; (try simp); done) |
        (simp; (try rw [foldl_keeps (fun s : State => s.store) _ (by intros; simp)]); done)
  · unfold State.unpaceGroup; (try dsimp only); (repeat' split) <;> (try dsimp only) <;>
      first | rfl | (simp; done) | (rw [foldl_keeps (fun s : State => s.pacers) _ (by intros; simp)]; (try simp); done) |
        (simp; (try rw [foldl_keeps (fun s : State => s.pacers) _ (by intros; simp)]); done)
  · unfold State.unpaceGroup; (try dsimp only); (repeat' split) <;> (try dsimp only) <;>
      first | rfl | (simp; done) | (rw [foldl_keeps (fun s : State => s.time) _ (by intros; simp)]; (try simp); done) |
        (simp; (try rw [foldl_keeps (fun s : State => s.time) _ (by intros; simp)]); done)
  · unfold State.unpaceGroup; (try dsimp only); (repeat' split) <;> (try dsimp only) <;>
      first | rfl | (simp; done) | (rw [foldl_keeps (fun s : State => s.counters) _ (by intros; simp)]; (try simp); done) |
        (simp; (try rw [foldl_keeps (fun s : State => s.counters) _ (by intros; simp)]); done)
  · unfold State.unpaceGroup; (try dsimp only); (repeat' split) <;> (try dsimp only) <;>
      first | rfl | (simp; done) | (rw [foldl_keeps (fun s : State => s.ports) _ (by intros; simp)]; (try simp); done) |
        (simp; (try rw [foldl_keeps (fun s : State => s.ports) _ (by intros; simp)]); done)
  · unfold State.unpaceGroup; (try dsimp only); (repeat' split) <;> (try dsimp only) <;>
      first | rfl | (simp; done) | (rw [foldl_keeps (fun s : State => s.link) _ (by intros; simp)]; (try simp); done) |
        (simp; (try rw [foldl_keeps (fun s : State => s.link) _ (by intros; simp)]); done)
  · unfold State.unpaceGroup; (try dsimp only); (repeat' split) <;> (try dsimp only) <;>
      first | rfl | (simp; done) | (rw [foldl_keeps (fun s : State => s.choices) _ (by intros; simp)]; (try simp); done) |
        (simp; (try rw [foldl_keeps (fun s : State => s.choices) _ (by intros; simp)]); done)
  · unfold State.unpaceGroup; (try dsimp only); (repeat' split) <;> (try dsimp only) <;>
      first | rfl | (simp; done) | (rw [foldl_keeps (fun s : State => s.out) _ (by intros; simp)]; (try simp); done) |
        (simp; (try rw [foldl_keeps (fun s : State => s.out) _ (by intros; simp)]); done)
  · unfold State.unpaceGroup; (try dsimp only); (repeat' split) <;> (try dsimp only) <;>
      first | rfl | (simp; done) | (rw [foldl_keeps (fun s : State => s.evThresholds) _ (by intros; simp)]; (try simp); done) |
        (simp; (try rw [foldl_keeps (fun s : State => s.evThresholds) _ (by intros; simp)]); done)

@[simp] theorem enterDrainOut_keeps (s : State) (g : Nat) (cause : DrainCause) :
    (s.enterDrainOut g cause).pending = s.pending ∧ (s.enterDrainOut g cause).inReset = s.inReset ∧
      (s.enterDrainOut g cause).mgmt = s.mgmt ∧ (s.enterDrainOut g cause).table.generations = s.table.generations ∧
      (s.enterDrainOut g cause).table.refusing = s.table.refusing ∧ (s.enterDrainOut g cause).store = s.store ∧
      (s.enterDrainOut g cause).pacers = s.pacers ∧ (s.enterDrainOut g cause).time = s.time ∧
      (s.enterDrainOut g cause).counters = s.counters ∧ (s.enterDrainOut g cause).link.lanes = s.link.lanes ∧
      (s.enterDrainOut g cause).link.state = s.link.state ∧ (s.enterDrainOut g cause).link.expected = s.link.expected ∧
      (s.enterDrainOut g cause).link.lastGood = s.link.lastGood ∧
      (s.enterDrainOut g cause).link.established = s.link.established ∧
      (s.enterDrainOut g cause).link.mismatch = s.link.mismatch ∧ (s.enterDrainOut g cause).link.loss = s.link.loss ∧
      (s.enterDrainOut g cause).link.openPacket = s.link.openPacket ∧
      (s.enterDrainOut g cause).link.egressFull = s.link.egressFull ∧ (s.enterDrainOut g cause).link.hold = s.link.hold ∧
      (s.enterDrainOut g cause).link.paused = s.link.paused ∧ (s.enterDrainOut g cause).link.stubs = s.link.stubs ∧
      (s.enterDrainOut g cause).link.passList = s.link.passList ∧ (s.enterDrainOut g cause).link.sending = s.link.sending ∧
      (s.enterDrainOut g cause).link.discards = s.link.discards ∧
      (s.enterDrainOut g cause).link.stagingDrops = s.link.stagingDrops ∧
      (s.enterDrainOut g cause).link.ignoredSightings = s.link.ignoredSightings ∧
      (s.enterDrainOut g cause).link.rejectedWords = s.link.rejectedWords ∧
      (s.enterDrainOut g cause).link.returnLosses = s.link.returnLosses ∧ (s.enterDrainOut g cause).choices = s.choices ∧
      (s.enterDrainOut g cause).out = s.out ∧ (s.enterDrainOut g cause).evThresholds = s.evThresholds := by
  unfold State.enterDrainOut
  try dsimp only
  (repeat' split) <;> first | (simp; done) | (refine ⟨?_,?_,?_,?_,?_,?_,?_,?_,?_,?_,?_,?_,?_,?_,?_,?_,?_,?_,?_,?_,?_,?_,?_,?_,?_,?_,?_,?_,?_,?_,?_⟩ <;> first | rfl | (simp; done)) | simp_all

@[simp] theorem standDown_keeps (s : State) (g : Nat) :
    (s.standDown g).pending = s.pending ∧ (s.standDown g).inReset = s.inReset ∧
      (s.standDown g).mgmt.replies = s.mgmt.replies ∧ (s.standDown g).mgmt.engine = s.mgmt.engine ∧
      (s.standDown g).mgmt.commands = s.mgmt.commands ∧ (s.standDown g).mgmt.ready = s.mgmt.ready ∧
      (s.standDown g).mgmt.framer = s.mgmt.framer ∧ (s.standDown g).mgmt.sending = s.mgmt.sending ∧
      (s.standDown g).mgmt.startCause = s.mgmt.startCause ∧ (s.standDown g).mgmt.frameErrors = s.mgmt.frameErrors ∧
      (s.standDown g).mgmt.busyCount = s.mgmt.busyCount ∧ (s.standDown g).mgmt.owed = s.mgmt.owed ∧
      (s.standDown g).mgmt.busyBacklog = s.mgmt.busyBacklog ∧ (s.standDown g).mgmt.pendingErrors = s.mgmt.pendingErrors ∧
      (s.standDown g).table.generations = s.table.generations ∧ (s.standDown g).table.refusing = s.table.refusing ∧
      (s.standDown g).store = s.store ∧ (s.standDown g).pacers = s.pacers ∧ (s.standDown g).time = s.time ∧
      (s.standDown g).counters = s.counters ∧ (s.standDown g).link.lanes = s.link.lanes ∧
      (s.standDown g).link.state = s.link.state ∧ (s.standDown g).link.expected = s.link.expected ∧
      (s.standDown g).link.lastGood = s.link.lastGood ∧ (s.standDown g).link.established = s.link.established ∧
      (s.standDown g).link.mismatch = s.link.mismatch ∧ (s.standDown g).link.loss = s.link.loss ∧
      (s.standDown g).link.openPacket = s.link.openPacket ∧ (s.standDown g).link.egressFull = s.link.egressFull ∧
      (s.standDown g).link.hold = s.link.hold ∧ (s.standDown g).link.paused = s.link.paused ∧
      (s.standDown g).link.stubs = s.link.stubs ∧ (s.standDown g).link.passList = s.link.passList ∧
      (s.standDown g).link.sending = s.link.sending ∧ (s.standDown g).link.discards = s.link.discards ∧
      (s.standDown g).link.stagingDrops = s.link.stagingDrops ∧
      (s.standDown g).link.ignoredSightings = s.link.ignoredSightings ∧
      (s.standDown g).link.rejectedWords = s.link.rejectedWords ∧ (s.standDown g).link.returnLosses = s.link.returnLosses ∧
      (s.standDown g).choices = s.choices ∧ (s.standDown g).out = s.out ∧ (s.standDown g).evThresholds = s.evThresholds := by
  unfold State.standDown
  try dsimp only
  (repeat' split) <;> first | (simp; done) | (refine ⟨?_,?_,?_,?_,?_,?_,?_,?_,?_,?_,?_,?_,?_,?_,?_,?_,?_,?_,?_,?_,?_,?_,?_,?_,?_,?_,?_,?_,?_,?_,?_,?_,?_,?_,?_,?_,?_,?_,?_,?_,?_,?_⟩ <;> first | rfl | (simp; done)) | simp_all

@[simp] theorem updCounters_keeps (s : State) (g : Nat) (f : CounterSet → CounterSet) :
    (s.updCounters g f).pending = s.pending ∧ (s.updCounters g f).inReset = s.inReset ∧ (s.updCounters g f).mgmt = s.mgmt ∧
      (s.updCounters g f).table = s.table ∧ (s.updCounters g f).sched = s.sched ∧ (s.updCounters g f).store = s.store ∧
      (s.updCounters g f).pacers = s.pacers ∧ (s.updCounters g f).time = s.time ∧
      (s.updCounters g f).counters.threshold = s.counters.threshold ∧ (s.updCounters g f).ports = s.ports ∧
      (s.updCounters g f).link = s.link ∧ (s.updCounters g f).choices = s.choices ∧ (s.updCounters g f).out = s.out ∧
      (s.updCounters g f).evThresholds = s.evThresholds := by
  unfold State.updCounters
  try dsimp only
  (repeat' split) <;> first | (simp; done) | (refine ⟨?_,?_,?_,?_,?_,?_,?_,?_,?_,?_,?_,?_,?_,?_⟩ <;> first | rfl | (simp; done)) | simp_all

@[simp] theorem reached_keeps (s : State) (g : Nat) (type : EvType) (count : Nat) :
    (s.reached g type count).pending = s.pending ∧ (s.reached g type count).inReset = s.inReset ∧
      (s.reached g type count).mgmt.replies = s.mgmt.replies ∧ (s.reached g type count).mgmt.engine = s.mgmt.engine ∧
      (s.reached g type count).mgmt.commands = s.mgmt.commands ∧ (s.reached g type count).mgmt.ready = s.mgmt.ready ∧
      (s.reached g type count).mgmt.framer = s.mgmt.framer ∧ (s.reached g type count).mgmt.sending = s.mgmt.sending ∧
      (s.reached g type count).mgmt.startCause = s.mgmt.startCause ∧
      (s.reached g type count).mgmt.frameErrors = s.mgmt.frameErrors ∧
      (s.reached g type count).mgmt.busyCount = s.mgmt.busyCount ∧ (s.reached g type count).mgmt.owed = s.mgmt.owed ∧
      (s.reached g type count).mgmt.busyBacklog = s.mgmt.busyBacklog ∧
      (s.reached g type count).mgmt.pendingErrors = s.mgmt.pendingErrors ∧
      (s.reached g type count).table.generations = s.table.generations ∧
      (s.reached g type count).table.refusing = s.table.refusing ∧ (s.reached g type count).store = s.store ∧
      (s.reached g type count).pacers = s.pacers ∧ (s.reached g type count).time = s.time ∧
      (s.reached g type count).counters.threshold = s.counters.threshold ∧
      (s.reached g type count).link.lanes = s.link.lanes ∧ (s.reached g type count).link.state = s.link.state ∧
      (s.reached g type count).link.expected = s.link.expected ∧ (s.reached g type count).link.lastGood = s.link.lastGood ∧
      (s.reached g type count).link.established = s.link.established ∧
      (s.reached g type count).link.mismatch = s.link.mismatch ∧ (s.reached g type count).link.loss = s.link.loss ∧
      (s.reached g type count).link.openPacket = s.link.openPacket ∧
      (s.reached g type count).link.egressFull = s.link.egressFull ∧ (s.reached g type count).link.hold = s.link.hold ∧
      (s.reached g type count).link.paused = s.link.paused ∧ (s.reached g type count).link.stubs = s.link.stubs ∧
      (s.reached g type count).link.passList = s.link.passList ∧ (s.reached g type count).link.sending = s.link.sending ∧
      (s.reached g type count).link.discards = s.link.discards ∧
      (s.reached g type count).link.stagingDrops = s.link.stagingDrops ∧
      (s.reached g type count).link.ignoredSightings = s.link.ignoredSightings ∧
      (s.reached g type count).link.rejectedWords = s.link.rejectedWords ∧
      (s.reached g type count).link.returnLosses = s.link.returnLosses ∧ (s.reached g type count).choices = s.choices ∧
      (s.reached g type count).out = s.out := by
  unfold State.reached
  try dsimp only
  (repeat' split) <;> first | (simp; done) | (refine ⟨?_,?_,?_,?_,?_,?_,?_,?_,?_,?_,?_,?_,?_,?_,?_,?_,?_,?_,?_,?_,?_,?_,?_,?_,?_,?_,?_,?_,?_,?_,?_,?_,?_,?_,?_,?_,?_,?_,?_,?_,?_⟩ <;> first | rfl | (simp; done)) | simp_all

@[simp] theorem count_keeps (s : State) (g : Nat) (type : EvType) :
    (s.count g type).pending = s.pending ∧ (s.count g type).inReset = s.inReset ∧
      (s.count g type).mgmt.replies = s.mgmt.replies ∧ (s.count g type).mgmt.engine = s.mgmt.engine ∧
      (s.count g type).mgmt.commands = s.mgmt.commands ∧ (s.count g type).mgmt.ready = s.mgmt.ready ∧
      (s.count g type).mgmt.framer = s.mgmt.framer ∧ (s.count g type).mgmt.sending = s.mgmt.sending ∧
      (s.count g type).mgmt.startCause = s.mgmt.startCause ∧ (s.count g type).mgmt.frameErrors = s.mgmt.frameErrors ∧
      (s.count g type).mgmt.busyCount = s.mgmt.busyCount ∧ (s.count g type).mgmt.owed = s.mgmt.owed ∧
      (s.count g type).mgmt.busyBacklog = s.mgmt.busyBacklog ∧ (s.count g type).mgmt.pendingErrors = s.mgmt.pendingErrors ∧
      (s.count g type).table.generations = s.table.generations ∧ (s.count g type).table.refusing = s.table.refusing ∧
      (s.count g type).store = s.store ∧ (s.count g type).pacers = s.pacers ∧ (s.count g type).time = s.time ∧
      (s.count g type).counters.threshold = s.counters.threshold ∧ (s.count g type).link.lanes = s.link.lanes ∧
      (s.count g type).link.state = s.link.state ∧ (s.count g type).link.expected = s.link.expected ∧
      (s.count g type).link.lastGood = s.link.lastGood ∧ (s.count g type).link.established = s.link.established ∧
      (s.count g type).link.mismatch = s.link.mismatch ∧ (s.count g type).link.loss = s.link.loss ∧
      (s.count g type).link.openPacket = s.link.openPacket ∧ (s.count g type).link.egressFull = s.link.egressFull ∧
      (s.count g type).link.hold = s.link.hold ∧ (s.count g type).link.paused = s.link.paused ∧
      (s.count g type).link.stubs = s.link.stubs ∧ (s.count g type).link.passList = s.link.passList ∧
      (s.count g type).link.sending = s.link.sending ∧ (s.count g type).link.discards = s.link.discards ∧
      (s.count g type).link.stagingDrops = s.link.stagingDrops ∧
      (s.count g type).link.ignoredSightings = s.link.ignoredSightings ∧
      (s.count g type).link.rejectedWords = s.link.rejectedWords ∧
      (s.count g type).link.returnLosses = s.link.returnLosses ∧ (s.count g type).choices = s.choices ∧
      (s.count g type).out = s.out := by
  unfold State.count
  try dsimp only
  (repeat' split) <;> first | (simp; done) | (refine ⟨?_,?_,?_,?_,?_,?_,?_,?_,?_,?_,?_,?_,?_,?_,?_,?_,?_,?_,?_,?_,?_,?_,?_,?_,?_,?_,?_,?_,?_,?_,?_,?_,?_,?_,?_,?_,?_,?_,?_,?_,?_⟩ <;> first | rfl | (simp; done)) | simp_all

@[simp] theorem refreshThresholds_keeps (s : State) :
    (s.refreshThresholds).pending = s.pending ∧ (s.refreshThresholds).inReset = s.inReset ∧
      (s.refreshThresholds).mgmt.replies = s.mgmt.replies ∧ (s.refreshThresholds).mgmt.engine = s.mgmt.engine ∧
      (s.refreshThresholds).mgmt.commands = s.mgmt.commands ∧ (s.refreshThresholds).mgmt.ready = s.mgmt.ready ∧
      (s.refreshThresholds).mgmt.framer = s.mgmt.framer ∧ (s.refreshThresholds).mgmt.overflow = s.mgmt.overflow ∧
      (s.refreshThresholds).mgmt.sending = s.mgmt.sending ∧ (s.refreshThresholds).mgmt.startCause = s.mgmt.startCause ∧
      (s.refreshThresholds).mgmt.frameErrors = s.mgmt.frameErrors ∧
      (s.refreshThresholds).mgmt.busyCount = s.mgmt.busyCount ∧ (s.refreshThresholds).mgmt.owed = s.mgmt.owed ∧
      (s.refreshThresholds).mgmt.busyBacklog = s.mgmt.busyBacklog ∧
      (s.refreshThresholds).mgmt.pendingErrors = s.mgmt.pendingErrors ∧ (s.refreshThresholds).table = s.table ∧
      (s.refreshThresholds).sched = s.sched ∧ (s.refreshThresholds).store = s.store ∧
      (s.refreshThresholds).pacers = s.pacers ∧ (s.refreshThresholds).time = s.time ∧
      (s.refreshThresholds).counters = s.counters ∧ (s.refreshThresholds).ports = s.ports ∧
      (s.refreshThresholds).link = s.link ∧ (s.refreshThresholds).choices = s.choices ∧
      (s.refreshThresholds).out = s.out := by
  unfold State.refreshThresholds
  try dsimp only
  (repeat' split) <;> first | (simp; done) | (refine ⟨?_,?_,?_,?_,?_,?_,?_,?_,?_,?_,?_,?_,?_,?_,?_,?_,?_,?_,?_,?_,?_,?_,?_,?_,?_⟩ <;> first | rfl | (simp; done)) | simp_all

@[simp] theorem raiseClosed_keeps (s : State) (e : Episode) :
    (s.raiseClosed e).pending = s.pending ∧ (s.raiseClosed e).inReset = s.inReset ∧
      (s.raiseClosed e).mgmt.replies = s.mgmt.replies ∧ (s.raiseClosed e).mgmt.engine = s.mgmt.engine ∧
      (s.raiseClosed e).mgmt.commands = s.mgmt.commands ∧ (s.raiseClosed e).mgmt.ready = s.mgmt.ready ∧
      (s.raiseClosed e).mgmt.framer = s.mgmt.framer ∧ (s.raiseClosed e).mgmt.sending = s.mgmt.sending ∧
      (s.raiseClosed e).mgmt.startCause = s.mgmt.startCause ∧ (s.raiseClosed e).mgmt.frameErrors = s.mgmt.frameErrors ∧
      (s.raiseClosed e).mgmt.busyCount = s.mgmt.busyCount ∧ (s.raiseClosed e).mgmt.owed = s.mgmt.owed ∧
      (s.raiseClosed e).mgmt.busyBacklog = s.mgmt.busyBacklog ∧
      (s.raiseClosed e).mgmt.pendingErrors = s.mgmt.pendingErrors ∧ (s.raiseClosed e).table = s.table ∧
      (s.raiseClosed e).sched = s.sched ∧ (s.raiseClosed e).store = s.store ∧ (s.raiseClosed e).pacers = s.pacers ∧
      (s.raiseClosed e).time = s.time ∧ (s.raiseClosed e).counters = s.counters ∧ (s.raiseClosed e).ports = s.ports ∧
      (s.raiseClosed e).link = s.link ∧ (s.raiseClosed e).choices = s.choices ∧ (s.raiseClosed e).out = s.out ∧
      (s.raiseClosed e).evThresholds = s.evThresholds := by
  unfold State.raiseClosed
  try dsimp only
  (repeat' split) <;> first | (simp; done) | (refine ⟨?_,?_,?_,?_,?_,?_,?_,?_,?_,?_,?_,?_,?_,?_,?_,?_,?_,?_,?_,?_,?_,?_,?_,?_,?_⟩ <;> first | rfl | (simp; done)) | simp_all

@[simp] theorem closeEpisode_keeps (s : State) (slot : Nat) :
    (s.closeEpisode slot).pending = s.pending ∧ (s.closeEpisode slot).inReset = s.inReset ∧
      (s.closeEpisode slot).mgmt.replies = s.mgmt.replies ∧ (s.closeEpisode slot).mgmt.engine = s.mgmt.engine ∧
      (s.closeEpisode slot).mgmt.commands = s.mgmt.commands ∧ (s.closeEpisode slot).mgmt.ready = s.mgmt.ready ∧
      (s.closeEpisode slot).mgmt.framer = s.mgmt.framer ∧ (s.closeEpisode slot).mgmt.sending = s.mgmt.sending ∧
      (s.closeEpisode slot).mgmt.startCause = s.mgmt.startCause ∧
      (s.closeEpisode slot).mgmt.frameErrors = s.mgmt.frameErrors ∧
      (s.closeEpisode slot).mgmt.busyCount = s.mgmt.busyCount ∧ (s.closeEpisode slot).mgmt.owed = s.mgmt.owed ∧
      (s.closeEpisode slot).mgmt.busyBacklog = s.mgmt.busyBacklog ∧
      (s.closeEpisode slot).mgmt.pendingErrors = s.mgmt.pendingErrors ∧
      (s.closeEpisode slot).table.generations = s.table.generations ∧
      (s.closeEpisode slot).table.refusing = s.table.refusing ∧ (s.closeEpisode slot).sched = s.sched ∧
      (s.closeEpisode slot).store = s.store ∧ (s.closeEpisode slot).pacers = s.pacers ∧
      (s.closeEpisode slot).time = s.time ∧ (s.closeEpisode slot).counters = s.counters ∧
      (s.closeEpisode slot).ports = s.ports ∧ (s.closeEpisode slot).link = s.link ∧
      (s.closeEpisode slot).choices = s.choices ∧ (s.closeEpisode slot).out = s.out ∧
      (s.closeEpisode slot).evThresholds = s.evThresholds := by
  unfold State.closeEpisode
  try dsimp only
  (repeat' split) <;> first | (simp; done) | (refine ⟨?_,?_,?_,?_,?_,?_,?_,?_,?_,?_,?_,?_,?_,?_,?_,?_,?_,?_,?_,?_,?_,?_,?_,?_,?_,?_⟩ <;> first | rfl | (simp; done)) | simp_all

@[simp] theorem closeIfEmpty_keeps (s : State) (slot : Nat) :
    (s.closeIfEmpty slot).pending = s.pending ∧ (s.closeIfEmpty slot).inReset = s.inReset ∧
      (s.closeIfEmpty slot).mgmt.replies = s.mgmt.replies ∧ (s.closeIfEmpty slot).mgmt.engine = s.mgmt.engine ∧
      (s.closeIfEmpty slot).mgmt.commands = s.mgmt.commands ∧ (s.closeIfEmpty slot).mgmt.ready = s.mgmt.ready ∧
      (s.closeIfEmpty slot).mgmt.framer = s.mgmt.framer ∧ (s.closeIfEmpty slot).mgmt.sending = s.mgmt.sending ∧
      (s.closeIfEmpty slot).mgmt.startCause = s.mgmt.startCause ∧
      (s.closeIfEmpty slot).mgmt.frameErrors = s.mgmt.frameErrors ∧
      (s.closeIfEmpty slot).mgmt.busyCount = s.mgmt.busyCount ∧ (s.closeIfEmpty slot).mgmt.owed = s.mgmt.owed ∧
      (s.closeIfEmpty slot).mgmt.busyBacklog = s.mgmt.busyBacklog ∧
      (s.closeIfEmpty slot).mgmt.pendingErrors = s.mgmt.pendingErrors ∧
      (s.closeIfEmpty slot).table.generations = s.table.generations ∧
      (s.closeIfEmpty slot).table.refusing = s.table.refusing ∧ (s.closeIfEmpty slot).sched = s.sched ∧
      (s.closeIfEmpty slot).store = s.store ∧ (s.closeIfEmpty slot).pacers = s.pacers ∧
      (s.closeIfEmpty slot).time = s.time ∧ (s.closeIfEmpty slot).counters = s.counters ∧
      (s.closeIfEmpty slot).ports = s.ports ∧ (s.closeIfEmpty slot).link = s.link ∧
      (s.closeIfEmpty slot).choices = s.choices ∧ (s.closeIfEmpty slot).out = s.out ∧
      (s.closeIfEmpty slot).evThresholds = s.evThresholds := by
  unfold State.closeIfEmpty
  try dsimp only
  (repeat' split) <;> first | (simp; done) | (refine ⟨?_,?_,?_,?_,?_,?_,?_,?_,?_,?_,?_,?_,?_,?_,?_,?_,?_,?_,?_,?_,?_,?_,?_,?_,?_,?_⟩ <;> first | rfl | (simp; done)) | simp_all

@[simp] theorem afterEmptying_keeps (s : State) (slot : Nat) :
    (s.afterEmptying slot).pending = s.pending ∧ (s.afterEmptying slot).inReset = s.inReset ∧
      (s.afterEmptying slot).mgmt.replies = s.mgmt.replies ∧ (s.afterEmptying slot).mgmt.engine = s.mgmt.engine ∧
      (s.afterEmptying slot).mgmt.commands = s.mgmt.commands ∧ (s.afterEmptying slot).mgmt.ready = s.mgmt.ready ∧
      (s.afterEmptying slot).mgmt.framer = s.mgmt.framer ∧ (s.afterEmptying slot).mgmt.sending = s.mgmt.sending ∧
      (s.afterEmptying slot).mgmt.startCause = s.mgmt.startCause ∧
      (s.afterEmptying slot).mgmt.frameErrors = s.mgmt.frameErrors ∧
      (s.afterEmptying slot).mgmt.busyCount = s.mgmt.busyCount ∧ (s.afterEmptying slot).mgmt.owed = s.mgmt.owed ∧
      (s.afterEmptying slot).mgmt.busyBacklog = s.mgmt.busyBacklog ∧
      (s.afterEmptying slot).mgmt.pendingErrors = s.mgmt.pendingErrors ∧
      (s.afterEmptying slot).table.generations = s.table.generations ∧
      (s.afterEmptying slot).table.refusing = s.table.refusing ∧ (s.afterEmptying slot).sched = s.sched ∧
      (s.afterEmptying slot).store = s.store ∧ (s.afterEmptying slot).pacers = s.pacers ∧
      (s.afterEmptying slot).time = s.time ∧ (s.afterEmptying slot).counters = s.counters ∧
      (s.afterEmptying slot).ports = s.ports ∧ (s.afterEmptying slot).link = s.link ∧
      (s.afterEmptying slot).choices = s.choices ∧ (s.afterEmptying slot).out = s.out ∧
      (s.afterEmptying slot).evThresholds = s.evThresholds := by
  unfold State.afterEmptying
  try dsimp only
  (repeat' split) <;> first | (simp; done) | (refine ⟨?_,?_,?_,?_,?_,?_,?_,?_,?_,?_,?_,?_,?_,?_,?_,?_,?_,?_,?_,?_,?_,?_,?_,?_,?_,?_⟩ <;> first | rfl | (simp; done)) | simp_all

@[simp] theorem freeEpisode_keeps (s : State) (slot : Nat) :
    (s.freeEpisode slot).pending = s.pending ∧ (s.freeEpisode slot).inReset = s.inReset ∧
      (s.freeEpisode slot).mgmt = s.mgmt ∧ (s.freeEpisode slot).table.refusing = s.table.refusing ∧
      (s.freeEpisode slot).sched = s.sched ∧ (s.freeEpisode slot).store = s.store ∧ (s.freeEpisode slot).pacers = s.pacers ∧
      (s.freeEpisode slot).time = s.time ∧ (s.freeEpisode slot).counters = s.counters ∧
      (s.freeEpisode slot).ports = s.ports ∧ (s.freeEpisode slot).link = s.link ∧ (s.freeEpisode slot).choices = s.choices ∧
      (s.freeEpisode slot).out = s.out ∧ (s.freeEpisode slot).evThresholds = s.evThresholds := by
  unfold State.freeEpisode
  try dsimp only
  (repeat' split) <;> first | (simp; done) | (refine ⟨?_,?_,?_,?_,?_,?_,?_,?_,?_,?_,?_,?_,?_,?_⟩ <;> first | rfl | (simp; done)) | simp_all

@[simp] theorem teardown_keeps (s : State) (slot : Nat) (discards : Bool) :
    (s.teardown slot discards).pending = s.pending ∧ (s.teardown slot discards).inReset = s.inReset ∧
      (s.teardown slot discards).mgmt = s.mgmt ∧ (s.teardown slot discards).table.generations = s.table.generations ∧
      (s.teardown slot discards).table.refusing = s.table.refusing ∧ (s.teardown slot discards).store = s.store ∧
      (s.teardown slot discards).pacers = s.pacers ∧ (s.teardown slot discards).time = s.time ∧
      (s.teardown slot discards).counters = s.counters ∧ (s.teardown slot discards).ports = s.ports ∧
      (s.teardown slot discards).link = s.link ∧ (s.teardown slot discards).choices = s.choices ∧
      (s.teardown slot discards).out = s.out ∧ (s.teardown slot discards).evThresholds = s.evThresholds := by
  unfold State.teardown
  try dsimp only
  (repeat' split) <;> first | (simp; done) | (refine ⟨?_,?_,?_,?_,?_,?_,?_,?_,?_,?_,?_,?_,?_,?_⟩ <;> first | rfl | (simp; done)) | simp_all

@[simp] theorem abortEpisode_keeps (s : State) (slot : Nat) :
    (s.abortEpisode slot).pending = s.pending ∧ (s.abortEpisode slot).inReset = s.inReset ∧
      (s.abortEpisode slot).mgmt.replies = s.mgmt.replies ∧ (s.abortEpisode slot).mgmt.engine = s.mgmt.engine ∧
      (s.abortEpisode slot).mgmt.commands = s.mgmt.commands ∧ (s.abortEpisode slot).mgmt.ready = s.mgmt.ready ∧
      (s.abortEpisode slot).mgmt.framer = s.mgmt.framer ∧ (s.abortEpisode slot).mgmt.sending = s.mgmt.sending ∧
      (s.abortEpisode slot).mgmt.startCause = s.mgmt.startCause ∧
      (s.abortEpisode slot).mgmt.frameErrors = s.mgmt.frameErrors ∧
      (s.abortEpisode slot).mgmt.busyCount = s.mgmt.busyCount ∧ (s.abortEpisode slot).mgmt.owed = s.mgmt.owed ∧
      (s.abortEpisode slot).mgmt.busyBacklog = s.mgmt.busyBacklog ∧
      (s.abortEpisode slot).mgmt.pendingErrors = s.mgmt.pendingErrors ∧
      (s.abortEpisode slot).table.generations = s.table.generations ∧
      (s.abortEpisode slot).table.refusing = s.table.refusing ∧ (s.abortEpisode slot).store = s.store ∧
      (s.abortEpisode slot).pacers = s.pacers ∧ (s.abortEpisode slot).time = s.time ∧
      (s.abortEpisode slot).counters = s.counters ∧ (s.abortEpisode slot).ports = s.ports ∧
      (s.abortEpisode slot).link = s.link ∧ (s.abortEpisode slot).choices = s.choices ∧ (s.abortEpisode slot).out = s.out ∧
      (s.abortEpisode slot).evThresholds = s.evThresholds := by
  unfold State.abortEpisode
  try dsimp only
  (repeat' split) <;> first | (simp; done) | (refine ⟨?_,?_,?_,?_,?_,?_,?_,?_,?_,?_,?_,?_,?_,?_,?_,?_,?_,?_,?_,?_,?_,?_,?_,?_,?_⟩ <;> first | rfl | (simp; done)) | simp_all

@[simp] theorem completeEpisode_keeps (s : State) (slot : Nat) :
    (s.completeEpisode slot).pending = s.pending ∧ (s.completeEpisode slot).inReset = s.inReset ∧
      (s.completeEpisode slot).mgmt.replies = s.mgmt.replies ∧ (s.completeEpisode slot).mgmt.engine = s.mgmt.engine ∧
      (s.completeEpisode slot).mgmt.commands = s.mgmt.commands ∧ (s.completeEpisode slot).mgmt.ready = s.mgmt.ready ∧
      (s.completeEpisode slot).mgmt.framer = s.mgmt.framer ∧ (s.completeEpisode slot).mgmt.sending = s.mgmt.sending ∧
      (s.completeEpisode slot).mgmt.startCause = s.mgmt.startCause ∧
      (s.completeEpisode slot).mgmt.frameErrors = s.mgmt.frameErrors ∧
      (s.completeEpisode slot).mgmt.busyCount = s.mgmt.busyCount ∧ (s.completeEpisode slot).mgmt.owed = s.mgmt.owed ∧
      (s.completeEpisode slot).mgmt.busyBacklog = s.mgmt.busyBacklog ∧
      (s.completeEpisode slot).mgmt.pendingErrors = s.mgmt.pendingErrors ∧
      (s.completeEpisode slot).table.generations = s.table.generations ∧
      (s.completeEpisode slot).table.refusing = s.table.refusing ∧ (s.completeEpisode slot).sched = s.sched ∧
      (s.completeEpisode slot).store = s.store ∧ (s.completeEpisode slot).pacers = s.pacers ∧
      (s.completeEpisode slot).time = s.time ∧ (s.completeEpisode slot).counters = s.counters ∧
      (s.completeEpisode slot).ports = s.ports ∧ (s.completeEpisode slot).link = s.link ∧
      (s.completeEpisode slot).choices = s.choices ∧ (s.completeEpisode slot).out = s.out ∧
      (s.completeEpisode slot).evThresholds = s.evThresholds := by
  unfold State.completeEpisode
  try dsimp only
  (repeat' split) <;> first | (simp; done) | (refine ⟨?_,?_,?_,?_,?_,?_,?_,?_,?_,?_,?_,?_,?_,?_,?_,?_,?_,?_,?_,?_,?_,?_,?_,?_,?_,?_⟩ <;> first | rfl | (simp; done)) | simp_all

@[simp] theorem testCompletion_keeps (s : State) (slot : Nat) :
    (s.testCompletion slot).pending = s.pending ∧ (s.testCompletion slot).inReset = s.inReset ∧
      (s.testCompletion slot).mgmt.replies = s.mgmt.replies ∧ (s.testCompletion slot).mgmt.engine = s.mgmt.engine ∧
      (s.testCompletion slot).mgmt.commands = s.mgmt.commands ∧ (s.testCompletion slot).mgmt.ready = s.mgmt.ready ∧
      (s.testCompletion slot).mgmt.framer = s.mgmt.framer ∧ (s.testCompletion slot).mgmt.sending = s.mgmt.sending ∧
      (s.testCompletion slot).mgmt.startCause = s.mgmt.startCause ∧
      (s.testCompletion slot).mgmt.frameErrors = s.mgmt.frameErrors ∧
      (s.testCompletion slot).mgmt.busyCount = s.mgmt.busyCount ∧ (s.testCompletion slot).mgmt.owed = s.mgmt.owed ∧
      (s.testCompletion slot).mgmt.busyBacklog = s.mgmt.busyBacklog ∧
      (s.testCompletion slot).mgmt.pendingErrors = s.mgmt.pendingErrors ∧
      (s.testCompletion slot).table.generations = s.table.generations ∧
      (s.testCompletion slot).table.refusing = s.table.refusing ∧ (s.testCompletion slot).sched = s.sched ∧
      (s.testCompletion slot).store = s.store ∧ (s.testCompletion slot).pacers = s.pacers ∧
      (s.testCompletion slot).time = s.time ∧ (s.testCompletion slot).counters = s.counters ∧
      (s.testCompletion slot).ports = s.ports ∧ (s.testCompletion slot).link = s.link ∧
      (s.testCompletion slot).choices = s.choices ∧ (s.testCompletion slot).out = s.out ∧
      (s.testCompletion slot).evThresholds = s.evThresholds := by
  unfold State.testCompletion
  try dsimp only
  (repeat' split) <;> first | (simp; done) | (refine ⟨?_,?_,?_,?_,?_,?_,?_,?_,?_,?_,?_,?_,?_,?_,?_,?_,?_,?_,?_,?_,?_,?_,?_,?_,?_,?_⟩ <;> first | rfl | (simp; done)) | simp_all

@[simp] theorem applyRate_keeps (s : State) (g : Nat) :
    (s.applyRate g).pending = s.pending ∧ (s.applyRate g).inReset = s.inReset ∧
      (s.applyRate g).mgmt.replies = s.mgmt.replies ∧ (s.applyRate g).mgmt.engine = s.mgmt.engine ∧
      (s.applyRate g).mgmt.commands = s.mgmt.commands ∧ (s.applyRate g).mgmt.ready = s.mgmt.ready ∧
      (s.applyRate g).mgmt.framer = s.mgmt.framer ∧ (s.applyRate g).mgmt.sending = s.mgmt.sending ∧
      (s.applyRate g).mgmt.startCause = s.mgmt.startCause ∧ (s.applyRate g).mgmt.frameErrors = s.mgmt.frameErrors ∧
      (s.applyRate g).mgmt.busyCount = s.mgmt.busyCount ∧ (s.applyRate g).mgmt.owed = s.mgmt.owed ∧
      (s.applyRate g).mgmt.busyBacklog = s.mgmt.busyBacklog ∧ (s.applyRate g).mgmt.pendingErrors = s.mgmt.pendingErrors ∧
      (s.applyRate g).table = s.table ∧ (s.applyRate g).sched = s.sched ∧ (s.applyRate g).store = s.store ∧
      (s.applyRate g).time = s.time ∧ (s.applyRate g).counters = s.counters ∧ (s.applyRate g).ports = s.ports ∧
      (s.applyRate g).link = s.link ∧ (s.applyRate g).choices = s.choices ∧ (s.applyRate g).out = s.out ∧
      (s.applyRate g).evThresholds = s.evThresholds := by
  unfold State.applyRate
  try dsimp only
  (repeat' split) <;> first | (simp; done) | (refine ⟨?_,?_,?_,?_,?_,?_,?_,?_,?_,?_,?_,?_,?_,?_,?_,?_,?_,?_,?_,?_,?_,?_,?_,?_⟩ <;> first | rfl | (simp; done)) | simp_all

@[simp] theorem applyNextEpisode_keeps (s : State) (g : Nat) :
    (s.applyNextEpisode g).pending = s.pending ∧ (s.applyNextEpisode g).inReset = s.inReset ∧
      (s.applyNextEpisode g).mgmt.replies = s.mgmt.replies ∧ (s.applyNextEpisode g).mgmt.engine = s.mgmt.engine ∧
      (s.applyNextEpisode g).mgmt.commands = s.mgmt.commands ∧ (s.applyNextEpisode g).mgmt.ready = s.mgmt.ready ∧
      (s.applyNextEpisode g).mgmt.framer = s.mgmt.framer ∧ (s.applyNextEpisode g).mgmt.sending = s.mgmt.sending ∧
      (s.applyNextEpisode g).mgmt.startCause = s.mgmt.startCause ∧
      (s.applyNextEpisode g).mgmt.frameErrors = s.mgmt.frameErrors ∧
      (s.applyNextEpisode g).mgmt.busyCount = s.mgmt.busyCount ∧ (s.applyNextEpisode g).mgmt.owed = s.mgmt.owed ∧
      (s.applyNextEpisode g).mgmt.busyBacklog = s.mgmt.busyBacklog ∧
      (s.applyNextEpisode g).mgmt.pendingErrors = s.mgmt.pendingErrors ∧ (s.applyNextEpisode g).table = s.table ∧
      (s.applyNextEpisode g).sched = s.sched ∧ (s.applyNextEpisode g).store = s.store ∧
      (s.applyNextEpisode g).time = s.time ∧ (s.applyNextEpisode g).counters = s.counters ∧
      (s.applyNextEpisode g).ports = s.ports ∧ (s.applyNextEpisode g).link = s.link ∧
      (s.applyNextEpisode g).choices = s.choices ∧ (s.applyNextEpisode g).out = s.out ∧
      (s.applyNextEpisode g).evThresholds = s.evThresholds := by
  unfold State.applyNextEpisode
  try dsimp only
  (repeat' split) <;> first | (simp; done) | (refine ⟨?_,?_,?_,?_,?_,?_,?_,?_,?_,?_,?_,?_,?_,?_,?_,?_,?_,?_,?_,?_,?_,?_,?_,?_⟩ <;> first | rfl | (simp; done)) | simp_all

end Sys2Proof.Machine
end

