-- ==== Sys2Proof/Laws/Arrivals.lean ====
section
/-! SUPPORT. What the operations of an arriving packet and of a sighting leave as they were. -/

set_option linter.all false

namespace Sys2Proof.Machine

@[simp] theorem pauseCheck_keeps (s : State) :
    (s.pauseCheck).pending = s.pending ∧ (s.pauseCheck).inReset = s.inReset ∧ (s.pauseCheck).mgmt = s.mgmt ∧
      (s.pauseCheck).table = s.table ∧ (s.pauseCheck).sched = s.sched ∧ (s.pauseCheck).store = s.store ∧
      (s.pauseCheck).pacers = s.pacers ∧ (s.pauseCheck).time = s.time ∧ (s.pauseCheck).counters = s.counters ∧
      (s.pauseCheck).ports = s.ports ∧ (s.pauseCheck).link.lanes = s.link.lanes ∧ (s.pauseCheck).link.state = s.link.state ∧
      (s.pauseCheck).link.expected = s.link.expected ∧ (s.pauseCheck).link.lastGood = s.link.lastGood ∧
      (s.pauseCheck).link.established = s.link.established ∧ (s.pauseCheck).link.mismatch = s.link.mismatch ∧
      (s.pauseCheck).link.loss = s.link.loss ∧ (s.pauseCheck).link.openPacket = s.link.openPacket ∧
      (s.pauseCheck).link.egressFull = s.link.egressFull ∧ (s.pauseCheck).link.hold = s.link.hold ∧
      (s.pauseCheck).link.control = s.link.control ∧ (s.pauseCheck).link.stubs = s.link.stubs ∧
      (s.pauseCheck).link.passList = s.link.passList ∧ (s.pauseCheck).link.sending = s.link.sending ∧
      (s.pauseCheck).link.discards = s.link.discards ∧ (s.pauseCheck).link.stagingDrops = s.link.stagingDrops ∧
      (s.pauseCheck).link.ignoredSightings = s.link.ignoredSightings ∧
      (s.pauseCheck).link.rejectedWords = s.link.rejectedWords ∧ (s.pauseCheck).link.returnLosses = s.link.returnLosses ∧
      (s.pauseCheck).choices = s.choices ∧ (s.pauseCheck).evThresholds = s.evThresholds := by
  unfold State.pauseCheck
  try dsimp only
  (repeat' split) <;> first | (simp; done) | (refine ⟨?_,?_,?_,?_,?_,?_,?_,?_,?_,?_,?_,?_,?_,?_,?_,?_,?_,?_,?_,?_,?_,?_,?_,?_,?_,?_,?_,?_,?_,?_,?_⟩ <;> first | rfl | (simp; done)) | simp_all

@[simp] theorem resumeCheck_keeps (s : State) :
    (s.resumeCheck).pending = s.pending ∧ (s.resumeCheck).inReset = s.inReset ∧ (s.resumeCheck).mgmt = s.mgmt ∧
      (s.resumeCheck).table = s.table ∧ (s.resumeCheck).sched = s.sched ∧ (s.resumeCheck).store = s.store ∧
      (s.resumeCheck).pacers = s.pacers ∧ (s.resumeCheck).time = s.time ∧ (s.resumeCheck).counters = s.counters ∧
      (s.resumeCheck).ports = s.ports ∧ (s.resumeCheck).link.lanes = s.link.lanes ∧
      (s.resumeCheck).link.state = s.link.state ∧ (s.resumeCheck).link.expected = s.link.expected ∧
      (s.resumeCheck).link.lastGood = s.link.lastGood ∧ (s.resumeCheck).link.established = s.link.established ∧
      (s.resumeCheck).link.mismatch = s.link.mismatch ∧ (s.resumeCheck).link.loss = s.link.loss ∧
      (s.resumeCheck).link.openPacket = s.link.openPacket ∧ (s.resumeCheck).link.egressFull = s.link.egressFull ∧
      (s.resumeCheck).link.hold = s.link.hold ∧ (s.resumeCheck).link.control = s.link.control ∧
      (s.resumeCheck).link.stubs = s.link.stubs ∧ (s.resumeCheck).link.passList = s.link.passList ∧
      (s.resumeCheck).link.sending = s.link.sending ∧ (s.resumeCheck).link.discards = s.link.discards ∧
      (s.resumeCheck).link.stagingDrops = s.link.stagingDrops ∧
      (s.resumeCheck).link.ignoredSightings = s.link.ignoredSightings ∧
      (s.resumeCheck).link.rejectedWords = s.link.rejectedWords ∧ (s.resumeCheck).link.returnLosses = s.link.returnLosses ∧
      (s.resumeCheck).choices = s.choices ∧ (s.resumeCheck).evThresholds = s.evThresholds := by
  unfold State.resumeCheck
  try dsimp only
  (repeat' split) <;> first | (simp; done) | (refine ⟨?_,?_,?_,?_,?_,?_,?_,?_,?_,?_,?_,?_,?_,?_,?_,?_,?_,?_,?_,?_,?_,?_,?_,?_,?_,?_,?_,?_,?_,?_,?_⟩ <;> first | rfl | (simp; done)) | simp_all

@[simp] theorem placeEpisode_keeps (s : State) (e : Episode) :
    (s.placeEpisode e).pending = s.pending ∧ (s.placeEpisode e).inReset = s.inReset ∧ (s.placeEpisode e).mgmt = s.mgmt ∧
      (s.placeEpisode e).table.generations = s.table.generations ∧ (s.placeEpisode e).sched = s.sched ∧
      (s.placeEpisode e).store = s.store ∧ (s.placeEpisode e).pacers = s.pacers ∧ (s.placeEpisode e).time = s.time ∧
      (s.placeEpisode e).counters = s.counters ∧ (s.placeEpisode e).ports = s.ports ∧ (s.placeEpisode e).link = s.link ∧
      (s.placeEpisode e).choices = s.choices ∧ (s.placeEpisode e).out = s.out ∧
      (s.placeEpisode e).evThresholds = s.evThresholds := by
  unfold State.placeEpisode
  try dsimp only
  (repeat' split) <;> first | (simp; done) | (refine ⟨?_,?_,?_,?_,?_,?_,?_,?_,?_,?_,?_,?_,?_,?_⟩ <;> first | rfl | (simp; done)) | simp_all

@[simp] theorem refuseSighting_keeps (s : State) (cause : FullCause) :
    (s.refuseSighting cause).pending = s.pending ∧ (s.refuseSighting cause).inReset = s.inReset ∧
      (s.refuseSighting cause).mgmt.replies = s.mgmt.replies ∧ (s.refuseSighting cause).mgmt.engine = s.mgmt.engine ∧
      (s.refuseSighting cause).mgmt.commands = s.mgmt.commands ∧ (s.refuseSighting cause).mgmt.ready = s.mgmt.ready ∧
      (s.refuseSighting cause).mgmt.framer = s.mgmt.framer ∧ (s.refuseSighting cause).mgmt.sending = s.mgmt.sending ∧
      (s.refuseSighting cause).mgmt.startCause = s.mgmt.startCause ∧
      (s.refuseSighting cause).mgmt.frameErrors = s.mgmt.frameErrors ∧
      (s.refuseSighting cause).mgmt.busyCount = s.mgmt.busyCount ∧ (s.refuseSighting cause).mgmt.owed = s.mgmt.owed ∧
      (s.refuseSighting cause).mgmt.busyBacklog = s.mgmt.busyBacklog ∧
      (s.refuseSighting cause).mgmt.pendingErrors = s.mgmt.pendingErrors ∧
      (s.refuseSighting cause).table.generations = s.table.generations ∧
      (s.refuseSighting cause).table.episodes = s.table.episodes ∧ (s.refuseSighting cause).sched = s.sched ∧
      (s.refuseSighting cause).store = s.store ∧ (s.refuseSighting cause).pacers = s.pacers ∧
      (s.refuseSighting cause).time = s.time ∧ (s.refuseSighting cause).counters = s.counters ∧
      (s.refuseSighting cause).ports = s.ports ∧ (s.refuseSighting cause).link = s.link ∧
      (s.refuseSighting cause).choices = s.choices ∧ (s.refuseSighting cause).out = s.out ∧
      (s.refuseSighting cause).evThresholds = s.evThresholds := by
  unfold State.refuseSighting
  try dsimp only
  (repeat' split) <;> first | (simp; done) | (refine ⟨?_,?_,?_,?_,?_,?_,?_,?_,?_,?_,?_,?_,?_,?_,?_,?_,?_,?_,?_,?_,?_,?_,?_,?_,?_,?_⟩ <;> first | rfl | (simp; done)) | simp_all

@[simp] theorem createSighted_keeps (s : State) (a : Announcement) :
    (s.createSighted a).pending = s.pending ∧ (s.createSighted a).inReset = s.inReset ∧
      (s.createSighted a).mgmt.replies = s.mgmt.replies ∧ (s.createSighted a).mgmt.engine = s.mgmt.engine ∧
      (s.createSighted a).mgmt.commands = s.mgmt.commands ∧ (s.createSighted a).mgmt.ready = s.mgmt.ready ∧
      (s.createSighted a).mgmt.framer = s.mgmt.framer ∧ (s.createSighted a).mgmt.sending = s.mgmt.sending ∧
      (s.createSighted a).mgmt.startCause = s.mgmt.startCause ∧ (s.createSighted a).mgmt.frameErrors = s.mgmt.frameErrors ∧
      (s.createSighted a).mgmt.busyCount = s.mgmt.busyCount ∧ (s.createSighted a).mgmt.owed = s.mgmt.owed ∧
      (s.createSighted a).mgmt.busyBacklog = s.mgmt.busyBacklog ∧
      (s.createSighted a).mgmt.pendingErrors = s.mgmt.pendingErrors ∧
      (s.createSighted a).table.generations = s.table.generations ∧ (s.createSighted a).sched = s.sched ∧
      (s.createSighted a).store = s.store ∧ (s.createSighted a).pacers = s.pacers ∧ (s.createSighted a).time = s.time ∧
      (s.createSighted a).counters = s.counters ∧ (s.createSighted a).ports = s.ports ∧ (s.createSighted a).link = s.link ∧
      (s.createSighted a).choices = s.choices ∧ (s.createSighted a).out = s.out ∧
      (s.createSighted a).evThresholds = s.evThresholds := by
  unfold State.createSighted
  try dsimp only
  (repeat' split) <;> first | (simp; done) | (refine ⟨?_,?_,?_,?_,?_,?_,?_,?_,?_,?_,?_,?_,?_,?_,?_,?_,?_,?_,?_,?_,?_,?_,?_,?_,?_⟩ <;> first | rfl | (simp; done)) | simp_all

@[simp] theorem ignoreSighting_keeps (s : State) :
    (s.ignoreSighting).pending = s.pending ∧ (s.ignoreSighting).inReset = s.inReset ∧ (s.ignoreSighting).mgmt = s.mgmt ∧
      (s.ignoreSighting).table = s.table ∧ (s.ignoreSighting).sched = s.sched ∧ (s.ignoreSighting).store = s.store ∧
      (s.ignoreSighting).pacers = s.pacers ∧ (s.ignoreSighting).time = s.time ∧ (s.ignoreSighting).counters = s.counters ∧
      (s.ignoreSighting).ports = s.ports ∧ (s.ignoreSighting).link.lanes = s.link.lanes ∧
      (s.ignoreSighting).link.state = s.link.state ∧ (s.ignoreSighting).link.expected = s.link.expected ∧
      (s.ignoreSighting).link.lastGood = s.link.lastGood ∧ (s.ignoreSighting).link.established = s.link.established ∧
      (s.ignoreSighting).link.mismatch = s.link.mismatch ∧ (s.ignoreSighting).link.loss = s.link.loss ∧
      (s.ignoreSighting).link.openPacket = s.link.openPacket ∧ (s.ignoreSighting).link.egressFull = s.link.egressFull ∧
      (s.ignoreSighting).link.hold = s.link.hold ∧ (s.ignoreSighting).link.paused = s.link.paused ∧
      (s.ignoreSighting).link.control = s.link.control ∧ (s.ignoreSighting).link.stubs = s.link.stubs ∧
      (s.ignoreSighting).link.passList = s.link.passList ∧ (s.ignoreSighting).link.sending = s.link.sending ∧
      (s.ignoreSighting).link.discards = s.link.discards ∧ (s.ignoreSighting).link.stagingDrops = s.link.stagingDrops ∧
      (s.ignoreSighting).link.rejectedWords = s.link.rejectedWords ∧
      (s.ignoreSighting).link.returnLosses = s.link.returnLosses ∧ (s.ignoreSighting).choices = s.choices ∧
      (s.ignoreSighting).out = s.out ∧ (s.ignoreSighting).evThresholds = s.evThresholds := by
  unfold State.ignoreSighting
  try dsimp only
  (repeat' split) <;> first | (simp; done) | (refine ⟨?_,?_,?_,?_,?_,?_,?_,?_,?_,?_,?_,?_,?_,?_,?_,?_,?_,?_,?_,?_,?_,?_,?_,?_,?_,?_,?_,?_,?_,?_,?_,?_⟩ <;> first | rfl | (simp; done)) | simp_all

@[simp] theorem sightAgain_keeps (s : State) (a : Announcement) (e : Episode) :
    (s.sightAgain a e).pending = s.pending ∧ (s.sightAgain a e).inReset = s.inReset ∧
      (s.sightAgain a e).mgmt.replies = s.mgmt.replies ∧ (s.sightAgain a e).mgmt.engine = s.mgmt.engine ∧
      (s.sightAgain a e).mgmt.commands = s.mgmt.commands ∧ (s.sightAgain a e).mgmt.ready = s.mgmt.ready ∧
      (s.sightAgain a e).mgmt.framer = s.mgmt.framer ∧ (s.sightAgain a e).mgmt.sending = s.mgmt.sending ∧
      (s.sightAgain a e).mgmt.startCause = s.mgmt.startCause ∧ (s.sightAgain a e).mgmt.frameErrors = s.mgmt.frameErrors ∧
      (s.sightAgain a e).mgmt.busyCount = s.mgmt.busyCount ∧ (s.sightAgain a e).mgmt.owed = s.mgmt.owed ∧
      (s.sightAgain a e).mgmt.busyBacklog = s.mgmt.busyBacklog ∧
      (s.sightAgain a e).mgmt.pendingErrors = s.mgmt.pendingErrors ∧ (s.sightAgain a e).sched = s.sched ∧
      (s.sightAgain a e).store = s.store ∧ (s.sightAgain a e).pacers = s.pacers ∧ (s.sightAgain a e).time = s.time ∧
      (s.sightAgain a e).counters = s.counters ∧ (s.sightAgain a e).ports = s.ports ∧
      (s.sightAgain a e).link.lanes = s.link.lanes ∧ (s.sightAgain a e).link.state = s.link.state ∧
      (s.sightAgain a e).link.expected = s.link.expected ∧ (s.sightAgain a e).link.lastGood = s.link.lastGood ∧
      (s.sightAgain a e).link.established = s.link.established ∧ (s.sightAgain a e).link.mismatch = s.link.mismatch ∧
      (s.sightAgain a e).link.loss = s.link.loss ∧ (s.sightAgain a e).link.openPacket = s.link.openPacket ∧
      (s.sightAgain a e).link.egressFull = s.link.egressFull ∧ (s.sightAgain a e).link.hold = s.link.hold ∧
      (s.sightAgain a e).link.paused = s.link.paused ∧ (s.sightAgain a e).link.control = s.link.control ∧
      (s.sightAgain a e).link.stubs = s.link.stubs ∧ (s.sightAgain a e).link.passList = s.link.passList ∧
      (s.sightAgain a e).link.sending = s.link.sending ∧ (s.sightAgain a e).link.discards = s.link.discards ∧
      (s.sightAgain a e).link.stagingDrops = s.link.stagingDrops ∧
      (s.sightAgain a e).link.rejectedWords = s.link.rejectedWords ∧
      (s.sightAgain a e).link.returnLosses = s.link.returnLosses ∧ (s.sightAgain a e).choices = s.choices ∧
      (s.sightAgain a e).out = s.out ∧ (s.sightAgain a e).evThresholds = s.evThresholds := by
  unfold State.sightAgain
  try dsimp only
  (repeat' split) <;> first | (simp; done) | (refine ⟨?_,?_,?_,?_,?_,?_,?_,?_,?_,?_,?_,?_,?_,?_,?_,?_,?_,?_,?_,?_,?_,?_,?_,?_,?_,?_,?_,?_,?_,?_,?_,?_,?_,?_,?_,?_,?_,?_,?_,?_,?_,?_⟩ <;> first | rfl | (simp; done)) | simp_all

@[simp] theorem takeSighting_keeps (s : State) (a : Announcement) :
    (s.takeSighting a).pending = s.pending ∧ (s.takeSighting a).inReset = s.inReset ∧
      (s.takeSighting a).mgmt.replies = s.mgmt.replies ∧ (s.takeSighting a).mgmt.engine = s.mgmt.engine ∧
      (s.takeSighting a).mgmt.commands = s.mgmt.commands ∧ (s.takeSighting a).mgmt.ready = s.mgmt.ready ∧
      (s.takeSighting a).mgmt.framer = s.mgmt.framer ∧ (s.takeSighting a).mgmt.sending = s.mgmt.sending ∧
      (s.takeSighting a).mgmt.startCause = s.mgmt.startCause ∧ (s.takeSighting a).mgmt.frameErrors = s.mgmt.frameErrors ∧
      (s.takeSighting a).mgmt.busyCount = s.mgmt.busyCount ∧ (s.takeSighting a).mgmt.owed = s.mgmt.owed ∧
      (s.takeSighting a).mgmt.busyBacklog = s.mgmt.busyBacklog ∧
      (s.takeSighting a).mgmt.pendingErrors = s.mgmt.pendingErrors ∧ (s.takeSighting a).sched = s.sched ∧
      (s.takeSighting a).store = s.store ∧ (s.takeSighting a).pacers = s.pacers ∧ (s.takeSighting a).time = s.time ∧
      (s.takeSighting a).counters = s.counters ∧ (s.takeSighting a).ports = s.ports ∧
      (s.takeSighting a).link.lanes = s.link.lanes ∧ (s.takeSighting a).link.state = s.link.state ∧
      (s.takeSighting a).link.expected = s.link.expected ∧ (s.takeSighting a).link.lastGood = s.link.lastGood ∧
      (s.takeSighting a).link.established = s.link.established ∧ (s.takeSighting a).link.mismatch = s.link.mismatch ∧
      (s.takeSighting a).link.loss = s.link.loss ∧ (s.takeSighting a).link.openPacket = s.link.openPacket ∧
      (s.takeSighting a).link.egressFull = s.link.egressFull ∧ (s.takeSighting a).link.hold = s.link.hold ∧
      (s.takeSighting a).link.paused = s.link.paused ∧ (s.takeSighting a).link.control = s.link.control ∧
      (s.takeSighting a).link.stubs = s.link.stubs ∧ (s.takeSighting a).link.passList = s.link.passList ∧
      (s.takeSighting a).link.sending = s.link.sending ∧ (s.takeSighting a).link.discards = s.link.discards ∧
      (s.takeSighting a).link.stagingDrops = s.link.stagingDrops ∧
      (s.takeSighting a).link.rejectedWords = s.link.rejectedWords ∧
      (s.takeSighting a).link.returnLosses = s.link.returnLosses ∧ (s.takeSighting a).choices = s.choices ∧
      (s.takeSighting a).out = s.out ∧ (s.takeSighting a).evThresholds = s.evThresholds := by
  unfold State.takeSighting
  try dsimp only
  (repeat' split) <;> first | (simp; done) | (refine ⟨?_,?_,?_,?_,?_,?_,?_,?_,?_,?_,?_,?_,?_,?_,?_,?_,?_,?_,?_,?_,?_,?_,?_,?_,?_,?_,?_,?_,?_,?_,?_,?_,?_,?_,?_,?_,?_,?_,?_,?_,?_,?_⟩ <;> first | rfl | (simp; done)) | simp_all

@[simp] theorem joinWriteList_keeps (s : State) (e : Episode) (a : Arrival) (kind : HoldKind) :
    (s.joinWriteList e a kind).pending = s.pending ∧ (s.joinWriteList e a kind).inReset = s.inReset ∧
      (s.joinWriteList e a kind).mgmt = s.mgmt ∧ (s.joinWriteList e a kind).table = s.table ∧
      (s.joinWriteList e a kind).sched = s.sched ∧ (s.joinWriteList e a kind).store.floor = s.store.floor ∧
      (s.joinWriteList e a kind).store.initialising = s.store.initialising ∧
      (s.joinWriteList e a kind).store.corrected = s.store.corrected ∧
      (s.joinWriteList e a kind).store.transfer = s.store.transfer ∧
      (s.joinWriteList e a kind).store.releases = s.store.releases ∧
      (s.joinWriteList e a kind).store.released = s.store.released ∧ (s.joinWriteList e a kind).pacers = s.pacers ∧
      (s.joinWriteList e a kind).time = s.time ∧ (s.joinWriteList e a kind).counters = s.counters ∧
      (s.joinWriteList e a kind).ports = s.ports ∧ (s.joinWriteList e a kind).link = s.link ∧
      (s.joinWriteList e a kind).choices = s.choices ∧ (s.joinWriteList e a kind).out = s.out ∧
      (s.joinWriteList e a kind).evThresholds = s.evThresholds := by
  unfold State.joinWriteList
  try dsimp only
  (repeat' split) <;> first | (simp; done) | (refine ⟨?_,?_,?_,?_,?_,?_,?_,?_,?_,?_,?_,?_,?_,?_,?_,?_,?_,?_,?_⟩ <;> first | rfl | (simp; done)) | simp_all

@[simp] theorem holdOwn_keeps (s : State) (slot : Nat) (a : Arrival) :
    (s.holdOwn slot a).pending = s.pending ∧ (s.holdOwn slot a).inReset = s.inReset ∧ (s.holdOwn slot a).mgmt = s.mgmt ∧
      (s.holdOwn slot a).table.generations = s.table.generations ∧ (s.holdOwn slot a).table.refusing = s.table.refusing ∧
      (s.holdOwn slot a).sched = s.sched ∧ (s.holdOwn slot a).store.floor = s.store.floor ∧
      (s.holdOwn slot a).store.initialising = s.store.initialising ∧
      (s.holdOwn slot a).store.corrected = s.store.corrected ∧ (s.holdOwn slot a).store.transfer = s.store.transfer ∧
      (s.holdOwn slot a).store.releases = s.store.releases ∧ (s.holdOwn slot a).store.released = s.store.released ∧
      (s.holdOwn slot a).pacers = s.pacers ∧ (s.holdOwn slot a).time = s.time ∧ (s.holdOwn slot a).counters = s.counters ∧
      (s.holdOwn slot a).ports = s.ports ∧ (s.holdOwn slot a).link = s.link ∧ (s.holdOwn slot a).choices = s.choices ∧
      (s.holdOwn slot a).out = s.out ∧ (s.holdOwn slot a).evThresholds = s.evThresholds := by
  unfold State.holdOwn
  try dsimp only
  (repeat' split) <;> first | (simp; done) | (refine ⟨?_,?_,?_,?_,?_,?_,?_,?_,?_,?_,?_,?_,?_,?_,?_,?_,?_,?_,?_,?_⟩ <;> first | rfl | (simp; done)) | simp_all

@[simp] theorem makeStub_keeps (s : State) (e : Episode) (a : Arrival) :
    (s.makeStub e a).pending = s.pending ∧ (s.makeStub e a).inReset = s.inReset ∧ (s.makeStub e a).mgmt = s.mgmt ∧
      (s.makeStub e a).table = s.table ∧ (s.makeStub e a).sched = s.sched ∧ (s.makeStub e a).store = s.store ∧
      (s.makeStub e a).pacers = s.pacers ∧ (s.makeStub e a).time = s.time ∧ (s.makeStub e a).counters = s.counters ∧
      (s.makeStub e a).ports = s.ports ∧ (s.makeStub e a).link.lanes = s.link.lanes ∧
      (s.makeStub e a).link.state = s.link.state ∧ (s.makeStub e a).link.expected = s.link.expected ∧
      (s.makeStub e a).link.lastGood = s.link.lastGood ∧ (s.makeStub e a).link.established = s.link.established ∧
      (s.makeStub e a).link.mismatch = s.link.mismatch ∧ (s.makeStub e a).link.loss = s.link.loss ∧
      (s.makeStub e a).link.openPacket = s.link.openPacket ∧ (s.makeStub e a).link.egressFull = s.link.egressFull ∧
      (s.makeStub e a).link.hold = s.link.hold ∧ (s.makeStub e a).link.paused = s.link.paused ∧
      (s.makeStub e a).link.control = s.link.control ∧ (s.makeStub e a).link.passList = s.link.passList ∧
      (s.makeStub e a).link.sending = s.link.sending ∧ (s.makeStub e a).link.discards = s.link.discards ∧
      (s.makeStub e a).link.stagingDrops = s.link.stagingDrops ∧
      (s.makeStub e a).link.ignoredSightings = s.link.ignoredSightings ∧
      (s.makeStub e a).link.rejectedWords = s.link.rejectedWords ∧
      (s.makeStub e a).link.returnLosses = s.link.returnLosses ∧ (s.makeStub e a).choices = s.choices ∧
      (s.makeStub e a).out = s.out ∧ (s.makeStub e a).evThresholds = s.evThresholds := by
  unfold State.makeStub
  try dsimp only
  (repeat' split) <;> first | (simp; done) | (refine ⟨?_,?_,?_,?_,?_,?_,?_,?_,?_,?_,?_,?_,?_,?_,?_,?_,?_,?_,?_,?_,?_,?_,?_,?_,?_,?_,?_,?_,?_,?_,?_,?_⟩ <;> first | rfl | (simp; done)) | simp_all

@[simp] theorem trim_keeps (s : State) (slot : Nat) (a : Arrival) (listed : Bool) :
    (s.trim slot a listed).pending = s.pending ∧ (s.trim slot a listed).inReset = s.inReset ∧
      (s.trim slot a listed).mgmt.replies = s.mgmt.replies ∧ (s.trim slot a listed).mgmt.engine = s.mgmt.engine ∧
      (s.trim slot a listed).mgmt.commands = s.mgmt.commands ∧ (s.trim slot a listed).mgmt.ready = s.mgmt.ready ∧
      (s.trim slot a listed).mgmt.framer = s.mgmt.framer ∧ (s.trim slot a listed).mgmt.sending = s.mgmt.sending ∧
      (s.trim slot a listed).mgmt.startCause = s.mgmt.startCause ∧
      (s.trim slot a listed).mgmt.frameErrors = s.mgmt.frameErrors ∧
      (s.trim slot a listed).mgmt.busyCount = s.mgmt.busyCount ∧ (s.trim slot a listed).mgmt.owed = s.mgmt.owed ∧
      (s.trim slot a listed).mgmt.busyBacklog = s.mgmt.busyBacklog ∧
      (s.trim slot a listed).mgmt.pendingErrors = s.mgmt.pendingErrors ∧
      (s.trim slot a listed).table.generations = s.table.generations ∧
      (s.trim slot a listed).table.refusing = s.table.refusing ∧ (s.trim slot a listed).store = s.store ∧
      (s.trim slot a listed).pacers = s.pacers ∧ (s.trim slot a listed).time = s.time ∧
      (s.trim slot a listed).counters.threshold = s.counters.threshold ∧ (s.trim slot a listed).link.lanes = s.link.lanes ∧
      (s.trim slot a listed).link.state = s.link.state ∧ (s.trim slot a listed).link.expected = s.link.expected ∧
      (s.trim slot a listed).link.lastGood = s.link.lastGood ∧
      (s.trim slot a listed).link.established = s.link.established ∧
      (s.trim slot a listed).link.mismatch = s.link.mismatch ∧ (s.trim slot a listed).link.loss = s.link.loss ∧
      (s.trim slot a listed).link.openPacket = s.link.openPacket ∧
      (s.trim slot a listed).link.egressFull = s.link.egressFull ∧ (s.trim slot a listed).link.hold = s.link.hold ∧
      (s.trim slot a listed).link.passList = s.link.passList ∧ (s.trim slot a listed).link.sending = s.link.sending ∧
      (s.trim slot a listed).link.discards = s.link.discards ∧
      (s.trim slot a listed).link.stagingDrops = s.link.stagingDrops ∧
      (s.trim slot a listed).link.ignoredSightings = s.link.ignoredSightings ∧
      (s.trim slot a listed).link.rejectedWords = s.link.rejectedWords ∧
      (s.trim slot a listed).link.returnLosses = s.link.returnLosses ∧ (s.trim slot a listed).choices = s.choices := by
  unfold State.trim
  try dsimp only
  (repeat' split) <;> first | (simp; done) | (refine ⟨?_,?_,?_,?_,?_,?_,?_,?_,?_,?_,?_,?_,?_,?_,?_,?_,?_,?_,?_,?_,?_,?_,?_,?_,?_,?_,?_,?_,?_,?_,?_,?_,?_,?_,?_,?_,?_,?_⟩ <;> first | rfl | (simp; done)) | simp_all

@[simp] theorem borrowOrTrim_keeps (s : State) (slot : Nat) (a : Arrival) (listed : Bool) :
    (s.borrowOrTrim slot a listed).pending = s.pending ∧ (s.borrowOrTrim slot a listed).inReset = s.inReset ∧
      (s.borrowOrTrim slot a listed).mgmt.replies = s.mgmt.replies ∧
      (s.borrowOrTrim slot a listed).mgmt.engine = s.mgmt.engine ∧
      (s.borrowOrTrim slot a listed).mgmt.commands = s.mgmt.commands ∧
      (s.borrowOrTrim slot a listed).mgmt.ready = s.mgmt.ready ∧
      (s.borrowOrTrim slot a listed).mgmt.framer = s.mgmt.framer ∧
      (s.borrowOrTrim slot a listed).mgmt.sending = s.mgmt.sending ∧
      (s.borrowOrTrim slot a listed).mgmt.startCause = s.mgmt.startCause ∧
      (s.borrowOrTrim slot a listed).mgmt.frameErrors = s.mgmt.frameErrors ∧
      (s.borrowOrTrim slot a listed).mgmt.busyCount = s.mgmt.busyCount ∧
      (s.borrowOrTrim slot a listed).mgmt.owed = s.mgmt.owed ∧
      (s.borrowOrTrim slot a listed).mgmt.busyBacklog = s.mgmt.busyBacklog ∧
      (s.borrowOrTrim slot a listed).mgmt.pendingErrors = s.mgmt.pendingErrors ∧
      (s.borrowOrTrim slot a listed).table.generations = s.table.generations ∧
      (s.borrowOrTrim slot a listed).table.refusing = s.table.refusing ∧
      (s.borrowOrTrim slot a listed).store.floor = s.store.floor ∧
      (s.borrowOrTrim slot a listed).store.initialising = s.store.initialising ∧
      (s.borrowOrTrim slot a listed).store.corrected = s.store.corrected ∧
      (s.borrowOrTrim slot a listed).store.transfer = s.store.transfer ∧
      (s.borrowOrTrim slot a listed).store.releases = s.store.releases ∧
      (s.borrowOrTrim slot a listed).store.released = s.store.released ∧ (s.borrowOrTrim slot a listed).pacers = s.pacers ∧
      (s.borrowOrTrim slot a listed).time = s.time ∧
      (s.borrowOrTrim slot a listed).counters.threshold = s.counters.threshold ∧
      (s.borrowOrTrim slot a listed).link.lanes = s.link.lanes ∧ (s.borrowOrTrim slot a listed).link.state = s.link.state ∧
      (s.borrowOrTrim slot a listed).link.expected = s.link.expected ∧
      (s.borrowOrTrim slot a listed).link.lastGood = s.link.lastGood ∧
      (s.borrowOrTrim slot a listed).link.established = s.link.established ∧
      (s.borrowOrTrim slot a listed).link.mismatch = s.link.mismatch ∧
      (s.borrowOrTrim slot a listed).link.loss = s.link.loss ∧
      (s.borrowOrTrim slot a listed).link.openPacket = s.link.openPacket ∧
      (s.borrowOrTrim slot a listed).link.egressFull = s.link.egressFull ∧
      (s.borrowOrTrim slot a listed).link.hold = s.link.hold ∧
      (s.borrowOrTrim slot a listed).link.passList = s.link.passList ∧
      (s.borrowOrTrim slot a listed).link.sending = s.link.sending ∧
      (s.borrowOrTrim slot a listed).link.discards = s.link.discards ∧
      (s.borrowOrTrim slot a listed).link.stagingDrops = s.link.stagingDrops ∧
      (s.borrowOrTrim slot a listed).link.ignoredSightings = s.link.ignoredSightings ∧
      (s.borrowOrTrim slot a listed).link.rejectedWords = s.link.rejectedWords ∧
      (s.borrowOrTrim slot a listed).link.returnLosses = s.link.returnLosses ∧
      (s.borrowOrTrim slot a listed).choices = s.choices := by
  unfold State.borrowOrTrim
  try dsimp only
  (repeat' split) <;> first | (simp; done) | (refine ⟨?_,?_,?_,?_,?_,?_,?_,?_,?_,?_,?_,?_,?_,?_,?_,?_,?_,?_,?_,?_,?_,?_,?_,?_,?_,?_,?_,?_,?_,?_,?_,?_,?_,?_,?_,?_,?_,?_,?_,?_,?_,?_,?_⟩ <;> first | rfl | (simp; done)) | simp_all

@[simp] theorem enter_keeps (s : State) (slot : Nat) (a : Arrival) :
    (s.enter slot a).pending = s.pending ∧ (s.enter slot a).inReset = s.inReset ∧ (s.enter slot a).mgmt = s.mgmt ∧
      (s.enter slot a).table.generations = s.table.generations ∧ (s.enter slot a).table.refusing = s.table.refusing ∧
      (s.enter slot a).store = s.store ∧ (s.enter slot a).pacers = s.pacers ∧ (s.enter slot a).time = s.time ∧
      (s.enter slot a).counters = s.counters ∧ (s.enter slot a).ports = s.ports ∧ (s.enter slot a).link = s.link ∧
      (s.enter slot a).choices = s.choices ∧ (s.enter slot a).out = s.out ∧
      (s.enter slot a).evThresholds = s.evThresholds := by
  unfold State.enter
  try dsimp only
  (repeat' split) <;> first | (simp; done) | (refine ⟨?_,?_,?_,?_,?_,?_,?_,?_,?_,?_,?_,?_,?_,?_⟩ <;> first | rfl | (simp; done)) | simp_all

@[simp] theorem judgeAndHold_keeps (s : State) (slot : Nat) (a : Arrival) (r : Responder) :
    (s.judgeAndHold slot a r).pending = s.pending ∧ (s.judgeAndHold slot a r).inReset = s.inReset ∧
      (s.judgeAndHold slot a r).mgmt.replies = s.mgmt.replies ∧ (s.judgeAndHold slot a r).mgmt.engine = s.mgmt.engine ∧
      (s.judgeAndHold slot a r).mgmt.commands = s.mgmt.commands ∧ (s.judgeAndHold slot a r).mgmt.ready = s.mgmt.ready ∧
      (s.judgeAndHold slot a r).mgmt.framer = s.mgmt.framer ∧ (s.judgeAndHold slot a r).mgmt.sending = s.mgmt.sending ∧
      (s.judgeAndHold slot a r).mgmt.startCause = s.mgmt.startCause ∧
      (s.judgeAndHold slot a r).mgmt.frameErrors = s.mgmt.frameErrors ∧
      (s.judgeAndHold slot a r).mgmt.busyCount = s.mgmt.busyCount ∧ (s.judgeAndHold slot a r).mgmt.owed = s.mgmt.owed ∧
      (s.judgeAndHold slot a r).mgmt.busyBacklog = s.mgmt.busyBacklog ∧
      (s.judgeAndHold slot a r).mgmt.pendingErrors = s.mgmt.pendingErrors ∧
      (s.judgeAndHold slot a r).table.generations = s.table.generations ∧
      (s.judgeAndHold slot a r).table.refusing = s.table.refusing ∧ (s.judgeAndHold slot a r).store.floor = s.store.floor ∧
      (s.judgeAndHold slot a r).store.initialising = s.store.initialising ∧
      (s.judgeAndHold slot a r).store.corrected = s.store.corrected ∧
      (s.judgeAndHold slot a r).store.transfer = s.store.transfer ∧
      (s.judgeAndHold slot a r).store.releases = s.store.releases ∧
      (s.judgeAndHold slot a r).store.released = s.store.released ∧ (s.judgeAndHold slot a r).pacers = s.pacers ∧
      (s.judgeAndHold slot a r).time = s.time ∧ (s.judgeAndHold slot a r).counters.threshold = s.counters.threshold ∧
      (s.judgeAndHold slot a r).link.lanes = s.link.lanes ∧ (s.judgeAndHold slot a r).link.state = s.link.state ∧
      (s.judgeAndHold slot a r).link.expected = s.link.expected ∧
      (s.judgeAndHold slot a r).link.lastGood = s.link.lastGood ∧
      (s.judgeAndHold slot a r).link.established = s.link.established ∧
      (s.judgeAndHold slot a r).link.mismatch = s.link.mismatch ∧ (s.judgeAndHold slot a r).link.loss = s.link.loss ∧
      (s.judgeAndHold slot a r).link.openPacket = s.link.openPacket ∧
      (s.judgeAndHold slot a r).link.egressFull = s.link.egressFull ∧ (s.judgeAndHold slot a r).link.hold = s.link.hold ∧
      (s.judgeAndHold slot a r).link.passList = s.link.passList ∧ (s.judgeAndHold slot a r).link.sending = s.link.sending ∧
      (s.judgeAndHold slot a r).link.discards = s.link.discards ∧
      (s.judgeAndHold slot a r).link.stagingDrops = s.link.stagingDrops ∧
      (s.judgeAndHold slot a r).link.ignoredSightings = s.link.ignoredSightings ∧
      (s.judgeAndHold slot a r).link.rejectedWords = s.link.rejectedWords ∧
      (s.judgeAndHold slot a r).link.returnLosses = s.link.returnLosses ∧ (s.judgeAndHold slot a r).choices = s.choices := by
  unfold State.judgeAndHold
  try dsimp only
  (repeat' split) <;> first | (simp; done) | (refine ⟨?_,?_,?_,?_,?_,?_,?_,?_,?_,?_,?_,?_,?_,?_,?_,?_,?_,?_,?_,?_,?_,?_,?_,?_,?_,?_,?_,?_,?_,?_,?_,?_,?_,?_,?_,?_,?_,?_,?_,?_,?_,?_,?_⟩ <;> first | rfl | (simp; done)) | simp_all

@[simp] theorem applyLast_keeps (s : State) (slot : Nat) (a : Arrival) (r : Responder) :
    (s.applyLast slot a r).pending = s.pending ∧ (s.applyLast slot a r).inReset = s.inReset ∧
      (s.applyLast slot a r).mgmt = s.mgmt ∧ (s.applyLast slot a r).table.generations = s.table.generations ∧
      (s.applyLast slot a r).table.refusing = s.table.refusing ∧ (s.applyLast slot a r).sched = s.sched ∧
      (s.applyLast slot a r).store = s.store ∧ (s.applyLast slot a r).pacers = s.pacers ∧
      (s.applyLast slot a r).time = s.time ∧ (s.applyLast slot a r).counters = s.counters ∧
      (s.applyLast slot a r).ports = s.ports ∧ (s.applyLast slot a r).link = s.link ∧
      (s.applyLast slot a r).choices = s.choices ∧ (s.applyLast slot a r).out = s.out ∧
      (s.applyLast slot a r).evThresholds = s.evThresholds := by
  unfold State.applyLast
  try dsimp only
  (repeat' split) <;> first | (simp; done) | (refine ⟨?_,?_,?_,?_,?_,?_,?_,?_,?_,?_,?_,?_,?_,?_,?_⟩ <;> first | rfl | (simp; done)) | simp_all

@[simp] theorem arriveSighted_keeps (s : State) (slot : Nat) (a : Arrival) :
    (s.arriveSighted slot a).pending = s.pending ∧ (s.arriveSighted slot a).inReset = s.inReset ∧
      (s.arriveSighted slot a).mgmt.replies = s.mgmt.replies ∧ (s.arriveSighted slot a).mgmt.engine = s.mgmt.engine ∧
      (s.arriveSighted slot a).mgmt.commands = s.mgmt.commands ∧ (s.arriveSighted slot a).mgmt.ready = s.mgmt.ready ∧
      (s.arriveSighted slot a).mgmt.framer = s.mgmt.framer ∧ (s.arriveSighted slot a).mgmt.sending = s.mgmt.sending ∧
      (s.arriveSighted slot a).mgmt.startCause = s.mgmt.startCause ∧
      (s.arriveSighted slot a).mgmt.frameErrors = s.mgmt.frameErrors ∧
      (s.arriveSighted slot a).mgmt.busyCount = s.mgmt.busyCount ∧ (s.arriveSighted slot a).mgmt.owed = s.mgmt.owed ∧
      (s.arriveSighted slot a).mgmt.busyBacklog = s.mgmt.busyBacklog ∧
      (s.arriveSighted slot a).mgmt.pendingErrors = s.mgmt.pendingErrors ∧
      (s.arriveSighted slot a).table.generations = s.table.generations ∧
      (s.arriveSighted slot a).table.refusing = s.table.refusing ∧ (s.arriveSighted slot a).store.floor = s.store.floor ∧
      (s.arriveSighted slot a).store.initialising = s.store.initialising ∧
      (s.arriveSighted slot a).store.corrected = s.store.corrected ∧
      (s.arriveSighted slot a).store.transfer = s.store.transfer ∧
      (s.arriveSighted slot a).store.releases = s.store.releases ∧
      (s.arriveSighted slot a).store.released = s.store.released ∧ (s.arriveSighted slot a).time = s.time ∧
      (s.arriveSighted slot a).counters.threshold = s.counters.threshold ∧
      (s.arriveSighted slot a).link.lanes = s.link.lanes ∧ (s.arriveSighted slot a).link.state = s.link.state ∧
      (s.arriveSighted slot a).link.expected = s.link.expected ∧ (s.arriveSighted slot a).link.lastGood = s.link.lastGood ∧
      (s.arriveSighted slot a).link.established = s.link.established ∧
      (s.arriveSighted slot a).link.mismatch = s.link.mismatch ∧ (s.arriveSighted slot a).link.loss = s.link.loss ∧
      (s.arriveSighted slot a).link.openPacket = s.link.openPacket ∧
      (s.arriveSighted slot a).link.egressFull = s.link.egressFull ∧ (s.arriveSighted slot a).link.hold = s.link.hold ∧
      (s.arriveSighted slot a).link.passList = s.link.passList ∧ (s.arriveSighted slot a).link.sending = s.link.sending ∧
      (s.arriveSighted slot a).link.discards = s.link.discards ∧
      (s.arriveSighted slot a).link.stagingDrops = s.link.stagingDrops ∧
      (s.arriveSighted slot a).link.ignoredSightings = s.link.ignoredSightings ∧
      (s.arriveSighted slot a).link.rejectedWords = s.link.rejectedWords ∧
      (s.arriveSighted slot a).link.returnLosses = s.link.returnLosses ∧ (s.arriveSighted slot a).choices = s.choices := by
  unfold State.arriveSighted
  try dsimp only
  (repeat' split) <;> first | (simp; done) | (refine ⟨?_,?_,?_,?_,?_,?_,?_,?_,?_,?_,?_,?_,?_,?_,?_,?_,?_,?_,?_,?_,?_,?_,?_,?_,?_,?_,?_,?_,?_,?_,?_,?_,?_,?_,?_,?_,?_,?_,?_,?_,?_,?_⟩ <;> first | rfl | (simp; done)) | simp_all

@[simp] theorem arriveAdopted_keeps (s : State) (slot : Nat) (a : Arrival) :
    (s.arriveAdopted slot a).pending = s.pending ∧ (s.arriveAdopted slot a).inReset = s.inReset ∧
      (s.arriveAdopted slot a).mgmt.replies = s.mgmt.replies ∧ (s.arriveAdopted slot a).mgmt.engine = s.mgmt.engine ∧
      (s.arriveAdopted slot a).mgmt.commands = s.mgmt.commands ∧ (s.arriveAdopted slot a).mgmt.ready = s.mgmt.ready ∧
      (s.arriveAdopted slot a).mgmt.framer = s.mgmt.framer ∧ (s.arriveAdopted slot a).mgmt.sending = s.mgmt.sending ∧
      (s.arriveAdopted slot a).mgmt.startCause = s.mgmt.startCause ∧
      (s.arriveAdopted slot a).mgmt.frameErrors = s.mgmt.frameErrors ∧
      (s.arriveAdopted slot a).mgmt.busyCount = s.mgmt.busyCount ∧ (s.arriveAdopted slot a).mgmt.owed = s.mgmt.owed ∧
      (s.arriveAdopted slot a).mgmt.busyBacklog = s.mgmt.busyBacklog ∧
      (s.arriveAdopted slot a).mgmt.pendingErrors = s.mgmt.pendingErrors ∧
      (s.arriveAdopted slot a).table.generations = s.table.generations ∧
      (s.arriveAdopted slot a).table.refusing = s.table.refusing ∧ (s.arriveAdopted slot a).store.floor = s.store.floor ∧
      (s.arriveAdopted slot a).store.initialising = s.store.initialising ∧
      (s.arriveAdopted slot a).store.corrected = s.store.corrected ∧
      (s.arriveAdopted slot a).store.transfer = s.store.transfer ∧
      (s.arriveAdopted slot a).store.releases = s.store.releases ∧
      (s.arriveAdopted slot a).store.released = s.store.released ∧ (s.arriveAdopted slot a).pacers = s.pacers ∧
      (s.arriveAdopted slot a).time = s.time ∧ (s.arriveAdopted slot a).counters.threshold = s.counters.threshold ∧
      (s.arriveAdopted slot a).link.lanes = s.link.lanes ∧ (s.arriveAdopted slot a).link.state = s.link.state ∧
      (s.arriveAdopted slot a).link.expected = s.link.expected ∧ (s.arriveAdopted slot a).link.lastGood = s.link.lastGood ∧
      (s.arriveAdopted slot a).link.established = s.link.established ∧
      (s.arriveAdopted slot a).link.mismatch = s.link.mismatch ∧ (s.arriveAdopted slot a).link.loss = s.link.loss ∧
      (s.arriveAdopted slot a).link.openPacket = s.link.openPacket ∧
      (s.arriveAdopted slot a).link.egressFull = s.link.egressFull ∧ (s.arriveAdopted slot a).link.hold = s.link.hold ∧
      (s.arriveAdopted slot a).link.passList = s.link.passList ∧ (s.arriveAdopted slot a).link.sending = s.link.sending ∧
      (s.arriveAdopted slot a).link.discards = s.link.discards ∧
      (s.arriveAdopted slot a).link.stagingDrops = s.link.stagingDrops ∧
      (s.arriveAdopted slot a).link.ignoredSightings = s.link.ignoredSightings ∧
      (s.arriveAdopted slot a).link.rejectedWords = s.link.rejectedWords ∧
      (s.arriveAdopted slot a).link.returnLosses = s.link.returnLosses ∧ (s.arriveAdopted slot a).choices = s.choices := by
  unfold State.arriveAdopted
  try dsimp only
  (repeat' split) <;> first | (simp; done) | (refine ⟨?_,?_,?_,?_,?_,?_,?_,?_,?_,?_,?_,?_,?_,?_,?_,?_,?_,?_,?_,?_,?_,?_,?_,?_,?_,?_,?_,?_,?_,?_,?_,?_,?_,?_,?_,?_,?_,?_,?_,?_,?_,?_,?_⟩ <;> first | rfl | (simp; done)) | simp_all

@[simp] theorem arriveDraining_keeps (s : State) (slot : Nat) (a : Arrival) :
    (s.arriveDraining slot a).pending = s.pending ∧ (s.arriveDraining slot a).inReset = s.inReset ∧
      (s.arriveDraining slot a).mgmt.replies = s.mgmt.replies ∧ (s.arriveDraining slot a).mgmt.engine = s.mgmt.engine ∧
      (s.arriveDraining slot a).mgmt.commands = s.mgmt.commands ∧ (s.arriveDraining slot a).mgmt.ready = s.mgmt.ready ∧
      (s.arriveDraining slot a).mgmt.framer = s.mgmt.framer ∧ (s.arriveDraining slot a).mgmt.sending = s.mgmt.sending ∧
      (s.arriveDraining slot a).mgmt.startCause = s.mgmt.startCause ∧
      (s.arriveDraining slot a).mgmt.frameErrors = s.mgmt.frameErrors ∧
      (s.arriveDraining slot a).mgmt.busyCount = s.mgmt.busyCount ∧ (s.arriveDraining slot a).mgmt.owed = s.mgmt.owed ∧
      (s.arriveDraining slot a).mgmt.busyBacklog = s.mgmt.busyBacklog ∧
      (s.arriveDraining slot a).mgmt.pendingErrors = s.mgmt.pendingErrors ∧
      (s.arriveDraining slot a).table.generations = s.table.generations ∧
      (s.arriveDraining slot a).table.refusing = s.table.refusing ∧ (s.arriveDraining slot a).store.floor = s.store.floor ∧
      (s.arriveDraining slot a).store.initialising = s.store.initialising ∧
      (s.arriveDraining slot a).store.corrected = s.store.corrected ∧
      (s.arriveDraining slot a).store.transfer = s.store.transfer ∧
      (s.arriveDraining slot a).store.releases = s.store.releases ∧
      (s.arriveDraining slot a).store.released = s.store.released ∧ (s.arriveDraining slot a).pacers = s.pacers ∧
      (s.arriveDraining slot a).time = s.time ∧ (s.arriveDraining slot a).counters.threshold = s.counters.threshold ∧
      (s.arriveDraining slot a).link.lanes = s.link.lanes ∧ (s.arriveDraining slot a).link.state = s.link.state ∧
      (s.arriveDraining slot a).link.expected = s.link.expected ∧
      (s.arriveDraining slot a).link.lastGood = s.link.lastGood ∧
      (s.arriveDraining slot a).link.established = s.link.established ∧
      (s.arriveDraining slot a).link.mismatch = s.link.mismatch ∧ (s.arriveDraining slot a).link.loss = s.link.loss ∧
      (s.arriveDraining slot a).link.openPacket = s.link.openPacket ∧
      (s.arriveDraining slot a).link.egressFull = s.link.egressFull ∧ (s.arriveDraining slot a).link.hold = s.link.hold ∧
      (s.arriveDraining slot a).link.passList = s.link.passList ∧ (s.arriveDraining slot a).link.sending = s.link.sending ∧
      (s.arriveDraining slot a).link.discards = s.link.discards ∧
      (s.arriveDraining slot a).link.stagingDrops = s.link.stagingDrops ∧
      (s.arriveDraining slot a).link.ignoredSightings = s.link.ignoredSightings ∧
      (s.arriveDraining slot a).link.rejectedWords = s.link.rejectedWords ∧
      (s.arriveDraining slot a).link.returnLosses = s.link.returnLosses ∧ (s.arriveDraining slot a).choices = s.choices := by
  unfold State.arriveDraining
  try dsimp only
  (repeat' split) <;> first | (simp; done) | (refine ⟨?_,?_,?_,?_,?_,?_,?_,?_,?_,?_,?_,?_,?_,?_,?_,?_,?_,?_,?_,?_,?_,?_,?_,?_,?_,?_,?_,?_,?_,?_,?_,?_,?_,?_,?_,?_,?_,?_,?_,?_,?_,?_,?_⟩ <;> first | rfl | (simp; done)) | simp_all

@[simp] theorem passThrough_keeps (s : State) (a : Arrival) :
    (s.passThrough a).pending = s.pending ∧ (s.passThrough a).inReset = s.inReset ∧ (s.passThrough a).mgmt = s.mgmt ∧
      (s.passThrough a).table = s.table ∧ (s.passThrough a).sched = s.sched ∧ (s.passThrough a).store = s.store ∧
      (s.passThrough a).pacers = s.pacers ∧ (s.passThrough a).time = s.time ∧ (s.passThrough a).counters = s.counters ∧
      (s.passThrough a).ports = s.ports ∧ (s.passThrough a).link.lanes = s.link.lanes ∧
      (s.passThrough a).link.state = s.link.state ∧ (s.passThrough a).link.expected = s.link.expected ∧
      (s.passThrough a).link.lastGood = s.link.lastGood ∧ (s.passThrough a).link.established = s.link.established ∧
      (s.passThrough a).link.mismatch = s.link.mismatch ∧ (s.passThrough a).link.loss = s.link.loss ∧
      (s.passThrough a).link.openPacket = s.link.openPacket ∧ (s.passThrough a).link.egressFull = s.link.egressFull ∧
      (s.passThrough a).link.hold = s.link.hold ∧ (s.passThrough a).link.paused = s.link.paused ∧
      (s.passThrough a).link.control = s.link.control ∧ (s.passThrough a).link.stubs = s.link.stubs ∧
      (s.passThrough a).link.sending = s.link.sending ∧ (s.passThrough a).link.discards = s.link.discards ∧
      (s.passThrough a).link.stagingDrops = s.link.stagingDrops ∧
      (s.passThrough a).link.ignoredSightings = s.link.ignoredSightings ∧
      (s.passThrough a).link.rejectedWords = s.link.rejectedWords ∧
      (s.passThrough a).link.returnLosses = s.link.returnLosses ∧ (s.passThrough a).choices = s.choices ∧
      (s.passThrough a).out = s.out ∧ (s.passThrough a).evThresholds = s.evThresholds := by
  unfold State.passThrough
  try dsimp only
  (repeat' split) <;> first | (simp; done) | (refine ⟨?_,?_,?_,?_,?_,?_,?_,?_,?_,?_,?_,?_,?_,?_,?_,?_,?_,?_,?_,?_,?_,?_,?_,?_,?_,?_,?_,?_,?_,?_,?_,?_⟩ <;> first | rfl | (simp; done)) | simp_all

@[simp] theorem arriveUnmatched_keeps (s : State) (a : Arrival) :
    (s.arriveUnmatched a).pending = s.pending ∧ (s.arriveUnmatched a).inReset = s.inReset ∧
      (s.arriveUnmatched a).mgmt.replies = s.mgmt.replies ∧ (s.arriveUnmatched a).mgmt.engine = s.mgmt.engine ∧
      (s.arriveUnmatched a).mgmt.commands = s.mgmt.commands ∧ (s.arriveUnmatched a).mgmt.ready = s.mgmt.ready ∧
      (s.arriveUnmatched a).mgmt.framer = s.mgmt.framer ∧ (s.arriveUnmatched a).mgmt.sending = s.mgmt.sending ∧
      (s.arriveUnmatched a).mgmt.startCause = s.mgmt.startCause ∧
      (s.arriveUnmatched a).mgmt.frameErrors = s.mgmt.frameErrors ∧
      (s.arriveUnmatched a).mgmt.busyCount = s.mgmt.busyCount ∧ (s.arriveUnmatched a).mgmt.owed = s.mgmt.owed ∧
      (s.arriveUnmatched a).mgmt.busyBacklog = s.mgmt.busyBacklog ∧
      (s.arriveUnmatched a).mgmt.pendingErrors = s.mgmt.pendingErrors ∧
      (s.arriveUnmatched a).table.generations = s.table.generations ∧ (s.arriveUnmatched a).store.floor = s.store.floor ∧
      (s.arriveUnmatched a).store.initialising = s.store.initialising ∧
      (s.arriveUnmatched a).store.corrected = s.store.corrected ∧ (s.arriveUnmatched a).store.transfer = s.store.transfer ∧
      (s.arriveUnmatched a).store.releases = s.store.releases ∧ (s.arriveUnmatched a).store.released = s.store.released ∧
      (s.arriveUnmatched a).time = s.time ∧ (s.arriveUnmatched a).counters.threshold = s.counters.threshold ∧
      (s.arriveUnmatched a).link.lanes = s.link.lanes ∧ (s.arriveUnmatched a).link.state = s.link.state ∧
      (s.arriveUnmatched a).link.expected = s.link.expected ∧ (s.arriveUnmatched a).link.lastGood = s.link.lastGood ∧
      (s.arriveUnmatched a).link.established = s.link.established ∧ (s.arriveUnmatched a).link.mismatch = s.link.mismatch ∧
      (s.arriveUnmatched a).link.loss = s.link.loss ∧ (s.arriveUnmatched a).link.openPacket = s.link.openPacket ∧
      (s.arriveUnmatched a).link.egressFull = s.link.egressFull ∧ (s.arriveUnmatched a).link.hold = s.link.hold ∧
      (s.arriveUnmatched a).link.sending = s.link.sending ∧ (s.arriveUnmatched a).link.discards = s.link.discards ∧
      (s.arriveUnmatched a).link.stagingDrops = s.link.stagingDrops ∧
      (s.arriveUnmatched a).link.ignoredSightings = s.link.ignoredSightings ∧
      (s.arriveUnmatched a).link.rejectedWords = s.link.rejectedWords ∧
      (s.arriveUnmatched a).link.returnLosses = s.link.returnLosses ∧ (s.arriveUnmatched a).choices = s.choices := by
  unfold State.arriveUnmatched
  try dsimp only
  (repeat' split) <;> first | (simp; done) | (refine ⟨?_,?_,?_,?_,?_,?_,?_,?_,?_,?_,?_,?_,?_,?_,?_,?_,?_,?_,?_,?_,?_,?_,?_,?_,?_,?_,?_,?_,?_,?_,?_,?_,?_,?_,?_,?_,?_,?_,?_,?_⟩ <;> first | rfl | (simp; done)) | simp_all

@[simp] theorem arriveMatched_keeps (s : State) (e : Episode) (a : Arrival) :
    (s.arriveMatched e a).pending = s.pending ∧ (s.arriveMatched e a).inReset = s.inReset ∧
      (s.arriveMatched e a).mgmt.replies = s.mgmt.replies ∧ (s.arriveMatched e a).mgmt.engine = s.mgmt.engine ∧
      (s.arriveMatched e a).mgmt.commands = s.mgmt.commands ∧ (s.arriveMatched e a).mgmt.ready = s.mgmt.ready ∧
      (s.arriveMatched e a).mgmt.framer = s.mgmt.framer ∧ (s.arriveMatched e a).mgmt.sending = s.mgmt.sending ∧
      (s.arriveMatched e a).mgmt.startCause = s.mgmt.startCause ∧
      (s.arriveMatched e a).mgmt.frameErrors = s.mgmt.frameErrors ∧
      (s.arriveMatched e a).mgmt.busyCount = s.mgmt.busyCount ∧ (s.arriveMatched e a).mgmt.owed = s.mgmt.owed ∧
      (s.arriveMatched e a).mgmt.busyBacklog = s.mgmt.busyBacklog ∧
      (s.arriveMatched e a).mgmt.pendingErrors = s.mgmt.pendingErrors ∧
      (s.arriveMatched e a).table.generations = s.table.generations ∧
      (s.arriveMatched e a).table.refusing = s.table.refusing ∧ (s.arriveMatched e a).store.floor = s.store.floor ∧
      (s.arriveMatched e a).store.initialising = s.store.initialising ∧
      (s.arriveMatched e a).store.corrected = s.store.corrected ∧ (s.arriveMatched e a).store.transfer = s.store.transfer ∧
      (s.arriveMatched e a).store.releases = s.store.releases ∧ (s.arriveMatched e a).store.released = s.store.released ∧
      (s.arriveMatched e a).time = s.time ∧ (s.arriveMatched e a).counters.threshold = s.counters.threshold ∧
      (s.arriveMatched e a).link.lanes = s.link.lanes ∧ (s.arriveMatched e a).link.state = s.link.state ∧
      (s.arriveMatched e a).link.expected = s.link.expected ∧ (s.arriveMatched e a).link.lastGood = s.link.lastGood ∧
      (s.arriveMatched e a).link.established = s.link.established ∧ (s.arriveMatched e a).link.mismatch = s.link.mismatch ∧
      (s.arriveMatched e a).link.loss = s.link.loss ∧ (s.arriveMatched e a).link.openPacket = s.link.openPacket ∧
      (s.arriveMatched e a).link.egressFull = s.link.egressFull ∧ (s.arriveMatched e a).link.hold = s.link.hold ∧
      (s.arriveMatched e a).link.sending = s.link.sending ∧ (s.arriveMatched e a).link.discards = s.link.discards ∧
      (s.arriveMatched e a).link.stagingDrops = s.link.stagingDrops ∧
      (s.arriveMatched e a).link.ignoredSightings = s.link.ignoredSightings ∧
      (s.arriveMatched e a).link.rejectedWords = s.link.rejectedWords ∧
      (s.arriveMatched e a).link.returnLosses = s.link.returnLosses ∧ (s.arriveMatched e a).choices = s.choices := by
  unfold State.arriveMatched
  try dsimp only
  (repeat' split) <;> first | (simp; done) | (refine ⟨?_,?_,?_,?_,?_,?_,?_,?_,?_,?_,?_,?_,?_,?_,?_,?_,?_,?_,?_,?_,?_,?_,?_,?_,?_,?_,?_,?_,?_,?_,?_,?_,?_,?_,?_,?_,?_,?_,?_,?_,?_⟩ <;> first | rfl | (simp; done)) | simp_all

@[simp] theorem portFault_keeps (s : State) (a : Arrival) :
    (s.portFault a).pending = s.pending ∧ (s.portFault a).inReset = s.inReset ∧
      (s.portFault a).mgmt.replies = s.mgmt.replies ∧ (s.portFault a).mgmt.engine = s.mgmt.engine ∧
      (s.portFault a).mgmt.commands = s.mgmt.commands ∧ (s.portFault a).mgmt.ready = s.mgmt.ready ∧
      (s.portFault a).mgmt.framer = s.mgmt.framer ∧ (s.portFault a).mgmt.sending = s.mgmt.sending ∧
      (s.portFault a).mgmt.startCause = s.mgmt.startCause ∧ (s.portFault a).mgmt.frameErrors = s.mgmt.frameErrors ∧
      (s.portFault a).mgmt.busyCount = s.mgmt.busyCount ∧ (s.portFault a).mgmt.owed = s.mgmt.owed ∧
      (s.portFault a).mgmt.busyBacklog = s.mgmt.busyBacklog ∧ (s.portFault a).mgmt.pendingErrors = s.mgmt.pendingErrors ∧
      (s.portFault a).table.generations = s.table.generations ∧ (s.portFault a).table.refusing = s.table.refusing ∧
      (s.portFault a).store = s.store ∧ (s.portFault a).pacers = s.pacers ∧ (s.portFault a).time = s.time ∧
      (s.portFault a).counters = s.counters ∧ (s.portFault a).link.lanes = s.link.lanes ∧
      (s.portFault a).link.state = s.link.state ∧ (s.portFault a).link.expected = s.link.expected ∧
      (s.portFault a).link.lastGood = s.link.lastGood ∧ (s.portFault a).link.established = s.link.established ∧
      (s.portFault a).link.mismatch = s.link.mismatch ∧ (s.portFault a).link.loss = s.link.loss ∧
      (s.portFault a).link.openPacket = s.link.openPacket ∧ (s.portFault a).link.egressFull = s.link.egressFull ∧
      (s.portFault a).link.hold = s.link.hold ∧ (s.portFault a).link.paused = s.link.paused ∧
      (s.portFault a).link.stubs = s.link.stubs ∧ (s.portFault a).link.sending = s.link.sending ∧
      (s.portFault a).link.discards = s.link.discards ∧ (s.portFault a).link.stagingDrops = s.link.stagingDrops ∧
      (s.portFault a).link.ignoredSightings = s.link.ignoredSightings ∧
      (s.portFault a).link.rejectedWords = s.link.rejectedWords ∧ (s.portFault a).link.returnLosses = s.link.returnLosses ∧
      (s.portFault a).choices = s.choices ∧ (s.portFault a).out = s.out ∧ (s.portFault a).evThresholds = s.evThresholds := by
  unfold State.portFault
  try dsimp only
  (repeat' split) <;> first | (simp; done) | (refine ⟨?_,?_,?_,?_,?_,?_,?_,?_,?_,?_,?_,?_,?_,?_,?_,?_,?_,?_,?_,?_,?_,?_,?_,?_,?_,?_,?_,?_,?_,?_,?_,?_,?_,?_,?_,?_,?_,?_,?_,?_,?_⟩ <;> first | rfl | (simp; done)) | simp_all

@[simp] theorem arrive_keeps (s : State) (desc : Descriptor) (data : List Byte) :
    (s.arrive desc data).pending = s.pending ∧ (s.arrive desc data).inReset = s.inReset ∧
      (s.arrive desc data).mgmt.replies = s.mgmt.replies ∧ (s.arrive desc data).mgmt.engine = s.mgmt.engine ∧
      (s.arrive desc data).mgmt.commands = s.mgmt.commands ∧ (s.arrive desc data).mgmt.ready = s.mgmt.ready ∧
      (s.arrive desc data).mgmt.framer = s.mgmt.framer ∧ (s.arrive desc data).mgmt.sending = s.mgmt.sending ∧
      (s.arrive desc data).mgmt.startCause = s.mgmt.startCause ∧
      (s.arrive desc data).mgmt.frameErrors = s.mgmt.frameErrors ∧ (s.arrive desc data).mgmt.busyCount = s.mgmt.busyCount ∧
      (s.arrive desc data).mgmt.owed = s.mgmt.owed ∧ (s.arrive desc data).mgmt.busyBacklog = s.mgmt.busyBacklog ∧
      (s.arrive desc data).mgmt.pendingErrors = s.mgmt.pendingErrors ∧
      (s.arrive desc data).table.generations = s.table.generations ∧ (s.arrive desc data).store.floor = s.store.floor ∧
      (s.arrive desc data).store.initialising = s.store.initialising ∧
      (s.arrive desc data).store.corrected = s.store.corrected ∧ (s.arrive desc data).store.transfer = s.store.transfer ∧
      (s.arrive desc data).store.releases = s.store.releases ∧ (s.arrive desc data).store.released = s.store.released ∧
      (s.arrive desc data).time = s.time ∧ (s.arrive desc data).counters.threshold = s.counters.threshold ∧
      (s.arrive desc data).link.lanes = s.link.lanes ∧ (s.arrive desc data).link.state = s.link.state ∧
      (s.arrive desc data).link.expected = s.link.expected ∧ (s.arrive desc data).link.lastGood = s.link.lastGood ∧
      (s.arrive desc data).link.established = s.link.established ∧ (s.arrive desc data).link.mismatch = s.link.mismatch ∧
      (s.arrive desc data).link.loss = s.link.loss ∧ (s.arrive desc data).link.openPacket = s.link.openPacket ∧
      (s.arrive desc data).link.egressFull = s.link.egressFull ∧ (s.arrive desc data).link.hold = s.link.hold ∧
      (s.arrive desc data).link.sending = s.link.sending ∧ (s.arrive desc data).link.discards = s.link.discards ∧
      (s.arrive desc data).link.stagingDrops = s.link.stagingDrops ∧
      (s.arrive desc data).link.ignoredSightings = s.link.ignoredSightings ∧
      (s.arrive desc data).link.rejectedWords = s.link.rejectedWords ∧
      (s.arrive desc data).link.returnLosses = s.link.returnLosses ∧ (s.arrive desc data).choices = s.choices := by
  unfold State.arrive
  try dsimp only
  (repeat' split) <;> first | (simp; done) | (refine ⟨?_,?_,?_,?_,?_,?_,?_,?_,?_,?_,?_,?_,?_,?_,?_,?_,?_,?_,?_,?_,?_,?_,?_,?_,?_,?_,?_,?_,?_,?_,?_,?_,?_,?_,?_,?_,?_,?_,?_,?_⟩ <;> first | rfl | (simp; done)) | simp_all

end Sys2Proof.Machine
end

