-- ==== Sys2Proof/Laws/Transfers.lean ====
section
/-! SUPPORT. What grants, releases and store transfers leave as they were. -/

set_option linter.all false

namespace Sys2Proof.Machine

@[simp] theorem makeGrant_keeps (s : State) (g : Nat) (c : Candidate) :
    (s.makeGrant g c).pending = s.pending ∧ (s.makeGrant g c).inReset = s.inReset ∧ (s.makeGrant g c).mgmt = s.mgmt ∧
      (s.makeGrant g c).table.generations = s.table.generations ∧ (s.makeGrant g c).table.refusing = s.table.refusing ∧
      (s.makeGrant g c).store = s.store ∧ (s.makeGrant g c).time = s.time ∧ (s.makeGrant g c).counters = s.counters ∧
      (s.makeGrant g c).ports = s.ports ∧ (s.makeGrant g c).link = s.link ∧ (s.makeGrant g c).choices = s.choices ∧
      (s.makeGrant g c).out = s.out ∧ (s.makeGrant g c).evThresholds = s.evThresholds := by
  unfold State.makeGrant
  try dsimp only
  (repeat' split) <;> first | (simp; done) | (refine ⟨?_,?_,?_,?_,?_,?_,?_,?_,?_,?_,?_,?_,?_⟩ <;> first | rfl | (simp; done)) | simp_all

@[simp] theorem oneDecision_keeps (s : State) :
    (s.oneDecision).pending = s.pending ∧ (s.oneDecision).inReset = s.inReset ∧ (s.oneDecision).mgmt = s.mgmt ∧
      (s.oneDecision).table.generations = s.table.generations ∧ (s.oneDecision).table.refusing = s.table.refusing ∧
      (s.oneDecision).store = s.store ∧ (s.oneDecision).time = s.time ∧ (s.oneDecision).counters = s.counters ∧
      (s.oneDecision).ports = s.ports ∧ (s.oneDecision).link = s.link ∧ (s.oneDecision).out = s.out ∧
      (s.oneDecision).evThresholds = s.evThresholds := by
  unfold State.oneDecision
  try dsimp only
  (repeat' split) <;> first | (simp; done) | (refine ⟨?_,?_,?_,?_,?_,?_,?_,?_,?_,?_,?_,?_⟩ <;> first | rfl | (simp; done)) | simp_all

@[simp] theorem decisions_keeps (s : State) (fuel : Nat) :
    (State.decisions fuel s).pending = s.pending ∧ (State.decisions fuel s).inReset = s.inReset ∧
      (State.decisions fuel s).mgmt = s.mgmt ∧ (State.decisions fuel s).table.generations = s.table.generations ∧
      (State.decisions fuel s).table.refusing = s.table.refusing ∧ (State.decisions fuel s).store = s.store ∧
      (State.decisions fuel s).time = s.time ∧ (State.decisions fuel s).counters = s.counters ∧
      (State.decisions fuel s).ports = s.ports ∧ (State.decisions fuel s).link = s.link ∧
      (State.decisions fuel s).out = s.out ∧ (State.decisions fuel s).evThresholds = s.evThresholds := by
  induction fuel generalizing s with
  | zero => simp [State.decisions]
  | succ fuel ih =>
    unfold State.decisions
    split <;> simp_all

@[simp] theorem retire_keeps (s : State) (slot position : Nat) (e : Episode) :
    (s.retire slot position e).pending = s.pending ∧ (s.retire slot position e).inReset = s.inReset ∧
      (s.retire slot position e).mgmt.replies = s.mgmt.replies ∧ (s.retire slot position e).mgmt.engine = s.mgmt.engine ∧
      (s.retire slot position e).mgmt.commands = s.mgmt.commands ∧ (s.retire slot position e).mgmt.ready = s.mgmt.ready ∧
      (s.retire slot position e).mgmt.framer = s.mgmt.framer ∧ (s.retire slot position e).mgmt.sending = s.mgmt.sending ∧
      (s.retire slot position e).mgmt.startCause = s.mgmt.startCause ∧
      (s.retire slot position e).mgmt.frameErrors = s.mgmt.frameErrors ∧
      (s.retire slot position e).mgmt.busyCount = s.mgmt.busyCount ∧ (s.retire slot position e).mgmt.owed = s.mgmt.owed ∧
      (s.retire slot position e).mgmt.busyBacklog = s.mgmt.busyBacklog ∧
      (s.retire slot position e).mgmt.pendingErrors = s.mgmt.pendingErrors ∧
      (s.retire slot position e).table.generations = s.table.generations ∧
      (s.retire slot position e).table.refusing = s.table.refusing ∧ (s.retire slot position e).store = s.store ∧
      (s.retire slot position e).pacers = s.pacers ∧ (s.retire slot position e).time = s.time ∧
      (s.retire slot position e).counters.threshold = s.counters.threshold ∧
      (s.retire slot position e).link.lanes = s.link.lanes ∧ (s.retire slot position e).link.state = s.link.state ∧
      (s.retire slot position e).link.expected = s.link.expected ∧
      (s.retire slot position e).link.lastGood = s.link.lastGood ∧
      (s.retire slot position e).link.established = s.link.established ∧
      (s.retire slot position e).link.mismatch = s.link.mismatch ∧ (s.retire slot position e).link.loss = s.link.loss ∧
      (s.retire slot position e).link.openPacket = s.link.openPacket ∧
      (s.retire slot position e).link.egressFull = s.link.egressFull ∧ (s.retire slot position e).link.hold = s.link.hold ∧
      (s.retire slot position e).link.paused = s.link.paused ∧ (s.retire slot position e).link.stubs = s.link.stubs ∧
      (s.retire slot position e).link.passList = s.link.passList ∧
      (s.retire slot position e).link.sending = s.link.sending ∧
      (s.retire slot position e).link.discards = s.link.discards ∧
      (s.retire slot position e).link.stagingDrops = s.link.stagingDrops ∧
      (s.retire slot position e).link.ignoredSightings = s.link.ignoredSightings ∧
      (s.retire slot position e).link.rejectedWords = s.link.rejectedWords ∧
      (s.retire slot position e).link.returnLosses = s.link.returnLosses ∧ (s.retire slot position e).choices = s.choices ∧
      (s.retire slot position e).out = s.out := by
  unfold State.retire
  try dsimp only
  (repeat' split) <;> first | (simp; done) | (refine ⟨?_,?_,?_,?_,?_,?_,?_,?_,?_,?_,?_,?_,?_,?_,?_,?_,?_,?_,?_,?_,?_,?_,?_,?_,?_,?_,?_,?_,?_,?_,?_,?_,?_,?_,?_,?_,?_,?_,?_,?_,?_⟩ <;> first | rfl | (simp; done)) | simp_all

@[simp] theorem expireGrant_keeps (s : State) (slot position number : Nat) :
    (s.expireGrant slot position number).pending = s.pending ∧ (s.expireGrant slot position number).inReset = s.inReset ∧
      (s.expireGrant slot position number).mgmt.replies = s.mgmt.replies ∧
      (s.expireGrant slot position number).mgmt.engine = s.mgmt.engine ∧
      (s.expireGrant slot position number).mgmt.commands = s.mgmt.commands ∧
      (s.expireGrant slot position number).mgmt.ready = s.mgmt.ready ∧
      (s.expireGrant slot position number).mgmt.framer = s.mgmt.framer ∧
      (s.expireGrant slot position number).mgmt.sending = s.mgmt.sending ∧
      (s.expireGrant slot position number).mgmt.startCause = s.mgmt.startCause ∧
      (s.expireGrant slot position number).mgmt.frameErrors = s.mgmt.frameErrors ∧
      (s.expireGrant slot position number).mgmt.busyCount = s.mgmt.busyCount ∧
      (s.expireGrant slot position number).mgmt.owed = s.mgmt.owed ∧
      (s.expireGrant slot position number).mgmt.busyBacklog = s.mgmt.busyBacklog ∧
      (s.expireGrant slot position number).mgmt.pendingErrors = s.mgmt.pendingErrors ∧
      (s.expireGrant slot position number).table.generations = s.table.generations ∧
      (s.expireGrant slot position number).table.refusing = s.table.refusing ∧
      (s.expireGrant slot position number).store = s.store ∧ (s.expireGrant slot position number).pacers = s.pacers ∧
      (s.expireGrant slot position number).time = s.time ∧
      (s.expireGrant slot position number).counters.threshold = s.counters.threshold ∧
      (s.expireGrant slot position number).link.lanes = s.link.lanes ∧
      (s.expireGrant slot position number).link.state = s.link.state ∧
      (s.expireGrant slot position number).link.expected = s.link.expected ∧
      (s.expireGrant slot position number).link.lastGood = s.link.lastGood ∧
      (s.expireGrant slot position number).link.established = s.link.established ∧
      (s.expireGrant slot position number).link.mismatch = s.link.mismatch ∧
      (s.expireGrant slot position number).link.loss = s.link.loss ∧
      (s.expireGrant slot position number).link.openPacket = s.link.openPacket ∧
      (s.expireGrant slot position number).link.egressFull = s.link.egressFull ∧
      (s.expireGrant slot position number).link.hold = s.link.hold ∧
      (s.expireGrant slot position number).link.paused = s.link.paused ∧
      (s.expireGrant slot position number).link.stubs = s.link.stubs ∧
      (s.expireGrant slot position number).link.passList = s.link.passList ∧
      (s.expireGrant slot position number).link.sending = s.link.sending ∧
      (s.expireGrant slot position number).link.discards = s.link.discards ∧
      (s.expireGrant slot position number).link.stagingDrops = s.link.stagingDrops ∧
      (s.expireGrant slot position number).link.ignoredSightings = s.link.ignoredSightings ∧
      (s.expireGrant slot position number).link.rejectedWords = s.link.rejectedWords ∧
      (s.expireGrant slot position number).link.returnLosses = s.link.returnLosses ∧
      (s.expireGrant slot position number).choices = s.choices ∧ (s.expireGrant slot position number).out = s.out := by
  unfold State.expireGrant
  try dsimp only
  (repeat' split) <;> first | (simp; done) | (refine ⟨?_,?_,?_,?_,?_,?_,?_,?_,?_,?_,?_,?_,?_,?_,?_,?_,?_,?_,?_,?_,?_,?_,?_,?_,?_,?_,?_,?_,?_,?_,?_,?_,?_,?_,?_,?_,?_,?_,?_,?_,?_⟩ <;> first | rfl | (simp; done)) | simp_all

@[simp] theorem setRelease_keeps (s : State) (g : Nat) (r : Option Release) :
    (s.setRelease g r).pending = s.pending ∧ (s.setRelease g r).inReset = s.inReset ∧ (s.setRelease g r).mgmt = s.mgmt ∧
      (s.setRelease g r).table = s.table ∧ (s.setRelease g r).sched = s.sched ∧
      (s.setRelease g r).store.floor = s.store.floor ∧ (s.setRelease g r).store.initialising = s.store.initialising ∧
      (s.setRelease g r).store.corrected = s.store.corrected ∧ (s.setRelease g r).store.writeList = s.store.writeList ∧
      (s.setRelease g r).store.transfer = s.store.transfer ∧ (s.setRelease g r).store.released = s.store.released ∧
      (s.setRelease g r).pacers = s.pacers ∧ (s.setRelease g r).time = s.time ∧ (s.setRelease g r).counters = s.counters ∧
      (s.setRelease g r).ports = s.ports ∧ (s.setRelease g r).link = s.link ∧ (s.setRelease g r).choices = s.choices ∧
      (s.setRelease g r).out = s.out ∧ (s.setRelease g r).evThresholds = s.evThresholds := by
  unfold State.setRelease
  try dsimp only
  (repeat' split) <;> first | (simp; done) | (refine ⟨?_,?_,?_,?_,?_,?_,?_,?_,?_,?_,?_,?_,?_,?_,?_,?_,?_,?_,?_⟩ <;> first | rfl | (simp; done)) | simp_all

@[simp] theorem beginRelease_keeps (s : State) (g : Nat) :
    (s.beginRelease g).pending = s.pending ∧ (s.beginRelease g).inReset = s.inReset ∧ (s.beginRelease g).mgmt = s.mgmt ∧
      (s.beginRelease g).table.generations = s.table.generations ∧ (s.beginRelease g).table.refusing = s.table.refusing ∧
      (s.beginRelease g).sched = s.sched ∧ (s.beginRelease g).store.floor = s.store.floor ∧
      (s.beginRelease g).store.initialising = s.store.initialising ∧
      (s.beginRelease g).store.corrected = s.store.corrected ∧ (s.beginRelease g).store.writeList = s.store.writeList ∧
      (s.beginRelease g).store.transfer = s.store.transfer ∧ (s.beginRelease g).store.released = s.store.released ∧
      (s.beginRelease g).time = s.time ∧ (s.beginRelease g).counters = s.counters ∧ (s.beginRelease g).ports = s.ports ∧
      (s.beginRelease g).link = s.link ∧ (s.beginRelease g).choices = s.choices ∧ (s.beginRelease g).out = s.out ∧
      (s.beginRelease g).evThresholds = s.evThresholds := by
  unfold State.beginRelease
  try dsimp only
  (repeat' split) <;> first | (simp; done) | (refine ⟨?_,?_,?_,?_,?_,?_,?_,?_,?_,?_,?_,?_,?_,?_,?_,?_,?_,?_,?_⟩ <;> first | rfl | (simp; done)) | simp_all

@[simp] theorem beginReleases_keeps (s : State) :
    (s.beginReleases).pending = s.pending ∧ (s.beginReleases).inReset = s.inReset ∧ (s.beginReleases).mgmt = s.mgmt ∧
      (s.beginReleases).table.generations = s.table.generations ∧ (s.beginReleases).table.refusing = s.table.refusing ∧
      (s.beginReleases).sched = s.sched ∧ (s.beginReleases).store.floor = s.store.floor ∧
      (s.beginReleases).store.initialising = s.store.initialising ∧ (s.beginReleases).store.corrected = s.store.corrected ∧
      (s.beginReleases).store.writeList = s.store.writeList ∧ (s.beginReleases).store.transfer = s.store.transfer ∧
      (s.beginReleases).store.released = s.store.released ∧ (s.beginReleases).time = s.time ∧
      (s.beginReleases).counters = s.counters ∧ (s.beginReleases).ports = s.ports ∧ (s.beginReleases).link = s.link ∧
      (s.beginReleases).choices = s.choices ∧ (s.beginReleases).out = s.out ∧
      (s.beginReleases).evThresholds = s.evThresholds := by
  refine ⟨?_, ?_, ?_, ?_, ?_, ?_, ?_, ?_, ?_, ?_, ?_, ?_, ?_, ?_, ?_, ?_, ?_, ?_, ?_⟩
  · unfold State.beginReleases; (try dsimp only); (repeat' split) <;> (try dsimp only) <;>
      first | rfl | (simp; done) | (rw [foldl_keeps (fun s : State => s.pending) _ (by intros; simp)]; (try simp); done) |
        (simp; (try rw [foldl_keeps (fun s : State => s.pending) _ (by intros; simp)]); done)
  · unfold State.beginReleases; (try dsimp only); (repeat' split) <;> (try dsimp only) <;>
      first | rfl | (simp; done) | (rw [foldl_keeps (fun s : State => s.inReset) _ (by intros; simp)]; (try simp); done) |
        (simp; (try rw [foldl_keeps (fun s : State => s.inReset) _ (by intros; simp)]); done)
  · unfold State.beginReleases; (try dsimp only); (repeat' split) <;> (try dsimp only) <;>
      first | rfl | (simp; done) | (rw [foldl_keeps (fun s : State => s.mgmt) _ (by intros; simp)]; (try simp); done) |
        (simp; (try rw [foldl_keeps (fun s : State => s.mgmt) _ (by intros; simp)]); done)
  · unfold State.beginReleases; (try dsimp only); (repeat' split) <;> (try dsimp only) <;>
      first | rfl | (simp; done) | (rw [foldl_keeps (fun s : State => s.table.generations) _ (by intros; simp)]; (try simp); done) |
        (simp; (try rw [foldl_keeps (fun s : State => s.table.generations) _ (by intros; simp)]); done)
  · unfold State.beginReleases; (try dsimp only); (repeat' split) <;> (try dsimp only) <;>
      first | rfl | (simp; done) | (rw [foldl_keeps (fun s : State => s.table.refusing) _ (by intros; simp)]; (try simp); done) |
        (simp; (try rw [foldl_keeps (fun s : State => s.table.refusing) _ (by intros; simp)]); done)
  · unfold State.beginReleases; (try dsimp only); (repeat' split) <;> (try dsimp only) <;>
      first | rfl | (simp; done) | (rw [foldl_keeps (fun s : State => s.sched) _ (by intros; simp)]; (try simp); done) |
        (simp; (try rw [foldl_keeps (fun s : State => s.sched) _ (by intros; simp)]); done)
  · unfold State.beginReleases; (try dsimp only); (repeat' split) <;> (try dsimp only) <;>
      first | rfl | (simp; done) | (rw [foldl_keeps (fun s : State => s.store.floor) _ (by intros; simp)]; (try simp); done) |
        (simp; (try rw [foldl_keeps (fun s : State => s.store.floor) _ (by intros; simp)]); done)
  · unfold State.beginReleases; (try dsimp only); (repeat' split) <;> (try dsimp only) <;>
      first | rfl | (simp; done) | (rw [foldl_keeps (fun s : State => s.store.initialising) _ (by intros; simp)]; (try simp); done) |
        (simp; (try rw [foldl_keeps (fun s : State => s.store.initialising) _ (by intros; simp)]); done)
  · unfold State.beginReleases; (try dsimp only); (repeat' split) <;> (try dsimp only) <;>
      first | rfl | (simp; done) | (rw [foldl_keeps (fun s : State => s.store.corrected) _ (by intros; simp)]; (try simp); done) |
        (simp; (try rw [foldl_keeps (fun s : State => s.store.corrected) _ (by intros; simp)]); done)
  · unfold State.beginReleases; (try dsimp only); (repeat' split) <;> (try dsimp only) <;>
      first | rfl | (simp; done) | (rw [foldl_keeps (fun s : State => s.store.writeList) _ (by intros; simp)]; (try simp); done) |
        (simp; (try rw [foldl_keeps (fun s : State => s.store.writeList) _ (by intros; simp)]); done)
  · unfold State.beginReleases; (try dsimp only); (repeat' split) <;> (try dsimp only) <;>
      first | rfl | (simp; done) | (rw [foldl_keeps (fun s : State => s.store.transfer) _ (by intros; simp)]; (try simp); done) |
        (simp; (try rw [foldl_keeps (fun s : State => s.store.transfer) _ (by intros; simp)]); done)
  · unfold State.beginReleases; (try dsimp only); (repeat' split) <;> (try dsimp only) <;>
      first | rfl | (simp; done) | (rw [foldl_keeps (fun s : State => s.store.released) _ (by intros; simp)]; (try simp); done) |
        (simp; (try rw [foldl_keeps (fun s : State => s.store.released) _ (by intros; simp)]); done)
  · unfold State.beginReleases; (try dsimp only); (repeat' split) <;> (try dsimp only) <;>
      first | rfl | (simp; done) | (rw [foldl_keeps (fun s : State => s.time) _ (by intros; simp)]; (try simp); done) |
        (simp; (try rw [foldl_keeps (fun s : State => s.time) _ (by intros; simp)]); done)
  · unfold State.beginReleases; (try dsimp only); (repeat' split) <;> (try dsimp only) <;>
      first | rfl | (simp; done) | (rw [foldl_keeps (fun s : State => s.counters) _ (by intros; simp)]; (try simp); done) |
        (simp; (try rw [foldl_keeps (fun s : State => s.counters) _ (by intros; simp)]); done)
  · unfold State.beginReleases; (try dsimp only); (repeat' split) <;> (try dsimp only) <;>
      first | rfl | (simp; done) | (rw [foldl_keeps (fun s : State => s.ports) _ (by intros; simp)]; (try simp); done) |
        (simp; (try rw [foldl_keeps (fun s : State => s.ports) _ (by intros; simp)]); done)
  · unfold State.beginReleases; (try dsimp only); (repeat' split) <;> (try dsimp only) <;>
      first | rfl | (simp; done) | (rw [foldl_keeps (fun s : State => s.link) _ (by intros; simp)]; (try simp); done) |
        (simp; (try rw [foldl_keeps (fun s : State => s.link) _ (by intros; simp)]); done)
  · unfold State.beginReleases; (try dsimp only); (repeat' split) <;> (try dsimp only) <;>
      first | rfl | (simp; done) | (rw [foldl_keeps (fun s : State => s.choices) _ (by intros; simp)]; (try simp); done) |
        (simp; (try rw [foldl_keeps (fun s : State => s.choices) _ (by intros; simp)]); done)
  · unfold State.beginReleases; (try dsimp only); (repeat' split) <;> (try dsimp only) <;>
      first | rfl | (simp; done) | (rw [foldl_keeps (fun s : State => s.out) _ (by intros; simp)]; (try simp); done) |
        (simp; (try rw [foldl_keeps (fun s : State => s.out) _ (by intros; simp)]); done)
  · unfold State.beginReleases; (try dsimp only); (repeat' split) <;> (try dsimp only) <;>
      first | rfl | (simp; done) | (rw [foldl_keeps (fun s : State => s.evThresholds) _ (by intros; simp)]; (try simp); done) |
        (simp; (try rw [foldl_keeps (fun s : State => s.evThresholds) _ (by intros; simp)]); done)

@[simp] theorem grantWrite_keeps (s : State) :
    (s.grantWrite).pending = s.pending ∧ (s.grantWrite).inReset = s.inReset ∧ (s.grantWrite).mgmt = s.mgmt ∧
      (s.grantWrite).table = s.table ∧ (s.grantWrite).sched = s.sched ∧ (s.grantWrite).store.floor = s.store.floor ∧
      (s.grantWrite).store.initialising = s.store.initialising ∧ (s.grantWrite).store.corrected = s.store.corrected ∧
      (s.grantWrite).store.releases = s.store.releases ∧ (s.grantWrite).store.released = s.store.released ∧
      (s.grantWrite).pacers = s.pacers ∧ (s.grantWrite).time = s.time ∧ (s.grantWrite).counters = s.counters ∧
      (s.grantWrite).ports = s.ports ∧ (s.grantWrite).link = s.link ∧ (s.grantWrite).out = s.out ∧
      (s.grantWrite).evThresholds = s.evThresholds := by
  unfold State.grantWrite
  try dsimp only
  (repeat' split) <;> first | (simp; done) | (refine ⟨?_,?_,?_,?_,?_,?_,?_,?_,?_,?_,?_,?_,?_,?_,?_,?_,?_⟩ <;> first | rfl | (simp; done)) | simp_all

@[simp] theorem grantRead_keeps (s : State) :
    (s.grantRead).pending = s.pending ∧ (s.grantRead).inReset = s.inReset ∧ (s.grantRead).mgmt = s.mgmt ∧
      (s.grantRead).table = s.table ∧ (s.grantRead).sched = s.sched ∧ (s.grantRead).store.floor = s.store.floor ∧
      (s.grantRead).store.initialising = s.store.initialising ∧ (s.grantRead).store.corrected = s.store.corrected ∧
      (s.grantRead).store.writeList = s.store.writeList ∧ (s.grantRead).store.released = s.store.released ∧
      (s.grantRead).pacers = s.pacers ∧ (s.grantRead).time = s.time ∧ (s.grantRead).counters = s.counters ∧
      (s.grantRead).ports = s.ports ∧ (s.grantRead).link = s.link ∧ (s.grantRead).choices = s.choices ∧
      (s.grantRead).out = s.out ∧ (s.grantRead).evThresholds = s.evThresholds := by
  unfold State.grantRead
  try dsimp only
  (repeat' split) <;> first | (simp; done) | (refine ⟨?_,?_,?_,?_,?_,?_,?_,?_,?_,?_,?_,?_,?_,?_,?_,?_,?_,?_⟩ <;> first | rfl | (simp; done)) | simp_all

@[simp] theorem answerCapture_keeps (s : State) (tag : Byte) (status : Status) (body : ReplyBody) :
    (s.answerCapture tag status body).pending = s.pending ∧ (s.answerCapture tag status body).inReset = s.inReset ∧
      (s.answerCapture tag status body).mgmt.notices = s.mgmt.notices ∧
      (s.answerCapture tag status body).mgmt.commands = s.mgmt.commands ∧
      (s.answerCapture tag status body).mgmt.ready = s.mgmt.ready ∧
      (s.answerCapture tag status body).mgmt.framer = s.mgmt.framer ∧
      (s.answerCapture tag status body).mgmt.overflow = s.mgmt.overflow ∧
      (s.answerCapture tag status body).mgmt.sending = s.mgmt.sending ∧
      (s.answerCapture tag status body).mgmt.startCause = s.mgmt.startCause ∧
      (s.answerCapture tag status body).mgmt.frameErrors = s.mgmt.frameErrors ∧
      (s.answerCapture tag status body).mgmt.busyCount = s.mgmt.busyCount ∧
      (s.answerCapture tag status body).mgmt.owed = s.mgmt.owed ∧
      (s.answerCapture tag status body).mgmt.busyBacklog = s.mgmt.busyBacklog ∧
      (s.answerCapture tag status body).mgmt.pendingErrors = s.mgmt.pendingErrors ∧
      (s.answerCapture tag status body).table = s.table ∧ (s.answerCapture tag status body).sched = s.sched ∧
      (s.answerCapture tag status body).store = s.store ∧ (s.answerCapture tag status body).pacers = s.pacers ∧
      (s.answerCapture tag status body).time = s.time ∧ (s.answerCapture tag status body).counters = s.counters ∧
      (s.answerCapture tag status body).ports = s.ports ∧ (s.answerCapture tag status body).link = s.link ∧
      (s.answerCapture tag status body).choices = s.choices ∧ (s.answerCapture tag status body).out = s.out ∧
      (s.answerCapture tag status body).evThresholds = s.evThresholds := by
  unfold State.answerCapture
  try dsimp only
  (repeat' split) <;> first | (simp; done) | (refine ⟨?_,?_,?_,?_,?_,?_,?_,?_,?_,?_,?_,?_,?_,?_,?_,?_,?_,?_,?_,?_,?_,?_,?_,?_,?_⟩ <;> first | rfl | (simp; done)) | simp_all

@[simp] theorem grantCapture_keeps (s : State) :
    (s.grantCapture).pending = s.pending ∧ (s.grantCapture).inReset = s.inReset ∧
      (s.grantCapture).mgmt.notices = s.mgmt.notices ∧ (s.grantCapture).mgmt.commands = s.mgmt.commands ∧
      (s.grantCapture).mgmt.ready = s.mgmt.ready ∧ (s.grantCapture).mgmt.framer = s.mgmt.framer ∧
      (s.grantCapture).mgmt.overflow = s.mgmt.overflow ∧ (s.grantCapture).mgmt.sending = s.mgmt.sending ∧
      (s.grantCapture).mgmt.startCause = s.mgmt.startCause ∧ (s.grantCapture).mgmt.frameErrors = s.mgmt.frameErrors ∧
      (s.grantCapture).mgmt.busyCount = s.mgmt.busyCount ∧ (s.grantCapture).mgmt.owed = s.mgmt.owed ∧
      (s.grantCapture).mgmt.busyBacklog = s.mgmt.busyBacklog ∧ (s.grantCapture).mgmt.pendingErrors = s.mgmt.pendingErrors ∧
      (s.grantCapture).table = s.table ∧ (s.grantCapture).sched = s.sched ∧ (s.grantCapture).store.floor = s.store.floor ∧
      (s.grantCapture).store.initialising = s.store.initialising ∧ (s.grantCapture).store.corrected = s.store.corrected ∧
      (s.grantCapture).store.writeList = s.store.writeList ∧ (s.grantCapture).store.releases = s.store.releases ∧
      (s.grantCapture).store.released = s.store.released ∧ (s.grantCapture).pacers = s.pacers ∧
      (s.grantCapture).time = s.time ∧ (s.grantCapture).counters = s.counters ∧ (s.grantCapture).ports = s.ports ∧
      (s.grantCapture).link = s.link ∧ (s.grantCapture).choices = s.choices ∧ (s.grantCapture).out = s.out ∧
      (s.grantCapture).evThresholds = s.evThresholds := by
  unfold State.grantCapture
  try dsimp only
  (repeat' split) <;> first | (simp; done) | (refine ⟨?_,?_,?_,?_,?_,?_,?_,?_,?_,?_,?_,?_,?_,?_,?_,?_,?_,?_,?_,?_,?_,?_,?_,?_,?_,?_,?_,?_,?_,?_⟩ <;> first | rfl | (simp; done)) | simp_all

@[simp] theorem grantDram_keeps (s : State) (r : Requester) :
    (s.grantDram r).pending = s.pending ∧ (s.grantDram r).inReset = s.inReset ∧
      (s.grantDram r).mgmt.notices = s.mgmt.notices ∧ (s.grantDram r).mgmt.commands = s.mgmt.commands ∧
      (s.grantDram r).mgmt.ready = s.mgmt.ready ∧ (s.grantDram r).mgmt.framer = s.mgmt.framer ∧
      (s.grantDram r).mgmt.overflow = s.mgmt.overflow ∧ (s.grantDram r).mgmt.sending = s.mgmt.sending ∧
      (s.grantDram r).mgmt.startCause = s.mgmt.startCause ∧ (s.grantDram r).mgmt.frameErrors = s.mgmt.frameErrors ∧
      (s.grantDram r).mgmt.busyCount = s.mgmt.busyCount ∧ (s.grantDram r).mgmt.owed = s.mgmt.owed ∧
      (s.grantDram r).mgmt.busyBacklog = s.mgmt.busyBacklog ∧ (s.grantDram r).mgmt.pendingErrors = s.mgmt.pendingErrors ∧
      (s.grantDram r).table = s.table ∧ (s.grantDram r).sched = s.sched ∧ (s.grantDram r).store.floor = s.store.floor ∧
      (s.grantDram r).store.initialising = s.store.initialising ∧ (s.grantDram r).store.corrected = s.store.corrected ∧
      (s.grantDram r).store.released = s.store.released ∧ (s.grantDram r).pacers = s.pacers ∧
      (s.grantDram r).time = s.time ∧ (s.grantDram r).counters = s.counters ∧ (s.grantDram r).ports = s.ports ∧
      (s.grantDram r).link = s.link ∧ (s.grantDram r).out = s.out ∧ (s.grantDram r).evThresholds = s.evThresholds := by
  unfold State.grantDram; cases r <;> simp

@[simp] theorem arbitrate_keeps (s : State) (fuel : Nat) :
    (State.arbitrate fuel s).pending = s.pending ∧ (State.arbitrate fuel s).inReset = s.inReset ∧
      (State.arbitrate fuel s).mgmt.notices = s.mgmt.notices ∧ (State.arbitrate fuel s).mgmt.commands = s.mgmt.commands ∧
      (State.arbitrate fuel s).mgmt.ready = s.mgmt.ready ∧ (State.arbitrate fuel s).mgmt.framer = s.mgmt.framer ∧
      (State.arbitrate fuel s).mgmt.overflow = s.mgmt.overflow ∧ (State.arbitrate fuel s).mgmt.sending = s.mgmt.sending ∧
      (State.arbitrate fuel s).mgmt.startCause = s.mgmt.startCause ∧
      (State.arbitrate fuel s).mgmt.frameErrors = s.mgmt.frameErrors ∧
      (State.arbitrate fuel s).mgmt.busyCount = s.mgmt.busyCount ∧ (State.arbitrate fuel s).mgmt.owed = s.mgmt.owed ∧
      (State.arbitrate fuel s).mgmt.busyBacklog = s.mgmt.busyBacklog ∧
      (State.arbitrate fuel s).mgmt.pendingErrors = s.mgmt.pendingErrors ∧ (State.arbitrate fuel s).table = s.table ∧
      (State.arbitrate fuel s).sched = s.sched ∧ (State.arbitrate fuel s).store.floor = s.store.floor ∧
      (State.arbitrate fuel s).store.initialising = s.store.initialising ∧
      (State.arbitrate fuel s).store.corrected = s.store.corrected ∧
      (State.arbitrate fuel s).store.released = s.store.released ∧ (State.arbitrate fuel s).pacers = s.pacers ∧
      (State.arbitrate fuel s).time = s.time ∧ (State.arbitrate fuel s).counters = s.counters ∧
      (State.arbitrate fuel s).ports = s.ports ∧ (State.arbitrate fuel s).link = s.link ∧
      (State.arbitrate fuel s).out = s.out ∧ (State.arbitrate fuel s).evThresholds = s.evThresholds := by
  induction fuel generalizing s with
  | zero => simp [State.arbitrate]
  | succ fuel ih =>
    unfold State.arbitrate
    (repeat' split) <;> first | (simp; done) | simp [ih]

@[simp] theorem storeArbiter_keeps (s : State) (wasIdle : Bool) :
    (s.storeArbiter wasIdle).pending = s.pending ∧ (s.storeArbiter wasIdle).inReset = s.inReset ∧
      (s.storeArbiter wasIdle).mgmt.notices = s.mgmt.notices ∧ (s.storeArbiter wasIdle).mgmt.commands = s.mgmt.commands ∧
      (s.storeArbiter wasIdle).mgmt.ready = s.mgmt.ready ∧ (s.storeArbiter wasIdle).mgmt.framer = s.mgmt.framer ∧
      (s.storeArbiter wasIdle).mgmt.overflow = s.mgmt.overflow ∧ (s.storeArbiter wasIdle).mgmt.sending = s.mgmt.sending ∧
      (s.storeArbiter wasIdle).mgmt.startCause = s.mgmt.startCause ∧
      (s.storeArbiter wasIdle).mgmt.frameErrors = s.mgmt.frameErrors ∧
      (s.storeArbiter wasIdle).mgmt.busyCount = s.mgmt.busyCount ∧ (s.storeArbiter wasIdle).mgmt.owed = s.mgmt.owed ∧
      (s.storeArbiter wasIdle).mgmt.busyBacklog = s.mgmt.busyBacklog ∧
      (s.storeArbiter wasIdle).mgmt.pendingErrors = s.mgmt.pendingErrors ∧ (s.storeArbiter wasIdle).table = s.table ∧
      (s.storeArbiter wasIdle).sched = s.sched ∧ (s.storeArbiter wasIdle).store.floor = s.store.floor ∧
      (s.storeArbiter wasIdle).store.initialising = s.store.initialising ∧
      (s.storeArbiter wasIdle).store.corrected = s.store.corrected ∧
      (s.storeArbiter wasIdle).store.released = s.store.released ∧ (s.storeArbiter wasIdle).pacers = s.pacers ∧
      (s.storeArbiter wasIdle).time = s.time ∧ (s.storeArbiter wasIdle).counters = s.counters ∧
      (s.storeArbiter wasIdle).ports = s.ports ∧ (s.storeArbiter wasIdle).link = s.link ∧
      (s.storeArbiter wasIdle).out = s.out ∧ (s.storeArbiter wasIdle).evThresholds = s.evThresholds := by
  unfold State.storeArbiter
  try dsimp only
  (repeat' split) <;> first | (simp; done) | (refine ⟨?_,?_,?_,?_,?_,?_,?_,?_,?_,?_,?_,?_,?_,?_,?_,?_,?_,?_,?_,?_,?_,?_,?_,?_,?_,?_,?_⟩ <;> first | rfl | (simp; done)) | simp_all

@[simp] theorem finishWrite_keeps (s : State) :
    (s.finishWrite).pending = s.pending ∧ (s.finishWrite).inReset = s.inReset ∧
      (s.finishWrite).mgmt.replies = s.mgmt.replies ∧ (s.finishWrite).mgmt.engine = s.mgmt.engine ∧
      (s.finishWrite).mgmt.commands = s.mgmt.commands ∧ (s.finishWrite).mgmt.ready = s.mgmt.ready ∧
      (s.finishWrite).mgmt.framer = s.mgmt.framer ∧ (s.finishWrite).mgmt.sending = s.mgmt.sending ∧
      (s.finishWrite).mgmt.startCause = s.mgmt.startCause ∧ (s.finishWrite).mgmt.frameErrors = s.mgmt.frameErrors ∧
      (s.finishWrite).mgmt.busyCount = s.mgmt.busyCount ∧ (s.finishWrite).mgmt.owed = s.mgmt.owed ∧
      (s.finishWrite).mgmt.busyBacklog = s.mgmt.busyBacklog ∧ (s.finishWrite).mgmt.pendingErrors = s.mgmt.pendingErrors ∧
      (s.finishWrite).table.generations = s.table.generations ∧ (s.finishWrite).table.refusing = s.table.refusing ∧
      (s.finishWrite).sched = s.sched ∧ (s.finishWrite).store.floor = s.store.floor ∧
      (s.finishWrite).store.initialising = s.store.initialising ∧ (s.finishWrite).store.corrected = s.store.corrected ∧
      (s.finishWrite).store.writeList = s.store.writeList ∧ (s.finishWrite).store.releases = s.store.releases ∧
      (s.finishWrite).store.released = s.store.released ∧ (s.finishWrite).pacers = s.pacers ∧
      (s.finishWrite).time = s.time ∧ (s.finishWrite).counters = s.counters ∧ (s.finishWrite).ports = s.ports ∧
      (s.finishWrite).link.lanes = s.link.lanes ∧ (s.finishWrite).link.state = s.link.state ∧
      (s.finishWrite).link.expected = s.link.expected ∧ (s.finishWrite).link.lastGood = s.link.lastGood ∧
      (s.finishWrite).link.established = s.link.established ∧ (s.finishWrite).link.mismatch = s.link.mismatch ∧
      (s.finishWrite).link.loss = s.link.loss ∧ (s.finishWrite).link.openPacket = s.link.openPacket ∧
      (s.finishWrite).link.egressFull = s.link.egressFull ∧ (s.finishWrite).link.hold = s.link.hold ∧
      (s.finishWrite).link.control = s.link.control ∧ (s.finishWrite).link.stubs = s.link.stubs ∧
      (s.finishWrite).link.passList = s.link.passList ∧ (s.finishWrite).link.sending = s.link.sending ∧
      (s.finishWrite).link.discards = s.link.discards ∧ (s.finishWrite).link.stagingDrops = s.link.stagingDrops ∧
      (s.finishWrite).link.ignoredSightings = s.link.ignoredSightings ∧
      (s.finishWrite).link.rejectedWords = s.link.rejectedWords ∧ (s.finishWrite).link.returnLosses = s.link.returnLosses ∧
      (s.finishWrite).choices = s.choices ∧ (s.finishWrite).evThresholds = s.evThresholds := by
  unfold State.finishWrite
  try dsimp only
  (repeat' split) <;> first | (simp; done) | (refine ⟨?_,?_,?_,?_,?_,?_,?_,?_,?_,?_,?_,?_,?_,?_,?_,?_,?_,?_,?_,?_,?_,?_,?_,?_,?_,?_,?_,?_,?_,?_,?_,?_,?_,?_,?_,?_,?_,?_,?_,?_,?_,?_,?_,?_,?_,?_,?_,?_⟩ <;> first | rfl | (simp; done)) | simp_all

@[simp] theorem suspend_keeps (s : State) (port : Nat) :
    (s.suspend port).pending = s.pending ∧ (s.suspend port).inReset = s.inReset ∧
      (s.suspend port).mgmt.replies = s.mgmt.replies ∧ (s.suspend port).mgmt.engine = s.mgmt.engine ∧
      (s.suspend port).mgmt.commands = s.mgmt.commands ∧ (s.suspend port).mgmt.ready = s.mgmt.ready ∧
      (s.suspend port).mgmt.framer = s.mgmt.framer ∧ (s.suspend port).mgmt.sending = s.mgmt.sending ∧
      (s.suspend port).mgmt.startCause = s.mgmt.startCause ∧ (s.suspend port).mgmt.frameErrors = s.mgmt.frameErrors ∧
      (s.suspend port).mgmt.busyCount = s.mgmt.busyCount ∧ (s.suspend port).mgmt.owed = s.mgmt.owed ∧
      (s.suspend port).mgmt.busyBacklog = s.mgmt.busyBacklog ∧ (s.suspend port).mgmt.pendingErrors = s.mgmt.pendingErrors ∧
      (s.suspend port).table = s.table ∧ (s.suspend port).sched = s.sched ∧ (s.suspend port).store = s.store ∧
      (s.suspend port).pacers = s.pacers ∧ (s.suspend port).time = s.time ∧ (s.suspend port).counters = s.counters ∧
      (s.suspend port).link = s.link ∧ (s.suspend port).choices = s.choices ∧ (s.suspend port).out = s.out ∧
      (s.suspend port).evThresholds = s.evThresholds := by
  unfold State.suspend
  try dsimp only
  (repeat' split) <;> first | (simp; done) | (refine ⟨?_,?_,?_,?_,?_,?_,?_,?_,?_,?_,?_,?_,?_,?_,?_,?_,?_,?_,?_,?_,?_,?_,?_,?_⟩ <;> first | rfl | (simp; done)) | simp_all

@[simp] theorem joinReleased_keeps (s : State) (g : Nat) (e : Episode) (p : HeldPacket) :
    (s.joinReleased g e p).pending = s.pending ∧ (s.joinReleased g e p).inReset = s.inReset ∧
      (s.joinReleased g e p).mgmt = s.mgmt ∧ (s.joinReleased g e p).table = s.table ∧
      (s.joinReleased g e p).sched = s.sched ∧ (s.joinReleased g e p).store.floor = s.store.floor ∧
      (s.joinReleased g e p).store.initialising = s.store.initialising ∧
      (s.joinReleased g e p).store.corrected = s.store.corrected ∧
      (s.joinReleased g e p).store.writeList = s.store.writeList ∧
      (s.joinReleased g e p).store.transfer = s.store.transfer ∧ (s.joinReleased g e p).store.releases = s.store.releases ∧
      (s.joinReleased g e p).pacers = s.pacers ∧ (s.joinReleased g e p).time = s.time ∧
      (s.joinReleased g e p).counters = s.counters ∧ (s.joinReleased g e p).ports = s.ports ∧
      (s.joinReleased g e p).link = s.link ∧ (s.joinReleased g e p).choices = s.choices ∧
      (s.joinReleased g e p).out = s.out ∧ (s.joinReleased g e p).evThresholds = s.evThresholds := by
  unfold State.joinReleased
  try dsimp only
  (repeat' split) <;> first | (simp; done) | (refine ⟨?_,?_,?_,?_,?_,?_,?_,?_,?_,?_,?_,?_,?_,?_,?_,?_,?_,?_,?_⟩ <;> first | rfl | (simp; done)) | simp_all

@[simp] theorem finishRelease_keeps (s : State) (g : Nat) (p : HeldPacket) (uncorrectable : Bool) :
    (s.finishRelease g p uncorrectable).pending = s.pending ∧ (s.finishRelease g p uncorrectable).inReset = s.inReset ∧
      (s.finishRelease g p uncorrectable).mgmt.replies = s.mgmt.replies ∧
      (s.finishRelease g p uncorrectable).mgmt.engine = s.mgmt.engine ∧
      (s.finishRelease g p uncorrectable).mgmt.commands = s.mgmt.commands ∧
      (s.finishRelease g p uncorrectable).mgmt.ready = s.mgmt.ready ∧
      (s.finishRelease g p uncorrectable).mgmt.framer = s.mgmt.framer ∧
      (s.finishRelease g p uncorrectable).mgmt.sending = s.mgmt.sending ∧
      (s.finishRelease g p uncorrectable).mgmt.startCause = s.mgmt.startCause ∧
      (s.finishRelease g p uncorrectable).mgmt.frameErrors = s.mgmt.frameErrors ∧
      (s.finishRelease g p uncorrectable).mgmt.busyCount = s.mgmt.busyCount ∧
      (s.finishRelease g p uncorrectable).mgmt.owed = s.mgmt.owed ∧
      (s.finishRelease g p uncorrectable).mgmt.busyBacklog = s.mgmt.busyBacklog ∧
      (s.finishRelease g p uncorrectable).mgmt.pendingErrors = s.mgmt.pendingErrors ∧
      (s.finishRelease g p uncorrectable).table.generations = s.table.generations ∧
      (s.finishRelease g p uncorrectable).table.refusing = s.table.refusing ∧
      (s.finishRelease g p uncorrectable).sched = s.sched ∧
      (s.finishRelease g p uncorrectable).store.floor = s.store.floor ∧
      (s.finishRelease g p uncorrectable).store.initialising = s.store.initialising ∧
      (s.finishRelease g p uncorrectable).store.corrected = s.store.corrected ∧
      (s.finishRelease g p uncorrectable).store.writeList = s.store.writeList ∧
      (s.finishRelease g p uncorrectable).pacers = s.pacers ∧ (s.finishRelease g p uncorrectable).time = s.time ∧
      (s.finishRelease g p uncorrectable).counters = s.counters ∧ (s.finishRelease g p uncorrectable).link = s.link ∧
      (s.finishRelease g p uncorrectable).choices = s.choices ∧ (s.finishRelease g p uncorrectable).out = s.out ∧
      (s.finishRelease g p uncorrectable).evThresholds = s.evThresholds := by
  unfold State.finishRelease
  try dsimp only
  (repeat' split) <;> first | (simp; done) | (refine ⟨?_,?_,?_,?_,?_,?_,?_,?_,?_,?_,?_,?_,?_,?_,?_,?_,?_,?_,?_,?_,?_,?_,?_,?_,?_,?_,?_,?_⟩ <;> first | rfl | (simp; done)) | simp_all

@[simp] theorem noteCorrected_keeps (s : State) (words : Nat) :
    (s.noteCorrected words).pending = s.pending ∧ (s.noteCorrected words).inReset = s.inReset ∧
      (s.noteCorrected words).mgmt = s.mgmt ∧ (s.noteCorrected words).table = s.table ∧
      (s.noteCorrected words).sched = s.sched ∧ (s.noteCorrected words).store.floor = s.store.floor ∧
      (s.noteCorrected words).store.initialising = s.store.initialising ∧
      (s.noteCorrected words).store.writeList = s.store.writeList ∧
      (s.noteCorrected words).store.transfer = s.store.transfer ∧
      (s.noteCorrected words).store.releases = s.store.releases ∧
      (s.noteCorrected words).store.released = s.store.released ∧ (s.noteCorrected words).pacers = s.pacers ∧
      (s.noteCorrected words).time = s.time ∧ (s.noteCorrected words).counters = s.counters ∧
      (s.noteCorrected words).ports = s.ports ∧ (s.noteCorrected words).link = s.link ∧
      (s.noteCorrected words).choices = s.choices ∧ (s.noteCorrected words).out = s.out ∧
      (s.noteCorrected words).evThresholds = s.evThresholds := by
  unfold State.noteCorrected
  try dsimp only
  (repeat' split) <;> first | (simp; done) | (refine ⟨?_,?_,?_,?_,?_,?_,?_,?_,?_,?_,?_,?_,?_,?_,?_,?_,?_,?_,?_⟩ <;> first | rfl | (simp; done)) | simp_all

@[simp] theorem finishRead_keeps (s : State) (corrected : Nat) (uncorrectable : Bool) :
    (s.finishRead corrected uncorrectable).pending = s.pending ∧
      (s.finishRead corrected uncorrectable).inReset = s.inReset ∧
      (s.finishRead corrected uncorrectable).mgmt.replies = s.mgmt.replies ∧
      (s.finishRead corrected uncorrectable).mgmt.engine = s.mgmt.engine ∧
      (s.finishRead corrected uncorrectable).mgmt.commands = s.mgmt.commands ∧
      (s.finishRead corrected uncorrectable).mgmt.ready = s.mgmt.ready ∧
      (s.finishRead corrected uncorrectable).mgmt.framer = s.mgmt.framer ∧
      (s.finishRead corrected uncorrectable).mgmt.sending = s.mgmt.sending ∧
      (s.finishRead corrected uncorrectable).mgmt.startCause = s.mgmt.startCause ∧
      (s.finishRead corrected uncorrectable).mgmt.frameErrors = s.mgmt.frameErrors ∧
      (s.finishRead corrected uncorrectable).mgmt.busyCount = s.mgmt.busyCount ∧
      (s.finishRead corrected uncorrectable).mgmt.owed = s.mgmt.owed ∧
      (s.finishRead corrected uncorrectable).mgmt.busyBacklog = s.mgmt.busyBacklog ∧
      (s.finishRead corrected uncorrectable).mgmt.pendingErrors = s.mgmt.pendingErrors ∧
      (s.finishRead corrected uncorrectable).table.generations = s.table.generations ∧
      (s.finishRead corrected uncorrectable).table.refusing = s.table.refusing ∧
      (s.finishRead corrected uncorrectable).sched = s.sched ∧
      (s.finishRead corrected uncorrectable).store.floor = s.store.floor ∧
      (s.finishRead corrected uncorrectable).store.initialising = s.store.initialising ∧
      (s.finishRead corrected uncorrectable).store.writeList = s.store.writeList ∧
      (s.finishRead corrected uncorrectable).pacers = s.pacers ∧ (s.finishRead corrected uncorrectable).time = s.time ∧
      (s.finishRead corrected uncorrectable).counters = s.counters ∧ (s.finishRead corrected uncorrectable).link = s.link ∧
      (s.finishRead corrected uncorrectable).choices = s.choices ∧ (s.finishRead corrected uncorrectable).out = s.out ∧
      (s.finishRead corrected uncorrectable).evThresholds = s.evThresholds := by
  unfold State.finishRead
  try dsimp only
  (repeat' split) <;> first | (simp; done) | (refine ⟨?_,?_,?_,?_,?_,?_,?_,?_,?_,?_,?_,?_,?_,?_,?_,?_,?_,?_,?_,?_,?_,?_,?_,?_,?_,?_,?_⟩ <;> first | rfl | (simp; done)) | simp_all

@[simp] theorem finishCapture_keeps (s : State) (corrected : Nat) (uncorrectable : Bool) :
    (s.finishCapture corrected uncorrectable).pending = s.pending ∧
      (s.finishCapture corrected uncorrectable).inReset = s.inReset ∧
      (s.finishCapture corrected uncorrectable).mgmt.notices = s.mgmt.notices ∧
      (s.finishCapture corrected uncorrectable).mgmt.commands = s.mgmt.commands ∧
      (s.finishCapture corrected uncorrectable).mgmt.ready = s.mgmt.ready ∧
      (s.finishCapture corrected uncorrectable).mgmt.framer = s.mgmt.framer ∧
      (s.finishCapture corrected uncorrectable).mgmt.overflow = s.mgmt.overflow ∧
      (s.finishCapture corrected uncorrectable).mgmt.sending = s.mgmt.sending ∧
      (s.finishCapture corrected uncorrectable).mgmt.startCause = s.mgmt.startCause ∧
      (s.finishCapture corrected uncorrectable).mgmt.frameErrors = s.mgmt.frameErrors ∧
      (s.finishCapture corrected uncorrectable).mgmt.busyCount = s.mgmt.busyCount ∧
      (s.finishCapture corrected uncorrectable).mgmt.owed = s.mgmt.owed ∧
      (s.finishCapture corrected uncorrectable).mgmt.busyBacklog = s.mgmt.busyBacklog ∧
      (s.finishCapture corrected uncorrectable).mgmt.pendingErrors = s.mgmt.pendingErrors ∧
      (s.finishCapture corrected uncorrectable).table = s.table ∧
      (s.finishCapture corrected uncorrectable).sched = s.sched ∧
      (s.finishCapture corrected uncorrectable).store.floor = s.store.floor ∧
      (s.finishCapture corrected uncorrectable).store.initialising = s.store.initialising ∧
      (s.finishCapture corrected uncorrectable).store.writeList = s.store.writeList ∧
      (s.finishCapture corrected uncorrectable).store.releases = s.store.releases ∧
      (s.finishCapture corrected uncorrectable).store.released = s.store.released ∧
      (s.finishCapture corrected uncorrectable).pacers = s.pacers ∧
      (s.finishCapture corrected uncorrectable).time = s.time ∧
      (s.finishCapture corrected uncorrectable).counters = s.counters ∧
      (s.finishCapture corrected uncorrectable).ports = s.ports ∧ (s.finishCapture corrected uncorrectable).link = s.link ∧
      (s.finishCapture corrected uncorrectable).choices = s.choices ∧
      (s.finishCapture corrected uncorrectable).out = s.out ∧
      (s.finishCapture corrected uncorrectable).evThresholds = s.evThresholds := by
  unfold State.finishCapture
  try dsimp only
  (repeat' split) <;> first | (simp; done) | (refine ⟨?_,?_,?_,?_,?_,?_,?_,?_,?_,?_,?_,?_,?_,?_,?_,?_,?_,?_,?_,?_,?_,?_,?_,?_,?_,?_,?_,?_,?_⟩ <;> first | rfl | (simp; done)) | simp_all

end Sys2Proof.Machine
end

