-- ==== Sys2Proof/Laws/Cells.lean ====
section
/-! SUPPORT. The cells of the store: what a write's grant picks, and how many cells are in use (R73, R80). -/

set_option linter.all false

namespace Sys2Proof.Machine

/-- The cells picked for a packet: as many as asked for, all of the store, each once, none in use. -/
theorem pickCells_spec (used : List Nat) (count start : Nat) (hn : used.Nodup) (hb : ∀ c ∈ used, c < 2097152)
    (hc : used.length + count ≤ 2097152) :
    (pickCells used count start).length = count ∧ (pickCells used count start).Nodup ∧
      ∀ c ∈ pickCells used count start, c < 2097152 ∧ c ∉ used := by
  unfold pickCells
  have hN : Config.cellCount = 2097152 := rfl
  set L := (List.range (used.length + count)).map (fun i => (start + i) % Config.cellCount) with hL
  have hnd : L.Nodup := by
    rw [hL]
    apply List.Nodup.map_on
    · intro i hi j hj h
      simp only [List.mem_range] at hi hj
      rw [hN] at h
      have : i % 2097152 = j % 2097152 := by
        have : (start + i) ≡ (start + j) [MOD 2097152] := h
        exact Nat.ModEq.add_left_cancel' start this
      rw [Nat.mod_eq_of_lt (by omega), Nat.mod_eq_of_lt (by omega)] at this
      exact this
    · exact List.nodup_range
  have hlen : count ≤ (L.filter (fun c => !used.contains c)).length := by
    have h1 : (L.filter (fun c => used.contains c)).length ≤ used.length := by
      apply List.Subperm.length_le
      apply List.subperm_of_subset (hnd.filter _)
      intro c hc
      simpa using (List.mem_filter.1 hc).2
    have h2 := List.length_eq_length_filter_add (l := L) (fun c => used.contains c)
    have h3 : L.length = used.length + count := by simp [hL]
    have : (List.filter (fun x => !decide (used.contains x = true)) L) = (List.filter (fun x => !used.contains x) L) := by
      congr 1; funext x; simp
    omega
  refine ⟨?_, ?_, ?_⟩
  · rw [List.length_take]; omega
  · exact (hnd.filter _).sublist (List.take_sublist _ _)
  · intro c hc
    have hc' := List.mem_filter.1 (List.mem_of_mem_take hc)
    refine ⟨?_, by simpa using hc'.2⟩
    have := hc'.1
    rw [hL, List.mem_map] at this
    obtain ⟨i, _, rfl⟩ := this
    rw [hN]; exact Nat.mod_lt _ (by norm_num)

/-- With whole chains the cells in use are as many as the packets' lengths take. -/
theorem usedCells_length (s : State) (h : ∀ x ∈ s.packetsWithCells, x.chain.length = cellsOf x.length) :
    s.usedCells.length = (s.packetsWithCells.map (fun p => cellsOf p.length)).sum := by
  unfold State.usedCells
  rw [List.length_flatten, List.map_map]
  congr 1
  apply List.map_congr_left
  intro x hx; exact h x hx

/-- A write's grant on a state whose chains are disjoint, in range and whole: the head of the write list leaves it with a chain
of cells(L) free cells, each once (R73, R80). -/
theorem grantWrite_spec (s : State) (p : HeldPacket) (rest : List HeldPacket) (hw : s.store.writeList = p :: rest)
    (hr : s.writerWaits = true) (hn : s.usedCells.Nodup) (hb : ∀ c ∈ s.usedCells, c < 2097152)
    (hl : ∀ x ∈ s.packetsWithCells, x.chain.length = cellsOf x.length) :
    ∃ chain, s.grantWrite = { s with choices := s.choices + 1, store := { s.store with
        writeList := rest, transfer := .write { p with chain := chain }, lastServed := some .writer, passCount := s.notePass } } ∧
      chain.length = cellsOf p.length ∧ chain.Nodup ∧ ∀ c ∈ chain, c < 2097152 ∧ c ∉ s.usedCells := by
  refine ⟨pickCells s.usedCells (cellsOf p.length) (Config.firstCell s.choices), ?_, ?_⟩
  · unfold State.grantWrite; rw [hw]
  · unfold State.writerWaits at hr
    rw [hw] at hr
    simp at hr
    by_cases h0 : cellsOf p.length = 0
    · rw [h0]; unfold pickCells; simp
    · apply pickCells_spec _ _ _ hn hb
      have := hr.2
      unfold State.freeCells at this
      rw [if_neg (by simp [hr.1])] at this
      rw [usedCells_length s hl]
      simp only [Config.cellCount] at this
      omega

end Sys2Proof.Machine
end

