-- ==== Sys2Proof/Laws/Link.lean ====
section
/-! SUPPORT. What the operations of the two links leave as they were. -/

set_option linter.all false

namespace Sys2Proof.Machine

@[simp] theorem transmit_keeps (s : State) :
    (s.transmit).pending = s.pending ∧ (s.transmit).inReset = s.inReset ∧ (s.transmit).mgmt.engine = s.mgmt.engine ∧
      (s.transmit).mgmt.commands = s.mgmt.commands ∧ (s.transmit).mgmt.ready = s.mgmt.ready ∧
      (s.transmit).mgmt.framer = s.mgmt.framer ∧ (s.transmit).mgmt.startCause = s.mgmt.startCause ∧
      (s.transmit).mgmt.frameErrors = s.mgmt.frameErrors ∧ (s.transmit).mgmt.busyCount = s.mgmt.busyCount ∧
      (s.transmit).mgmt.owed = s.mgmt.owed ∧ (s.transmit).mgmt.busyBacklog = s.mgmt.busyBacklog ∧
      (s.transmit).mgmt.pendingErrors = s.mgmt.pendingErrors ∧ (s.transmit).table = s.table ∧ (s.transmit).sched = s.sched ∧
      (s.transmit).store = s.store ∧ (s.transmit).pacers = s.pacers ∧ (s.transmit).time = s.time ∧
      (s.transmit).counters = s.counters ∧ (s.transmit).ports = s.ports ∧ (s.transmit).link = s.link ∧
      (s.transmit).choices = s.choices ∧ (s.transmit).evThresholds = s.evThresholds := by
  unfold State.transmit
  try dsimp only
  (repeat' split) <;> first | (simp; done) | (refine ⟨?_,?_,?_,?_,?_,?_,?_,?_,?_,?_,?_,?_,?_,?_,?_,?_,?_,?_,?_,?_,?_,?_⟩ <;> first | rfl | (simp; done)) | simp_all

@[simp] theorem reply_keeps (s : State) (f : Frame) (status : Status) (body : ReplyBody) :
    (s.reply f status body).pending = s.pending ∧ (s.reply f status body).inReset = s.inReset ∧
      (s.reply f status body).mgmt.notices = s.mgmt.notices ∧ (s.reply f status body).mgmt.commands = s.mgmt.commands ∧
      (s.reply f status body).mgmt.ready = s.mgmt.ready ∧ (s.reply f status body).mgmt.framer = s.mgmt.framer ∧
      (s.reply f status body).mgmt.overflow = s.mgmt.overflow ∧ (s.reply f status body).mgmt.sending = s.mgmt.sending ∧
      (s.reply f status body).mgmt.startCause = s.mgmt.startCause ∧
      (s.reply f status body).mgmt.frameErrors = s.mgmt.frameErrors ∧
      (s.reply f status body).mgmt.busyCount = s.mgmt.busyCount ∧ (s.reply f status body).mgmt.owed = s.mgmt.owed ∧
      (s.reply f status body).mgmt.busyBacklog = s.mgmt.busyBacklog ∧
      (s.reply f status body).mgmt.pendingErrors = s.mgmt.pendingErrors ∧ (s.reply f status body).table = s.table ∧
      (s.reply f status body).sched = s.sched ∧ (s.reply f status body).store = s.store ∧
      (s.reply f status body).pacers = s.pacers ∧ (s.reply f status body).time = s.time ∧
      (s.reply f status body).counters = s.counters ∧ (s.reply f status body).ports = s.ports ∧
      (s.reply f status body).link = s.link ∧ (s.reply f status body).choices = s.choices ∧
      (s.reply f status body).out = s.out ∧ (s.reply f status body).evThresholds = s.evThresholds := by
  unfold State.reply
  try dsimp only
  (repeat' split) <;> first | (simp; done) | (refine ⟨?_,?_,?_,?_,?_,?_,?_,?_,?_,?_,?_,?_,?_,?_,?_,?_,?_,?_,?_,?_,?_,?_,?_,?_,?_⟩ <;> first | rfl | (simp; done)) | simp_all

@[simp] theorem updLanes_keeps (s : State) (f : Nat → Lane → Lane) :
    (s.updLanes f).pending = s.pending ∧ (s.updLanes f).inReset = s.inReset ∧ (s.updLanes f).mgmt = s.mgmt ∧
      (s.updLanes f).table = s.table ∧ (s.updLanes f).sched = s.sched ∧ (s.updLanes f).store = s.store ∧
      (s.updLanes f).pacers = s.pacers ∧ (s.updLanes f).time = s.time ∧ (s.updLanes f).counters = s.counters ∧
      (s.updLanes f).ports = s.ports ∧ (s.updLanes f).link.state = s.link.state ∧
      (s.updLanes f).link.expected = s.link.expected ∧ (s.updLanes f).link.lastGood = s.link.lastGood ∧
      (s.updLanes f).link.established = s.link.established ∧ (s.updLanes f).link.mismatch = s.link.mismatch ∧
      (s.updLanes f).link.loss = s.link.loss ∧ (s.updLanes f).link.openPacket = s.link.openPacket ∧
      (s.updLanes f).link.egressFull = s.link.egressFull ∧ (s.updLanes f).link.hold = s.link.hold ∧
      (s.updLanes f).link.paused = s.link.paused ∧ (s.updLanes f).link.control = s.link.control ∧
      (s.updLanes f).link.stubs = s.link.stubs ∧ (s.updLanes f).link.passList = s.link.passList ∧
      (s.updLanes f).link.sending = s.link.sending ∧ (s.updLanes f).link.discards = s.link.discards ∧
      (s.updLanes f).link.stagingDrops = s.link.stagingDrops ∧
      (s.updLanes f).link.ignoredSightings = s.link.ignoredSightings ∧
      (s.updLanes f).link.rejectedWords = s.link.rejectedWords ∧ (s.updLanes f).link.returnLosses = s.link.returnLosses ∧
      (s.updLanes f).choices = s.choices ∧ (s.updLanes f).out = s.out ∧ (s.updLanes f).evThresholds = s.evThresholds := by
  unfold State.updLanes
  try dsimp only
  (repeat' split) <;> first | (simp; done) | (refine ⟨?_,?_,?_,?_,?_,?_,?_,?_,?_,?_,?_,?_,?_,?_,?_,?_,?_,?_,?_,?_,?_,?_,?_,?_,?_,?_,?_,?_,?_,?_,?_,?_⟩ <;> first | rfl | (simp; done)) | simp_all

@[simp] theorem toAligning_keeps (s : State) :
    (s.toAligning).pending = s.pending ∧ (s.toAligning).inReset = s.inReset ∧ (s.toAligning).mgmt = s.mgmt ∧
      (s.toAligning).table = s.table ∧ (s.toAligning).sched = s.sched ∧ (s.toAligning).store = s.store ∧
      (s.toAligning).pacers = s.pacers ∧ (s.toAligning).time = s.time ∧ (s.toAligning).counters = s.counters ∧
      (s.toAligning).ports = s.ports ∧ (s.toAligning).link.expected = s.link.expected ∧
      (s.toAligning).link.established = s.link.established ∧ (s.toAligning).link.mismatch = s.link.mismatch ∧
      (s.toAligning).link.loss = s.link.loss ∧ (s.toAligning).link.openPacket = s.link.openPacket ∧
      (s.toAligning).link.egressFull = s.link.egressFull ∧ (s.toAligning).link.hold = s.link.hold ∧
      (s.toAligning).link.paused = s.link.paused ∧ (s.toAligning).link.control = s.link.control ∧
      (s.toAligning).link.stubs = s.link.stubs ∧ (s.toAligning).link.passList = s.link.passList ∧
      (s.toAligning).link.sending = s.link.sending ∧ (s.toAligning).link.discards = s.link.discards ∧
      (s.toAligning).link.stagingDrops = s.link.stagingDrops ∧
      (s.toAligning).link.ignoredSightings = s.link.ignoredSightings ∧
      (s.toAligning).link.rejectedWords = s.link.rejectedWords ∧ (s.toAligning).link.returnLosses = s.link.returnLosses ∧
      (s.toAligning).choices = s.choices ∧ (s.toAligning).out = s.out ∧ (s.toAligning).evThresholds = s.evThresholds := by
  unfold State.toAligning
  try dsimp only
  (repeat' split) <;> first | (simp; done) | (refine ⟨?_,?_,?_,?_,?_,?_,?_,?_,?_,?_,?_,?_,?_,?_,?_,?_,?_,?_,?_,?_,?_,?_,?_,?_,?_,?_,?_,?_,?_,?_⟩ <;> first | rfl | (simp; done)) | simp_all

@[simp] theorem deskewCheck_keeps (s : State) :
    (s.deskewCheck).pending = s.pending ∧ (s.deskewCheck).inReset = s.inReset ∧ (s.deskewCheck).mgmt = s.mgmt ∧
      (s.deskewCheck).table = s.table ∧ (s.deskewCheck).sched = s.sched ∧ (s.deskewCheck).store = s.store ∧
      (s.deskewCheck).pacers = s.pacers ∧ (s.deskewCheck).time = s.time ∧ (s.deskewCheck).counters = s.counters ∧
      (s.deskewCheck).ports = s.ports ∧ (s.deskewCheck).link.expected = s.link.expected ∧
      (s.deskewCheck).link.established = s.link.established ∧ (s.deskewCheck).link.mismatch = s.link.mismatch ∧
      (s.deskewCheck).link.loss = s.link.loss ∧ (s.deskewCheck).link.openPacket = s.link.openPacket ∧
      (s.deskewCheck).link.egressFull = s.link.egressFull ∧ (s.deskewCheck).link.hold = s.link.hold ∧
      (s.deskewCheck).link.paused = s.link.paused ∧ (s.deskewCheck).link.control = s.link.control ∧
      (s.deskewCheck).link.stubs = s.link.stubs ∧ (s.deskewCheck).link.passList = s.link.passList ∧
      (s.deskewCheck).link.sending = s.link.sending ∧ (s.deskewCheck).link.discards = s.link.discards ∧
      (s.deskewCheck).link.stagingDrops = s.link.stagingDrops ∧
      (s.deskewCheck).link.ignoredSightings = s.link.ignoredSightings ∧
      (s.deskewCheck).link.rejectedWords = s.link.rejectedWords ∧ (s.deskewCheck).link.returnLosses = s.link.returnLosses ∧
      (s.deskewCheck).choices = s.choices ∧ (s.deskewCheck).out = s.out ∧ (s.deskewCheck).evThresholds = s.evThresholds := by
  unfold State.deskewCheck
  try dsimp only
  (repeat' split) <;> first | (simp; done) | (refine ⟨?_,?_,?_,?_,?_,?_,?_,?_,?_,?_,?_,?_,?_,?_,?_,?_,?_,?_,?_,?_,?_,?_,?_,?_,?_,?_,?_,?_,?_,?_⟩ <;> first | rfl | (simp; done)) | simp_all

@[simp] theorem breakOpen_keeps (s : State) (ended : Bool) :
    (s.breakOpen ended).pending = s.pending ∧ (s.breakOpen ended).inReset = s.inReset ∧ (s.breakOpen ended).mgmt = s.mgmt ∧
      (s.breakOpen ended).table = s.table ∧ (s.breakOpen ended).sched = s.sched ∧ (s.breakOpen ended).store = s.store ∧
      (s.breakOpen ended).pacers = s.pacers ∧ (s.breakOpen ended).time = s.time ∧
      (s.breakOpen ended).counters = s.counters ∧ (s.breakOpen ended).ports = s.ports ∧
      (s.breakOpen ended).link.lanes = s.link.lanes ∧ (s.breakOpen ended).link.state = s.link.state ∧
      (s.breakOpen ended).link.expected = s.link.expected ∧ (s.breakOpen ended).link.lastGood = s.link.lastGood ∧
      (s.breakOpen ended).link.established = s.link.established ∧ (s.breakOpen ended).link.mismatch = s.link.mismatch ∧
      (s.breakOpen ended).link.loss = s.link.loss ∧ (s.breakOpen ended).link.egressFull = s.link.egressFull ∧
      (s.breakOpen ended).link.hold = s.link.hold ∧ (s.breakOpen ended).link.control = s.link.control ∧
      (s.breakOpen ended).link.stubs = s.link.stubs ∧ (s.breakOpen ended).link.passList = s.link.passList ∧
      (s.breakOpen ended).link.sending = s.link.sending ∧ (s.breakOpen ended).link.stagingDrops = s.link.stagingDrops ∧
      (s.breakOpen ended).link.ignoredSightings = s.link.ignoredSightings ∧
      (s.breakOpen ended).link.rejectedWords = s.link.rejectedWords ∧
      (s.breakOpen ended).link.returnLosses = s.link.returnLosses ∧ (s.breakOpen ended).choices = s.choices ∧
      (s.breakOpen ended).evThresholds = s.evThresholds := by
  unfold State.breakOpen
  try dsimp only
  (repeat' split) <;> first | (simp; done) | (refine ⟨?_,?_,?_,?_,?_,?_,?_,?_,?_,?_,?_,?_,?_,?_,?_,?_,?_,?_,?_,?_,?_,?_,?_,?_,?_,?_,?_,?_,?_⟩ <;> first | rfl | (simp; done)) | simp_all

@[simp] theorem rejectWord_keeps (s : State) :
    (s.rejectWord).pending = s.pending ∧ (s.rejectWord).inReset = s.inReset ∧ (s.rejectWord).mgmt = s.mgmt ∧
      (s.rejectWord).table = s.table ∧ (s.rejectWord).sched = s.sched ∧ (s.rejectWord).store = s.store ∧
      (s.rejectWord).pacers = s.pacers ∧ (s.rejectWord).time = s.time ∧ (s.rejectWord).counters = s.counters ∧
      (s.rejectWord).ports = s.ports ∧ (s.rejectWord).link.lanes = s.link.lanes ∧ (s.rejectWord).link.state = s.link.state ∧
      (s.rejectWord).link.expected = s.link.expected ∧ (s.rejectWord).link.lastGood = s.link.lastGood ∧
      (s.rejectWord).link.established = s.link.established ∧ (s.rejectWord).link.mismatch = s.link.mismatch ∧
      (s.rejectWord).link.loss = s.link.loss ∧ (s.rejectWord).link.openPacket = s.link.openPacket ∧
      (s.rejectWord).link.egressFull = s.link.egressFull ∧ (s.rejectWord).link.hold = s.link.hold ∧
      (s.rejectWord).link.paused = s.link.paused ∧ (s.rejectWord).link.control = s.link.control ∧
      (s.rejectWord).link.stubs = s.link.stubs ∧ (s.rejectWord).link.passList = s.link.passList ∧
      (s.rejectWord).link.sending = s.link.sending ∧ (s.rejectWord).link.discards = s.link.discards ∧
      (s.rejectWord).link.stagingDrops = s.link.stagingDrops ∧
      (s.rejectWord).link.ignoredSightings = s.link.ignoredSightings ∧
      (s.rejectWord).link.returnLosses = s.link.returnLosses ∧ (s.rejectWord).choices = s.choices ∧
      (s.rejectWord).out = s.out ∧ (s.rejectWord).evThresholds = s.evThresholds := by
  unfold State.rejectWord
  try dsimp only
  (repeat' split) <;> first | (simp; done) | (refine ⟨?_,?_,?_,?_,?_,?_,?_,?_,?_,?_,?_,?_,?_,?_,?_,?_,?_,?_,?_,?_,?_,?_,?_,?_,?_,?_,?_,?_,?_,?_,?_,?_⟩ <;> first | rfl | (simp; done)) | simp_all

@[simp] theorem portLoss_keeps (s : State) (g : Nat) :
    (s.portLoss g).pending = s.pending ∧ (s.portLoss g).inReset = s.inReset ∧ (s.portLoss g).mgmt = s.mgmt ∧
      (s.portLoss g).table = s.table ∧ (s.portLoss g).sched = s.sched ∧ (s.portLoss g).store = s.store ∧
      (s.portLoss g).pacers = s.pacers ∧ (s.portLoss g).time = s.time ∧ (s.portLoss g).counters = s.counters ∧
      (s.portLoss g).link = s.link ∧ (s.portLoss g).choices = s.choices ∧ (s.portLoss g).out = s.out ∧
      (s.portLoss g).evThresholds = s.evThresholds := by
  unfold State.portLoss
  try dsimp only
  (repeat' split) <;> first | (simp; done) | (refine ⟨?_,?_,?_,?_,?_,?_,?_,?_,?_,?_,?_,?_,?_⟩ <;> first | rfl | (simp; done)) | simp_all

@[simp] theorem loseItem_keeps (s : State) :
    (s.loseItem).pending = s.pending ∧ (s.loseItem).inReset = s.inReset ∧ (s.loseItem).mgmt = s.mgmt ∧
      (s.loseItem).table = s.table ∧ (s.loseItem).sched = s.sched ∧ (s.loseItem).store = s.store ∧
      (s.loseItem).pacers = s.pacers ∧ (s.loseItem).time = s.time ∧ (s.loseItem).counters = s.counters ∧
      (s.loseItem).ports = s.ports ∧ (s.loseItem).link.lanes = s.link.lanes ∧ (s.loseItem).link.state = s.link.state ∧
      (s.loseItem).link.expected = s.link.expected ∧ (s.loseItem).link.lastGood = s.link.lastGood ∧
      (s.loseItem).link.established = s.link.established ∧ (s.loseItem).link.mismatch = s.link.mismatch ∧
      (s.loseItem).link.loss = s.link.loss ∧ (s.loseItem).link.openPacket = s.link.openPacket ∧
      (s.loseItem).link.egressFull = s.link.egressFull ∧ (s.loseItem).link.hold = s.link.hold ∧
      (s.loseItem).link.control = s.link.control ∧ (s.loseItem).link.stubs = s.link.stubs ∧
      (s.loseItem).link.passList = s.link.passList ∧ (s.loseItem).link.stagingDrops = s.link.stagingDrops ∧
      (s.loseItem).link.ignoredSightings = s.link.ignoredSightings ∧
      (s.loseItem).link.rejectedWords = s.link.rejectedWords ∧ (s.loseItem).choices = s.choices ∧
      (s.loseItem).evThresholds = s.evThresholds := by
  unfold State.loseItem
  try dsimp only
  (repeat' split) <;> first | (simp; done) | (refine ⟨?_,?_,?_,?_,?_,?_,?_,?_,?_,?_,?_,?_,?_,?_,?_,?_,?_,?_,?_,?_,?_,?_,?_,?_,?_,?_,?_,?_⟩ <;> first | rfl | (simp; done)) | simp_all

@[simp] theorem loseOpen_keeps (s : State) :
    (s.loseOpen).pending = s.pending ∧ (s.loseOpen).inReset = s.inReset ∧ (s.loseOpen).mgmt = s.mgmt ∧
      (s.loseOpen).table = s.table ∧ (s.loseOpen).sched = s.sched ∧ (s.loseOpen).store = s.store ∧
      (s.loseOpen).pacers = s.pacers ∧ (s.loseOpen).time = s.time ∧ (s.loseOpen).counters = s.counters ∧
      (s.loseOpen).ports = s.ports ∧ (s.loseOpen).link.lanes = s.link.lanes ∧ (s.loseOpen).link.state = s.link.state ∧
      (s.loseOpen).link.expected = s.link.expected ∧ (s.loseOpen).link.lastGood = s.link.lastGood ∧
      (s.loseOpen).link.established = s.link.established ∧ (s.loseOpen).link.mismatch = s.link.mismatch ∧
      (s.loseOpen).link.loss = s.link.loss ∧ (s.loseOpen).link.egressFull = s.link.egressFull ∧
      (s.loseOpen).link.hold = s.link.hold ∧ (s.loseOpen).link.control = s.link.control ∧
      (s.loseOpen).link.stubs = s.link.stubs ∧ (s.loseOpen).link.passList = s.link.passList ∧
      (s.loseOpen).link.sending = s.link.sending ∧ (s.loseOpen).link.stagingDrops = s.link.stagingDrops ∧
      (s.loseOpen).link.ignoredSightings = s.link.ignoredSightings ∧
      (s.loseOpen).link.rejectedWords = s.link.rejectedWords ∧ (s.loseOpen).link.returnLosses = s.link.returnLosses ∧
      (s.loseOpen).choices = s.choices ∧ (s.loseOpen).evThresholds = s.evThresholds := by
  unfold State.loseOpen
  try dsimp only
  (repeat' split) <;> first | (simp; done) | (refine ⟨?_,?_,?_,?_,?_,?_,?_,?_,?_,?_,?_,?_,?_,?_,?_,?_,?_,?_,?_,?_,?_,?_,?_,?_,?_,?_,?_,?_,?_⟩ <;> first | rfl | (simp; done)) | simp_all

@[simp] theorem loseLink_keeps (s : State) (cause : LinkCause) :
    (s.loseLink cause).pending = s.pending ∧ (s.loseLink cause).inReset = s.inReset ∧
      (s.loseLink cause).mgmt.replies = s.mgmt.replies ∧ (s.loseLink cause).mgmt.engine = s.mgmt.engine ∧
      (s.loseLink cause).mgmt.commands = s.mgmt.commands ∧ (s.loseLink cause).mgmt.ready = s.mgmt.ready ∧
      (s.loseLink cause).mgmt.framer = s.mgmt.framer ∧ (s.loseLink cause).mgmt.sending = s.mgmt.sending ∧
      (s.loseLink cause).mgmt.startCause = s.mgmt.startCause ∧ (s.loseLink cause).mgmt.frameErrors = s.mgmt.frameErrors ∧
      (s.loseLink cause).mgmt.busyCount = s.mgmt.busyCount ∧ (s.loseLink cause).mgmt.owed = s.mgmt.owed ∧
      (s.loseLink cause).mgmt.busyBacklog = s.mgmt.busyBacklog ∧
      (s.loseLink cause).mgmt.pendingErrors = s.mgmt.pendingErrors ∧ (s.loseLink cause).table = s.table ∧
      (s.loseLink cause).sched = s.sched ∧ (s.loseLink cause).store = s.store ∧ (s.loseLink cause).pacers = s.pacers ∧
      (s.loseLink cause).time = s.time ∧ (s.loseLink cause).counters = s.counters ∧
      (s.loseLink cause).link.expected = s.link.expected ∧ (s.loseLink cause).link.established = s.link.established ∧
      (s.loseLink cause).link.mismatch = s.link.mismatch ∧ (s.loseLink cause).link.egressFull = s.link.egressFull ∧
      (s.loseLink cause).link.stubs = s.link.stubs ∧ (s.loseLink cause).link.passList = s.link.passList ∧
      (s.loseLink cause).link.stagingDrops = s.link.stagingDrops ∧
      (s.loseLink cause).link.ignoredSightings = s.link.ignoredSightings ∧
      (s.loseLink cause).link.rejectedWords = s.link.rejectedWords ∧ (s.loseLink cause).choices = s.choices ∧
      (s.loseLink cause).evThresholds = s.evThresholds := by
  refine ⟨?_, ?_, ?_, ?_, ?_, ?_, ?_, ?_, ?_, ?_, ?_, ?_, ?_, ?_, ?_, ?_, ?_, ?_, ?_, ?_, ?_, ?_, ?_, ?_, ?_, ?_, ?_, ?_, ?_, ?_, ?_⟩
  · unfold State.loseLink; (try dsimp only); (repeat' split) <;> (try dsimp only) <;>
      first | rfl | (simp; done) | (rw [foldl_keeps (fun s : State => s.pending) _ (by intros; simp)]; (try simp); done) |
        (simp; (try rw [foldl_keeps (fun s : State => s.pending) _ (by intros; simp)]); done)
  · unfold State.loseLink; (try dsimp only); (repeat' split) <;> (try dsimp only) <;>
      first | rfl | (simp; done) | (rw [foldl_keeps (fun s : State => s.inReset) _ (by intros; simp)]; (try simp); done) |
        (simp; (try rw [foldl_keeps (fun s : State => s.inReset) _ (by intros; simp)]); done)
  · unfold State.loseLink; (try dsimp only); (repeat' split) <;> (try dsimp only) <;>
      first | rfl | (simp; done) | (rw [foldl_keeps (fun s : State => s.mgmt.replies) _ (by intros; simp)]; (try simp); done) |
        (simp; (try rw [foldl_keeps (fun s : State => s.mgmt.replies) _ (by intros; simp)]); done)
  · unfold State.loseLink; (try dsimp only); (repeat' split) <;> (try dsimp only) <;>
      first | rfl | (simp; done) | (rw [foldl_keeps (fun s : State => s.mgmt.engine) _ (by intros; simp)]; (try simp); done) |
        (simp; (try rw [foldl_keeps (fun s : State => s.mgmt.engine) _ (by intros; simp)]); done)
  · unfold State.loseLink; (try dsimp only); (repeat' split) <;> (try dsimp only) <;>
      first | rfl | (simp; done) | (rw [foldl_keeps (fun s : State => s.mgmt.commands) _ (by intros; simp)]; (try simp); done) |
        (simp; (try rw [foldl_keeps (fun s : State => s.mgmt.commands) _ (by intros; simp)]); done)
  · unfold State.loseLink; (try dsimp only); (repeat' split) <;> (try dsimp only) <;>
      first | rfl | (simp; done) | (rw [foldl_keeps (fun s : State => s.mgmt.ready) _ (by intros; simp)]; (try simp); done) |
        (simp; (try rw [foldl_keeps (fun s : State => s.mgmt.ready) _ (by intros; simp)]); done)
  · unfold State.loseLink; (try dsimp only); (repeat' split) <;> (try dsimp only) <;>
      first | rfl | (simp; done) | (rw [foldl_keeps (fun s : State => s.mgmt.framer) _ (by intros; simp)]; (try simp); done) |
        (simp; (try rw [foldl_keeps (fun s : State => s.mgmt.framer) _ (by intros; simp)]); done)
  · unfold State.loseLink; (try dsimp only); (repeat' split) <;> (try dsimp only) <;>
      first | rfl | (simp; done) | (rw [foldl_keeps (fun s : State => s.mgmt.sending) _ (by intros; simp)]; (try simp); done) |
        (simp; (try rw [foldl_keeps (fun s : State => s.mgmt.sending) _ (by intros; simp)]); done)
  · unfold State.loseLink; (try dsimp only); (repeat' split) <;> (try dsimp only) <;>
      first | rfl | (simp; done) | (rw [foldl_keeps (fun s : State => s.mgmt.startCause) _ (by intros; simp)]; (try simp); done) |
        (simp; (try rw [foldl_keeps (fun s : State => s.mgmt.startCause) _ (by intros; simp)]); done)
  · unfold State.loseLink; (try dsimp only); (repeat' split) <;> (try dsimp only) <;>
      first | rfl | (simp; done) | (rw [foldl_keeps (fun s : State => s.mgmt.frameErrors) _ (by intros; simp)]; (try simp); done) |
        (simp; (try rw [foldl_keeps (fun s : State => s.mgmt.frameErrors) _ (by intros; simp)]); done)
  · unfold State.loseLink; (try dsimp only); (repeat' split) <;> (try dsimp only) <;>
      first | rfl | (simp; done) | (rw [foldl_keeps (fun s : State => s.mgmt.busyCount) _ (by intros; simp)]; (try simp); done) |
        (simp; (try rw [foldl_keeps (fun s : State => s.mgmt.busyCount) _ (by intros; simp)]); done)
  · unfold State.loseLink; (try dsimp only); (repeat' split) <;> (try dsimp only) <;>
      first | rfl | (simp; done) | (rw [foldl_keeps (fun s : State => s.mgmt.owed) _ (by intros; simp)]; (try simp); done) |
        (simp; (try rw [foldl_keeps (fun s : State => s.mgmt.owed) _ (by intros; simp)]); done)
  · unfold State.loseLink; (try dsimp only); (repeat' split) <;> (try dsimp only) <;>
      first | rfl | (simp; done) | (rw [foldl_keeps (fun s : State => s.mgmt.busyBacklog) _ (by intros; simp)]; (try simp); done) |
        (simp; (try rw [foldl_keeps (fun s : State => s.mgmt.busyBacklog) _ (by intros; simp)]); done)
  · unfold State.loseLink; (try dsimp only); (repeat' split) <;> (try dsimp only) <;>
      first | rfl | (simp; done) | (rw [foldl_keeps (fun s : State => s.mgmt.pendingErrors) _ (by intros; simp)]; (try simp); done) |
        (simp; (try rw [foldl_keeps (fun s : State => s.mgmt.pendingErrors) _ (by intros; simp)]); done)
  · unfold State.loseLink; (try dsimp only); (repeat' split) <;> (try dsimp only) <;>
      first | rfl | (simp; done) | (rw [foldl_keeps (fun s : State => s.table) _ (by intros; simp)]; (try simp); done) |
        (simp; (try rw [foldl_keeps (fun s : State => s.table) _ (by intros; simp)]); done)
  · unfold State.loseLink; (try dsimp only); (repeat' split) <;> (try dsimp only) <;>
      first | rfl | (simp; done) | (rw [foldl_keeps (fun s : State => s.sched) _ (by intros; simp)]; (try simp); done) |
        (simp; (try rw [foldl_keeps (fun s : State => s.sched) _ (by intros; simp)]); done)
  · unfold State.loseLink; (try dsimp only); (repeat' split) <;> (try dsimp only) <;>
      first | rfl | (simp; done) | (rw [foldl_keeps (fun s : State => s.store) _ (by intros; simp)]; (try simp); done) |
        (simp; (try rw [foldl_keeps (fun s : State => s.store) _ (by intros; simp)]); done)
  · unfold State.loseLink; (try dsimp only); (repeat' split) <;> (try dsimp only) <;>
      first | rfl | (simp; done) | (rw [foldl_keeps (fun s : State => s.pacers) _ (by intros; simp)]; (try simp); done) |
        (simp; (try rw [foldl_keeps (fun s : State => s.pacers) _ (by intros; simp)]); done)
  · unfold State.loseLink; (try dsimp only); (repeat' split) <;> (try dsimp only) <;>
      first | rfl | (simp; done) | (rw [foldl_keeps (fun s : State => s.time) _ (by intros; simp)]; (try simp); done) |
        (simp; (try rw [foldl_keeps (fun s : State => s.time) _ (by intros; simp)]); done)
  · unfold State.loseLink; (try dsimp only); (repeat' split) <;> (try dsimp only) <;>
      first | rfl | (simp; done) | (rw [foldl_keeps (fun s : State => s.counters) _ (by intros; simp)]; (try simp); done) |
        (simp; (try rw [foldl_keeps (fun s : State => s.counters) _ (by intros; simp)]); done)
  · unfold State.loseLink; (try dsimp only); (repeat' split) <;> (try dsimp only) <;>
      first | rfl | (simp; done) | (rw [foldl_keeps (fun s : State => s.link.expected) _ (by intros; simp)]; (try simp); done) |
        (simp; (try rw [foldl_keeps (fun s : State => s.link.expected) _ (by intros; simp)]); done)
  · unfold State.loseLink; (try dsimp only); (repeat' split) <;> (try dsimp only) <;>
      first | rfl | (simp; done) | (rw [foldl_keeps (fun s : State => s.link.established) _ (by intros; simp)]; (try simp); done) |
        (simp; (try rw [foldl_keeps (fun s : State => s.link.established) _ (by intros; simp)]); done)
  · unfold State.loseLink; (try dsimp only); (repeat' split) <;> (try dsimp only) <;>
      first | rfl | (simp; done) | (rw [foldl_keeps (fun s : State => s.link.mismatch) _ (by intros; simp)]; (try simp); done) |
        (simp; (try rw [foldl_keeps (fun s : State => s.link.mismatch) _ (by intros; simp)]); done)
  · unfold State.loseLink; (try dsimp only); (repeat' split) <;> (try dsimp only) <;>
      first | rfl | (simp; done) | (rw [foldl_keeps (fun s : State => s.link.egressFull) _ (by intros; simp)]; (try simp); done) |
        (simp; (try rw [foldl_keeps (fun s : State => s.link.egressFull) _ (by intros; simp)]); done)
  · unfold State.loseLink; (try dsimp only); (repeat' split) <;> (try dsimp only) <;>
      first | rfl | (simp; done) | (rw [foldl_keeps (fun s : State => s.link.stubs) _ (by intros; simp)]; (try simp); done) |
        (simp; (try rw [foldl_keeps (fun s : State => s.link.stubs) _ (by intros; simp)]); done)
  · unfold State.loseLink; (try dsimp only); (repeat' split) <;> (try dsimp only) <;>
      first | rfl | (simp; done) | (rw [foldl_keeps (fun s : State => s.link.passList) _ (by intros; simp)]; (try simp); done) |
        (simp; (try rw [foldl_keeps (fun s : State => s.link.passList) _ (by intros; simp)]); done)
  · unfold State.loseLink; (try dsimp only); (repeat' split) <;> (try dsimp only) <;>
      first | rfl | (simp; done) | (rw [foldl_keeps (fun s : State => s.link.stagingDrops) _ (by intros; simp)]; (try simp); done) |
        (simp; (try rw [foldl_keeps (fun s : State => s.link.stagingDrops) _ (by intros; simp)]); done)
  · unfold State.loseLink; (try dsimp only); (repeat' split) <;> (try dsimp only) <;>
      first | rfl | (simp; done) | (rw [foldl_keeps (fun s : State => s.link.ignoredSightings) _ (by intros; simp)]; (try simp); done) |
        (simp; (try rw [foldl_keeps (fun s : State => s.link.ignoredSightings) _ (by intros; simp)]); done)
  · unfold State.loseLink; (try dsimp only); (repeat' split) <;> (try dsimp only) <;>
      first | rfl | (simp; done) | (rw [foldl_keeps (fun s : State => s.link.rejectedWords) _ (by intros; simp)]; (try simp); done) |
        (simp; (try rw [foldl_keeps (fun s : State => s.link.rejectedWords) _ (by intros; simp)]); done)
  · unfold State.loseLink; (try dsimp only); (repeat' split) <;> (try dsimp only) <;>
      first | rfl | (simp; done) | (rw [foldl_keeps (fun s : State => s.choices) _ (by intros; simp)]; (try simp); done) |
        (simp; (try rw [foldl_keeps (fun s : State => s.choices) _ (by intros; simp)]); done)
  · unfold State.loseLink; (try dsimp only); (repeat' split) <;> (try dsimp only) <;>
      first | rfl | (simp; done) | (rw [foldl_keeps (fun s : State => s.evThresholds) _ (by intros; simp)]; (try simp); done) |
        (simp; (try rw [foldl_keeps (fun s : State => s.evThresholds) _ (by intros; simp)]); done)

@[simp] theorem restart_keeps (s : State) (g : Nat) :
    (s.restart g).pending = s.pending ∧ (s.restart g).inReset = s.inReset ∧ (s.restart g).mgmt = s.mgmt ∧
      (s.restart g).table = s.table ∧ (s.restart g).sched = s.sched ∧ (s.restart g).store = s.store ∧
      (s.restart g).pacers = s.pacers ∧ (s.restart g).time = s.time ∧ (s.restart g).counters = s.counters ∧
      (s.restart g).ports = s.ports ∧ (s.restart g).link.lanes = s.link.lanes ∧ (s.restart g).link.state = s.link.state ∧
      (s.restart g).link.expected = s.link.expected ∧ (s.restart g).link.lastGood = s.link.lastGood ∧
      (s.restart g).link.established = s.link.established ∧ (s.restart g).link.mismatch = s.link.mismatch ∧
      (s.restart g).link.loss = s.link.loss ∧ (s.restart g).link.openPacket = s.link.openPacket ∧
      (s.restart g).link.egressFull = s.link.egressFull ∧ (s.restart g).link.hold = s.link.hold ∧
      (s.restart g).link.paused = s.link.paused ∧ (s.restart g).link.stubs = s.link.stubs ∧
      (s.restart g).link.passList = s.link.passList ∧ (s.restart g).link.sending = s.link.sending ∧
      (s.restart g).link.discards = s.link.discards ∧ (s.restart g).link.stagingDrops = s.link.stagingDrops ∧
      (s.restart g).link.ignoredSightings = s.link.ignoredSightings ∧
      (s.restart g).link.rejectedWords = s.link.rejectedWords ∧ (s.restart g).link.returnLosses = s.link.returnLosses ∧
      (s.restart g).choices = s.choices ∧ (s.restart g).out = s.out ∧ (s.restart g).evThresholds = s.evThresholds := by
  unfold State.restart
  try dsimp only
  (repeat' split) <;> first | (simp; done) | (refine ⟨?_,?_,?_,?_,?_,?_,?_,?_,?_,?_,?_,?_,?_,?_,?_,?_,?_,?_,?_,?_,?_,?_,?_,?_,?_,?_,?_,?_,?_,?_,?_,?_⟩ <;> first | rfl | (simp; done)) | simp_all

@[simp] theorem reachUp_keeps (s : State) (p : LinkParams) :
    (s.reachUp p).pending = s.pending ∧ (s.reachUp p).inReset = s.inReset ∧ (s.reachUp p).mgmt.replies = s.mgmt.replies ∧
      (s.reachUp p).mgmt.engine = s.mgmt.engine ∧ (s.reachUp p).mgmt.commands = s.mgmt.commands ∧
      (s.reachUp p).mgmt.ready = s.mgmt.ready ∧ (s.reachUp p).mgmt.framer = s.mgmt.framer ∧
      (s.reachUp p).mgmt.sending = s.mgmt.sending ∧ (s.reachUp p).mgmt.startCause = s.mgmt.startCause ∧
      (s.reachUp p).mgmt.frameErrors = s.mgmt.frameErrors ∧ (s.reachUp p).mgmt.busyCount = s.mgmt.busyCount ∧
      (s.reachUp p).mgmt.owed = s.mgmt.owed ∧ (s.reachUp p).mgmt.busyBacklog = s.mgmt.busyBacklog ∧
      (s.reachUp p).mgmt.pendingErrors = s.mgmt.pendingErrors ∧ (s.reachUp p).table = s.table ∧
      (s.reachUp p).sched = s.sched ∧ (s.reachUp p).store = s.store ∧ (s.reachUp p).pacers = s.pacers ∧
      (s.reachUp p).time = s.time ∧ (s.reachUp p).counters = s.counters ∧ (s.reachUp p).ports = s.ports ∧
      (s.reachUp p).link.lanes = s.link.lanes ∧ (s.reachUp p).link.expected = s.link.expected ∧
      (s.reachUp p).link.lastGood = s.link.lastGood ∧ (s.reachUp p).link.mismatch = s.link.mismatch ∧
      (s.reachUp p).link.loss = s.link.loss ∧ (s.reachUp p).link.openPacket = s.link.openPacket ∧
      (s.reachUp p).link.paused = s.link.paused ∧ (s.reachUp p).link.stubs = s.link.stubs ∧
      (s.reachUp p).link.passList = s.link.passList ∧ (s.reachUp p).link.sending = s.link.sending ∧
      (s.reachUp p).link.discards = s.link.discards ∧ (s.reachUp p).link.stagingDrops = s.link.stagingDrops ∧
      (s.reachUp p).link.ignoredSightings = s.link.ignoredSightings ∧
      (s.reachUp p).link.rejectedWords = s.link.rejectedWords ∧ (s.reachUp p).link.returnLosses = s.link.returnLosses ∧
      (s.reachUp p).choices = s.choices ∧ (s.reachUp p).evThresholds = s.evThresholds := by
  refine ⟨?_, ?_, ?_, ?_, ?_, ?_, ?_, ?_, ?_, ?_, ?_, ?_, ?_, ?_, ?_, ?_, ?_, ?_, ?_, ?_, ?_, ?_, ?_, ?_, ?_, ?_, ?_, ?_, ?_, ?_, ?_, ?_, ?_, ?_, ?_, ?_, ?_, ?_⟩
  · unfold State.reachUp; (try dsimp only); (repeat' split) <;> (try dsimp only) <;>
      first | rfl | (simp; done) | (rw [foldl_keeps (fun s : State => s.pending) _ (by intros; simp)]; (try simp); done) |
        (simp; (try rw [foldl_keeps (fun s : State => s.pending) _ (by intros; simp)]); done)
  · unfold State.reachUp; (try dsimp only); (repeat' split) <;> (try dsimp only) <;>
      first | rfl | (simp; done) | (rw [foldl_keeps (fun s : State => s.inReset) _ (by intros; simp)]; (try simp); done) |
        (simp; (try rw [foldl_keeps (fun s : State => s.inReset) _ (by intros; simp)]); done)
  · unfold State.reachUp; (try dsimp only); (repeat' split) <;> (try dsimp only) <;>
      first | rfl | (simp; done) | (rw [foldl_keeps (fun s : State => s.mgmt.replies) _ (by intros; simp)]; (try simp); done) |
        (simp; (try rw [foldl_keeps (fun s : State => s.mgmt.replies) _ (by intros; simp)]); done)
  · unfold State.reachUp; (try dsimp only); (repeat' split) <;> (try dsimp only) <;>
      first | rfl | (simp; done) | (rw [foldl_keeps (fun s : State => s.mgmt.engine) _ (by intros; simp)]; (try simp); done) |
        (simp; (try rw [foldl_keeps (fun s : State => s.mgmt.engine) _ (by intros; simp)]); done)
  · unfold State.reachUp; (try dsimp only); (repeat' split) <;> (try dsimp only) <;>
      first | rfl | (simp; done) | (rw [foldl_keeps (fun s : State => s.mgmt.commands) _ (by intros; simp)]; (try simp); done) |
        (simp; (try rw [foldl_keeps (fun s : State => s.mgmt.commands) _ (by intros; simp)]); done)
  · unfold State.reachUp; (try dsimp only); (repeat' split) <;> (try dsimp only) <;>
      first | rfl | (simp; done) | (rw [foldl_keeps (fun s : State => s.mgmt.ready) _ (by intros; simp)]; (try simp); done) |
        (simp; (try rw [foldl_keeps (fun s : State => s.mgmt.ready) _ (by intros; simp)]); done)
  · unfold State.reachUp; (try dsimp only); (repeat' split) <;> (try dsimp only) <;>
      first | rfl | (simp; done) | (rw [foldl_keeps (fun s : State => s.mgmt.framer) _ (by intros; simp)]; (try simp); done) |
        (simp; (try rw [foldl_keeps (fun s : State => s.mgmt.framer) _ (by intros; simp)]); done)
  · unfold State.reachUp; (try dsimp only); (repeat' split) <;> (try dsimp only) <;>
      first | rfl | (simp; done) | (rw [foldl_keeps (fun s : State => s.mgmt.sending) _ (by intros; simp)]; (try simp); done) |
        (simp; (try rw [foldl_keeps (fun s : State => s.mgmt.sending) _ (by intros; simp)]); done)
  · unfold State.reachUp; (try dsimp only); (repeat' split) <;> (try dsimp only) <;>
      first | rfl | (simp; done) | (rw [foldl_keeps (fun s : State => s.mgmt.startCause) _ (by intros; simp)]; (try simp); done) |
        (simp; (try rw [foldl_keeps (fun s : State => s.mgmt.startCause) _ (by intros; simp)]); done)
  · unfold State.reachUp; (try dsimp only); (repeat' split) <;> (try dsimp only) <;>
      first | rfl | (simp; done) | (rw [foldl_keeps (fun s : State => s.mgmt.frameErrors) _ (by intros; simp)]; (try simp); done) |
        (simp; (try rw [foldl_keeps (fun s : State => s.mgmt.frameErrors) _ (by intros; simp)]); done)
  · unfold State.reachUp; (try dsimp only); (repeat' split) <;> (try dsimp only) <;>
      first | rfl | (simp; done) | (rw [foldl_keeps (fun s : State => s.mgmt.busyCount) _ (by intros; simp)]; (try simp); done) |
        (simp; (try rw [foldl_keeps (fun s : State => s.mgmt.busyCount) _ (by intros; simp)]); done)
  · unfold State.reachUp; (try dsimp only); (repeat' split) <;> (try dsimp only) <;>
      first | rfl | (simp; done) | (rw [foldl_keeps (fun s : State => s.mgmt.owed) _ (by intros; simp)]; (try simp); done) |
        (simp; (try rw [foldl_keeps (fun s : State => s.mgmt.owed) _ (by intros; simp)]); done)
  · unfold State.reachUp; (try dsimp only); (repeat' split) <;> (try dsimp only) <;>
      first | rfl | (simp; done) | (rw [foldl_keeps (fun s : State => s.mgmt.busyBacklog) _ (by intros; simp)]; (try simp); done) |
        (simp; (try rw [foldl_keeps (fun s : State => s.mgmt.busyBacklog) _ (by intros; simp)]); done)
  · unfold State.reachUp; (try dsimp only); (repeat' split) <;> (try dsimp only) <;>
      first | rfl | (simp; done) | (rw [foldl_keeps (fun s : State => s.mgmt.pendingErrors) _ (by intros; simp)]; (try simp); done) |
        (simp; (try rw [foldl_keeps (fun s : State => s.mgmt.pendingErrors) _ (by intros; simp)]); done)
  · unfold State.reachUp; (try dsimp only); (repeat' split) <;> (try dsimp only) <;>
      first | rfl | (simp; done) | (rw [foldl_keeps (fun s : State => s.table) _ (by intros; simp)]; (try simp); done) |
        (simp; (try rw [foldl_keeps (fun s : State => s.table) _ (by intros; simp)]); done)
  · unfold State.reachUp; (try dsimp only); (repeat' split) <;> (try dsimp only) <;>
      first | rfl | (simp; done) | (rw [foldl_keeps (fun s : State => s.sched) _ (by intros; simp)]; (try simp); done) |
        (simp; (try rw [foldl_keeps (fun s : State => s.sched) _ (by intros; simp)]); done)
  · unfold State.reachUp; (try dsimp only); (repeat' split) <;> (try dsimp only) <;>
      first | rfl | (simp; done) | (rw [foldl_keeps (fun s : State => s.store) _ (by intros; simp)]; (try simp); done) |
        (simp; (try rw [foldl_keeps (fun s : State => s.store) _ (by intros; simp)]); done)
  · unfold State.reachUp; (try dsimp only); (repeat' split) <;> (try dsimp only) <;>
      first | rfl | (simp; done) | (rw [foldl_keeps (fun s : State => s.pacers) _ (by intros; simp)]; (try simp); done) |
        (simp; (try rw [foldl_keeps (fun s : State => s.pacers) _ (by intros; simp)]); done)
  · unfold State.reachUp; (try dsimp only); (repeat' split) <;> (try dsimp only) <;>
      first | rfl | (simp; done) | (rw [foldl_keeps (fun s : State => s.time) _ (by intros; simp)]; (try simp); done) |
        (simp; (try rw [foldl_keeps (fun s : State => s.time) _ (by intros; simp)]); done)
  · unfold State.reachUp; (try dsimp only); (repeat' split) <;> (try dsimp only) <;>
      first | rfl | (simp; done) | (rw [foldl_keeps (fun s : State => s.counters) _ (by intros; simp)]; (try simp); done) |
        (simp; (try rw [foldl_keeps (fun s : State => s.counters) _ (by intros; simp)]); done)
  · unfold State.reachUp; (try dsimp only); (repeat' split) <;> (try dsimp only) <;>
      first | rfl | (simp; done) | (rw [foldl_keeps (fun s : State => s.ports) _ (by intros; simp)]; (try simp); done) |
        (simp; (try rw [foldl_keeps (fun s : State => s.ports) _ (by intros; simp)]); done)
  · unfold State.reachUp; (try dsimp only); (repeat' split) <;> (try dsimp only) <;>
      first | rfl | (simp; done) | (rw [foldl_keeps (fun s : State => s.link.lanes) _ (by intros; simp)]; (try simp); done) |
        (simp; (try rw [foldl_keeps (fun s : State => s.link.lanes) _ (by intros; simp)]); done)
  · unfold State.reachUp; (try dsimp only); (repeat' split) <;> (try dsimp only) <;>
      first | rfl | (simp; done) | (rw [foldl_keeps (fun s : State => s.link.expected) _ (by intros; simp)]; (try simp); done) |
        (simp; (try rw [foldl_keeps (fun s : State => s.link.expected) _ (by intros; simp)]); done)
  · unfold State.reachUp; (try dsimp only); (repeat' split) <;> (try dsimp only) <;>
      first | rfl | (simp; done) | (rw [foldl_keeps (fun s : State => s.link.lastGood) _ (by intros; simp)]; (try simp); done) |
        (simp; (try rw [foldl_keeps (fun s : State => s.link.lastGood) _ (by intros; simp)]); done)
  · unfold State.reachUp; (try dsimp only); (repeat' split) <;> (try dsimp only) <;>
      first | rfl | (simp; done) | (rw [foldl_keeps (fun s : State => s.link.mismatch) _ (by intros; simp)]; (try simp); done) |
        (simp; (try rw [foldl_keeps (fun s : State => s.link.mismatch) _ (by intros; simp)]); done)
  · unfold State.reachUp; (try dsimp only); (repeat' split) <;> (try dsimp only) <;>
      first | rfl | (simp; done) | (rw [foldl_keeps (fun s : State => s.link.loss) _ (by intros; simp)]; (try simp); done) |
        (simp; (try rw [foldl_keeps (fun s : State => s.link.loss) _ (by intros; simp)]); done)
  · unfold State.reachUp; (try dsimp only); (repeat' split) <;> (try dsimp only) <;>
      first | rfl | (simp; done) | (rw [foldl_keeps (fun s : State => s.link.openPacket) _ (by intros; simp)]; (try simp); done) |
        (simp; (try rw [foldl_keeps (fun s : State => s.link.openPacket) _ (by intros; simp)]); done)
  · unfold State.reachUp; (try dsimp only); (repeat' split) <;> (try dsimp only) <;>
      first | rfl | (simp; done) | (rw [foldl_keeps (fun s : State => s.link.paused) _ (by intros; simp)]; (try simp); done) |
        (simp; (try rw [foldl_keeps (fun s : State => s.link.paused) _ (by intros; simp)]); done)
  · unfold State.reachUp; (try dsimp only); (repeat' split) <;> (try dsimp only) <;>
      first | rfl | (simp; done) | (rw [foldl_keeps (fun s : State => s.link.stubs) _ (by intros; simp)]; (try simp); done) |
        (simp; (try rw [foldl_keeps (fun s : State => s.link.stubs) _ (by intros; simp)]); done)
  · unfold State.reachUp; (try dsimp only); (repeat' split) <;> (try dsimp only) <;>
      first | rfl | (simp; done) | (rw [foldl_keeps (fun s : State => s.link.passList) _ (by intros; simp)]; (try simp); done) |
        (simp; (try rw [foldl_keeps (fun s : State => s.link.passList) _ (by intros; simp)]); done)
  · unfold State.reachUp; (try dsimp only); (repeat' split) <;> (try dsimp only) <;>
      first | rfl | (simp; done) | (rw [foldl_keeps (fun s : State => s.link.sending) _ (by intros; simp)]; (try simp); done) |
        (simp; (try rw [foldl_keeps (fun s : State => s.link.sending) _ (by intros; simp)]); done)
  · unfold State.reachUp; (try dsimp only); (repeat' split) <;> (try dsimp only) <;>
      first | rfl | (simp; done) | (rw [foldl_keeps (fun s : State => s.link.discards) _ (by intros; simp)]; (try simp); done) |
        (simp; (try rw [foldl_keeps (fun s : State => s.link.discards) _ (by intros; simp)]); done)
  · unfold State.reachUp; (try dsimp only); (repeat' split) <;> (try dsimp only) <;>
      first | rfl | (simp; done) | (rw [foldl_keeps (fun s : State => s.link.stagingDrops) _ (by intros; simp)]; (try simp); done) |
        (simp; (try rw [foldl_keeps (fun s : State => s.link.stagingDrops) _ (by intros; simp)]); done)
  · unfold State.reachUp; (try dsimp only); (repeat' split) <;> (try dsimp only) <;>
      first | rfl | (simp; done) | (rw [foldl_keeps (fun s : State => s.link.ignoredSightings) _ (by intros; simp)]; (try simp); done) |
        (simp; (try rw [foldl_keeps (fun s : State => s.link.ignoredSightings) _ (by intros; simp)]); done)
  · unfold State.reachUp; (try dsimp only); (repeat' split) <;> (try dsimp only) <;>
      first | rfl | (simp; done) | (rw [foldl_keeps (fun s : State => s.link.rejectedWords) _ (by intros; simp)]; (try simp); done) |
        (simp; (try rw [foldl_keeps (fun s : State => s.link.rejectedWords) _ (by intros; simp)]); done)
  · unfold State.reachUp; (try dsimp only); (repeat' split) <;> (try dsimp only) <;>
      first | rfl | (simp; done) | (rw [foldl_keeps (fun s : State => s.link.returnLosses) _ (by intros; simp)]; (try simp); done) |
        (simp; (try rw [foldl_keeps (fun s : State => s.link.returnLosses) _ (by intros; simp)]); done)
  · unfold State.reachUp; (try dsimp only); (repeat' split) <;> (try dsimp only) <;>
      first | rfl | (simp; done) | (rw [foldl_keeps (fun s : State => s.choices) _ (by intros; simp)]; (try simp); done) |
        (simp; (try rw [foldl_keeps (fun s : State => s.choices) _ (by intros; simp)]); done)
  · unfold State.reachUp; (try dsimp only); (repeat' split) <;> (try dsimp only) <;>
      first | rfl | (simp; done) | (rw [foldl_keeps (fun s : State => s.evThresholds) _ (by intros; simp)]; (try simp); done) |
        (simp; (try rw [foldl_keeps (fun s : State => s.evThresholds) _ (by intros; simp)]); done)

@[simp] theorem framingError_keeps (s : State) (lane : Nat) :
    (s.framingError lane).pending = s.pending ∧ (s.framingError lane).inReset = s.inReset ∧
      (s.framingError lane).mgmt.replies = s.mgmt.replies ∧ (s.framingError lane).mgmt.engine = s.mgmt.engine ∧
      (s.framingError lane).mgmt.commands = s.mgmt.commands ∧ (s.framingError lane).mgmt.ready = s.mgmt.ready ∧
      (s.framingError lane).mgmt.framer = s.mgmt.framer ∧ (s.framingError lane).mgmt.sending = s.mgmt.sending ∧
      (s.framingError lane).mgmt.startCause = s.mgmt.startCause ∧
      (s.framingError lane).mgmt.frameErrors = s.mgmt.frameErrors ∧
      (s.framingError lane).mgmt.busyCount = s.mgmt.busyCount ∧ (s.framingError lane).mgmt.owed = s.mgmt.owed ∧
      (s.framingError lane).mgmt.busyBacklog = s.mgmt.busyBacklog ∧
      (s.framingError lane).mgmt.pendingErrors = s.mgmt.pendingErrors ∧ (s.framingError lane).table = s.table ∧
      (s.framingError lane).sched = s.sched ∧ (s.framingError lane).store = s.store ∧
      (s.framingError lane).pacers = s.pacers ∧ (s.framingError lane).time = s.time ∧
      (s.framingError lane).counters = s.counters ∧ (s.framingError lane).link.expected = s.link.expected ∧
      (s.framingError lane).link.established = s.link.established ∧ (s.framingError lane).link.mismatch = s.link.mismatch ∧
      (s.framingError lane).link.egressFull = s.link.egressFull ∧ (s.framingError lane).link.stubs = s.link.stubs ∧
      (s.framingError lane).link.passList = s.link.passList ∧
      (s.framingError lane).link.stagingDrops = s.link.stagingDrops ∧
      (s.framingError lane).link.ignoredSightings = s.link.ignoredSightings ∧
      (s.framingError lane).link.rejectedWords = s.link.rejectedWords ∧ (s.framingError lane).choices = s.choices ∧
      (s.framingError lane).evThresholds = s.evThresholds := by
  unfold State.framingError
  try dsimp only
  (repeat' split) <;> first | (simp; done) | (refine ⟨?_,?_,?_,?_,?_,?_,?_,?_,?_,?_,?_,?_,?_,?_,?_,?_,?_,?_,?_,?_,?_,?_,?_,?_,?_,?_,?_,?_,?_,?_,?_⟩ <;> first | rfl | (simp; done)) | simp_all

@[simp] theorem damagedWord_keeps (s : State) (blocks : Vector BlockCheck 4) (typeCode : Byte) (ofPacket : Bool) :
    (s.damagedWord blocks typeCode ofPacket).pending = s.pending ∧
      (s.damagedWord blocks typeCode ofPacket).inReset = s.inReset ∧
      (s.damagedWord blocks typeCode ofPacket).mgmt = s.mgmt ∧ (s.damagedWord blocks typeCode ofPacket).table = s.table ∧
      (s.damagedWord blocks typeCode ofPacket).sched = s.sched ∧ (s.damagedWord blocks typeCode ofPacket).store = s.store ∧
      (s.damagedWord blocks typeCode ofPacket).pacers = s.pacers ∧ (s.damagedWord blocks typeCode ofPacket).time = s.time ∧
      (s.damagedWord blocks typeCode ofPacket).counters = s.counters ∧
      (s.damagedWord blocks typeCode ofPacket).ports = s.ports ∧
      (s.damagedWord blocks typeCode ofPacket).link.expected = s.link.expected ∧
      (s.damagedWord blocks typeCode ofPacket).link.established = s.link.established ∧
      (s.damagedWord blocks typeCode ofPacket).link.mismatch = s.link.mismatch ∧
      (s.damagedWord blocks typeCode ofPacket).link.loss = s.link.loss ∧
      (s.damagedWord blocks typeCode ofPacket).link.egressFull = s.link.egressFull ∧
      (s.damagedWord blocks typeCode ofPacket).link.hold = s.link.hold ∧
      (s.damagedWord blocks typeCode ofPacket).link.control = s.link.control ∧
      (s.damagedWord blocks typeCode ofPacket).link.stubs = s.link.stubs ∧
      (s.damagedWord blocks typeCode ofPacket).link.passList = s.link.passList ∧
      (s.damagedWord blocks typeCode ofPacket).link.sending = s.link.sending ∧
      (s.damagedWord blocks typeCode ofPacket).link.stagingDrops = s.link.stagingDrops ∧
      (s.damagedWord blocks typeCode ofPacket).link.ignoredSightings = s.link.ignoredSightings ∧
      (s.damagedWord blocks typeCode ofPacket).link.returnLosses = s.link.returnLosses ∧
      (s.damagedWord blocks typeCode ofPacket).choices = s.choices ∧
      (s.damagedWord blocks typeCode ofPacket).evThresholds = s.evThresholds := by
  unfold State.damagedWord
  try dsimp only
  (repeat' split) <;> first | (simp; done) | (refine ⟨?_,?_,?_,?_,?_,?_,?_,?_,?_,?_,?_,?_,?_,?_,?_,?_,?_,?_,?_,?_,?_,?_,?_,?_,?_⟩ <;> first | rfl | (simp; done)) | simp_all

@[simp] theorem alignmentWord_keeps (s : State) (lanes : BitVec 4) :
    (s.alignmentWord lanes).pending = s.pending ∧ (s.alignmentWord lanes).inReset = s.inReset ∧
      (s.alignmentWord lanes).mgmt = s.mgmt ∧ (s.alignmentWord lanes).table = s.table ∧
      (s.alignmentWord lanes).sched = s.sched ∧ (s.alignmentWord lanes).store = s.store ∧
      (s.alignmentWord lanes).pacers = s.pacers ∧ (s.alignmentWord lanes).time = s.time ∧
      (s.alignmentWord lanes).counters = s.counters ∧ (s.alignmentWord lanes).ports = s.ports ∧
      (s.alignmentWord lanes).link.expected = s.link.expected ∧
      (s.alignmentWord lanes).link.established = s.link.established ∧
      (s.alignmentWord lanes).link.mismatch = s.link.mismatch ∧ (s.alignmentWord lanes).link.loss = s.link.loss ∧
      (s.alignmentWord lanes).link.openPacket = s.link.openPacket ∧
      (s.alignmentWord lanes).link.egressFull = s.link.egressFull ∧ (s.alignmentWord lanes).link.hold = s.link.hold ∧
      (s.alignmentWord lanes).link.paused = s.link.paused ∧ (s.alignmentWord lanes).link.control = s.link.control ∧
      (s.alignmentWord lanes).link.stubs = s.link.stubs ∧ (s.alignmentWord lanes).link.passList = s.link.passList ∧
      (s.alignmentWord lanes).link.sending = s.link.sending ∧ (s.alignmentWord lanes).link.discards = s.link.discards ∧
      (s.alignmentWord lanes).link.stagingDrops = s.link.stagingDrops ∧
      (s.alignmentWord lanes).link.ignoredSightings = s.link.ignoredSightings ∧
      (s.alignmentWord lanes).link.returnLosses = s.link.returnLosses ∧ (s.alignmentWord lanes).choices = s.choices ∧
      (s.alignmentWord lanes).out = s.out ∧ (s.alignmentWord lanes).evThresholds = s.evThresholds := by
  unfold State.alignmentWord
  try dsimp only
  (repeat' split) <;> first | (simp; done) | (refine ⟨?_,?_,?_,?_,?_,?_,?_,?_,?_,?_,?_,?_,?_,?_,?_,?_,?_,?_,?_,?_,?_,?_,?_,?_,?_,?_,?_,?_,?_⟩ <;> first | rfl | (simp; done)) | simp_all

@[simp] theorem laneMarkerWord_keeps (s : State) (lanes : BitVec 4) :
    (s.laneMarkerWord lanes).pending = s.pending ∧ (s.laneMarkerWord lanes).inReset = s.inReset ∧
      (s.laneMarkerWord lanes).mgmt = s.mgmt ∧ (s.laneMarkerWord lanes).table = s.table ∧
      (s.laneMarkerWord lanes).sched = s.sched ∧ (s.laneMarkerWord lanes).store = s.store ∧
      (s.laneMarkerWord lanes).pacers = s.pacers ∧ (s.laneMarkerWord lanes).time = s.time ∧
      (s.laneMarkerWord lanes).counters = s.counters ∧ (s.laneMarkerWord lanes).ports = s.ports ∧
      (s.laneMarkerWord lanes).link.expected = s.link.expected ∧
      (s.laneMarkerWord lanes).link.established = s.link.established ∧
      (s.laneMarkerWord lanes).link.mismatch = s.link.mismatch ∧ (s.laneMarkerWord lanes).link.loss = s.link.loss ∧
      (s.laneMarkerWord lanes).link.openPacket = s.link.openPacket ∧
      (s.laneMarkerWord lanes).link.egressFull = s.link.egressFull ∧ (s.laneMarkerWord lanes).link.hold = s.link.hold ∧
      (s.laneMarkerWord lanes).link.paused = s.link.paused ∧ (s.laneMarkerWord lanes).link.control = s.link.control ∧
      (s.laneMarkerWord lanes).link.stubs = s.link.stubs ∧ (s.laneMarkerWord lanes).link.passList = s.link.passList ∧
      (s.laneMarkerWord lanes).link.sending = s.link.sending ∧ (s.laneMarkerWord lanes).link.discards = s.link.discards ∧
      (s.laneMarkerWord lanes).link.stagingDrops = s.link.stagingDrops ∧
      (s.laneMarkerWord lanes).link.ignoredSightings = s.link.ignoredSightings ∧
      (s.laneMarkerWord lanes).link.returnLosses = s.link.returnLosses ∧ (s.laneMarkerWord lanes).choices = s.choices ∧
      (s.laneMarkerWord lanes).out = s.out ∧ (s.laneMarkerWord lanes).evThresholds = s.evThresholds := by
  unfold State.laneMarkerWord
  try dsimp only
  (repeat' split) <;> first | (simp; done) | (refine ⟨?_,?_,?_,?_,?_,?_,?_,?_,?_,?_,?_,?_,?_,?_,?_,?_,?_,?_,?_,?_,?_,?_,?_,?_,?_,?_,?_,?_,?_⟩ <;> first | rfl | (simp; done)) | simp_all

@[simp] theorem takeParams_keeps (s : State) (p : LinkParams) (checksum : Byte) :
    (s.takeParams p checksum).pending = s.pending ∧ (s.takeParams p checksum).inReset = s.inReset ∧
      (s.takeParams p checksum).mgmt.replies = s.mgmt.replies ∧ (s.takeParams p checksum).mgmt.engine = s.mgmt.engine ∧
      (s.takeParams p checksum).mgmt.commands = s.mgmt.commands ∧ (s.takeParams p checksum).mgmt.ready = s.mgmt.ready ∧
      (s.takeParams p checksum).mgmt.framer = s.mgmt.framer ∧ (s.takeParams p checksum).mgmt.sending = s.mgmt.sending ∧
      (s.takeParams p checksum).mgmt.startCause = s.mgmt.startCause ∧
      (s.takeParams p checksum).mgmt.frameErrors = s.mgmt.frameErrors ∧
      (s.takeParams p checksum).mgmt.busyCount = s.mgmt.busyCount ∧ (s.takeParams p checksum).mgmt.owed = s.mgmt.owed ∧
      (s.takeParams p checksum).mgmt.busyBacklog = s.mgmt.busyBacklog ∧
      (s.takeParams p checksum).mgmt.pendingErrors = s.mgmt.pendingErrors ∧ (s.takeParams p checksum).table = s.table ∧
      (s.takeParams p checksum).sched = s.sched ∧ (s.takeParams p checksum).store = s.store ∧
      (s.takeParams p checksum).pacers = s.pacers ∧ (s.takeParams p checksum).time = s.time ∧
      (s.takeParams p checksum).counters = s.counters ∧ (s.takeParams p checksum).ports = s.ports ∧
      (s.takeParams p checksum).link.expected = s.link.expected ∧ (s.takeParams p checksum).link.loss = s.link.loss ∧
      (s.takeParams p checksum).link.openPacket = s.link.openPacket ∧
      (s.takeParams p checksum).link.paused = s.link.paused ∧ (s.takeParams p checksum).link.stubs = s.link.stubs ∧
      (s.takeParams p checksum).link.passList = s.link.passList ∧ (s.takeParams p checksum).link.sending = s.link.sending ∧
      (s.takeParams p checksum).link.discards = s.link.discards ∧
      (s.takeParams p checksum).link.stagingDrops = s.link.stagingDrops ∧
      (s.takeParams p checksum).link.ignoredSightings = s.link.ignoredSightings ∧
      (s.takeParams p checksum).link.rejectedWords = s.link.rejectedWords ∧
      (s.takeParams p checksum).link.returnLosses = s.link.returnLosses ∧ (s.takeParams p checksum).choices = s.choices ∧
      (s.takeParams p checksum).evThresholds = s.evThresholds := by
  unfold State.takeParams
  try dsimp only
  (repeat' split) <;> first | (simp; done) | (refine ⟨?_,?_,?_,?_,?_,?_,?_,?_,?_,?_,?_,?_,?_,?_,?_,?_,?_,?_,?_,?_,?_,?_,?_,?_,?_,?_,?_,?_,?_,?_,?_,?_,?_,?_,?_⟩ <;> first | rfl | (simp; done)) | simp_all

@[simp] theorem takeDescriptor_keeps (s : State) (d : Descriptor) :
    (s.takeDescriptor d).pending = s.pending ∧ (s.takeDescriptor d).inReset = s.inReset ∧
      (s.takeDescriptor d).mgmt = s.mgmt ∧ (s.takeDescriptor d).table = s.table ∧ (s.takeDescriptor d).sched = s.sched ∧
      (s.takeDescriptor d).store = s.store ∧ (s.takeDescriptor d).pacers = s.pacers ∧ (s.takeDescriptor d).time = s.time ∧
      (s.takeDescriptor d).counters = s.counters ∧ (s.takeDescriptor d).ports = s.ports ∧
      (s.takeDescriptor d).link.lanes = s.link.lanes ∧ (s.takeDescriptor d).link.state = s.link.state ∧
      (s.takeDescriptor d).link.expected = s.link.expected ∧ (s.takeDescriptor d).link.lastGood = s.link.lastGood ∧
      (s.takeDescriptor d).link.established = s.link.established ∧ (s.takeDescriptor d).link.mismatch = s.link.mismatch ∧
      (s.takeDescriptor d).link.loss = s.link.loss ∧ (s.takeDescriptor d).link.egressFull = s.link.egressFull ∧
      (s.takeDescriptor d).link.hold = s.link.hold ∧ (s.takeDescriptor d).link.control = s.link.control ∧
      (s.takeDescriptor d).link.stubs = s.link.stubs ∧ (s.takeDescriptor d).link.passList = s.link.passList ∧
      (s.takeDescriptor d).link.sending = s.link.sending ∧
      (s.takeDescriptor d).link.ignoredSightings = s.link.ignoredSightings ∧
      (s.takeDescriptor d).link.rejectedWords = s.link.rejectedWords ∧
      (s.takeDescriptor d).link.returnLosses = s.link.returnLosses ∧ (s.takeDescriptor d).choices = s.choices ∧
      (s.takeDescriptor d).evThresholds = s.evThresholds := by
  unfold State.takeDescriptor
  try dsimp only
  (repeat' split) <;> first | (simp; done) | (refine ⟨?_,?_,?_,?_,?_,?_,?_,?_,?_,?_,?_,?_,?_,?_,?_,?_,?_,?_,?_,?_,?_,?_,?_,?_,?_,?_,?_,?_⟩ <;> first | rfl | (simp; done)) | simp_all

@[simp] theorem takePayload_keeps (s : State) (last : Bool) (count : Byte) (data : List Byte) :
    (s.takePayload last count data).pending = s.pending ∧ (s.takePayload last count data).inReset = s.inReset ∧
      (s.takePayload last count data).mgmt.replies = s.mgmt.replies ∧
      (s.takePayload last count data).mgmt.engine = s.mgmt.engine ∧
      (s.takePayload last count data).mgmt.commands = s.mgmt.commands ∧
      (s.takePayload last count data).mgmt.ready = s.mgmt.ready ∧
      (s.takePayload last count data).mgmt.framer = s.mgmt.framer ∧
      (s.takePayload last count data).mgmt.sending = s.mgmt.sending ∧
      (s.takePayload last count data).mgmt.startCause = s.mgmt.startCause ∧
      (s.takePayload last count data).mgmt.frameErrors = s.mgmt.frameErrors ∧
      (s.takePayload last count data).mgmt.busyCount = s.mgmt.busyCount ∧
      (s.takePayload last count data).mgmt.owed = s.mgmt.owed ∧
      (s.takePayload last count data).mgmt.busyBacklog = s.mgmt.busyBacklog ∧
      (s.takePayload last count data).mgmt.pendingErrors = s.mgmt.pendingErrors ∧
      (s.takePayload last count data).table.generations = s.table.generations ∧
      (s.takePayload last count data).store.floor = s.store.floor ∧
      (s.takePayload last count data).store.initialising = s.store.initialising ∧
      (s.takePayload last count data).store.corrected = s.store.corrected ∧
      (s.takePayload last count data).store.transfer = s.store.transfer ∧
      (s.takePayload last count data).store.releases = s.store.releases ∧
      (s.takePayload last count data).store.released = s.store.released ∧ (s.takePayload last count data).time = s.time ∧
      (s.takePayload last count data).counters.threshold = s.counters.threshold ∧
      (s.takePayload last count data).link.lanes = s.link.lanes ∧
      (s.takePayload last count data).link.state = s.link.state ∧
      (s.takePayload last count data).link.expected = s.link.expected ∧
      (s.takePayload last count data).link.lastGood = s.link.lastGood ∧
      (s.takePayload last count data).link.established = s.link.established ∧
      (s.takePayload last count data).link.mismatch = s.link.mismatch ∧
      (s.takePayload last count data).link.loss = s.link.loss ∧
      (s.takePayload last count data).link.egressFull = s.link.egressFull ∧
      (s.takePayload last count data).link.hold = s.link.hold ∧
      (s.takePayload last count data).link.sending = s.link.sending ∧
      (s.takePayload last count data).link.stagingDrops = s.link.stagingDrops ∧
      (s.takePayload last count data).link.ignoredSightings = s.link.ignoredSightings ∧
      (s.takePayload last count data).link.returnLosses = s.link.returnLosses ∧
      (s.takePayload last count data).choices = s.choices := by
  unfold State.takePayload
  try dsimp only
  (repeat' split) <;> first | (simp; done) | (refine ⟨?_,?_,?_,?_,?_,?_,?_,?_,?_,?_,?_,?_,?_,?_,?_,?_,?_,?_,?_,?_,?_,?_,?_,?_,?_,?_,?_,?_,?_,?_,?_,?_,?_,?_,?_,?_,?_⟩ <;> first | rfl | (simp; done)) | simp_all

@[simp] theorem sightingWord_keeps (s : State) (port : Nat) (a : Announcement) :
    (s.sightingWord port a).pending = s.pending ∧ (s.sightingWord port a).inReset = s.inReset ∧
      (s.sightingWord port a).mgmt.replies = s.mgmt.replies ∧ (s.sightingWord port a).mgmt.engine = s.mgmt.engine ∧
      (s.sightingWord port a).mgmt.commands = s.mgmt.commands ∧ (s.sightingWord port a).mgmt.ready = s.mgmt.ready ∧
      (s.sightingWord port a).mgmt.framer = s.mgmt.framer ∧ (s.sightingWord port a).mgmt.sending = s.mgmt.sending ∧
      (s.sightingWord port a).mgmt.startCause = s.mgmt.startCause ∧
      (s.sightingWord port a).mgmt.frameErrors = s.mgmt.frameErrors ∧
      (s.sightingWord port a).mgmt.busyCount = s.mgmt.busyCount ∧ (s.sightingWord port a).mgmt.owed = s.mgmt.owed ∧
      (s.sightingWord port a).mgmt.busyBacklog = s.mgmt.busyBacklog ∧
      (s.sightingWord port a).mgmt.pendingErrors = s.mgmt.pendingErrors ∧ (s.sightingWord port a).sched = s.sched ∧
      (s.sightingWord port a).store = s.store ∧ (s.sightingWord port a).pacers = s.pacers ∧
      (s.sightingWord port a).time = s.time ∧ (s.sightingWord port a).counters = s.counters ∧
      (s.sightingWord port a).ports = s.ports ∧ (s.sightingWord port a).link.lanes = s.link.lanes ∧
      (s.sightingWord port a).link.state = s.link.state ∧ (s.sightingWord port a).link.expected = s.link.expected ∧
      (s.sightingWord port a).link.lastGood = s.link.lastGood ∧
      (s.sightingWord port a).link.established = s.link.established ∧
      (s.sightingWord port a).link.mismatch = s.link.mismatch ∧ (s.sightingWord port a).link.loss = s.link.loss ∧
      (s.sightingWord port a).link.egressFull = s.link.egressFull ∧ (s.sightingWord port a).link.hold = s.link.hold ∧
      (s.sightingWord port a).link.control = s.link.control ∧ (s.sightingWord port a).link.stubs = s.link.stubs ∧
      (s.sightingWord port a).link.passList = s.link.passList ∧ (s.sightingWord port a).link.sending = s.link.sending ∧
      (s.sightingWord port a).link.stagingDrops = s.link.stagingDrops ∧
      (s.sightingWord port a).link.rejectedWords = s.link.rejectedWords ∧
      (s.sightingWord port a).link.returnLosses = s.link.returnLosses ∧ (s.sightingWord port a).choices = s.choices ∧
      (s.sightingWord port a).evThresholds = s.evThresholds := by
  unfold State.sightingWord
  try dsimp only
  (repeat' split) <;> first | (simp; done) | (refine ⟨?_,?_,?_,?_,?_,?_,?_,?_,?_,?_,?_,?_,?_,?_,?_,?_,?_,?_,?_,?_,?_,?_,?_,?_,?_,?_,?_,?_,?_,?_,?_,?_,?_,?_,?_,?_,?_,?_⟩ <;> first | rfl | (simp; done)) | simp_all

@[simp] theorem strayMarker_keeps (s : State) (g : Nat) :
    (s.strayMarker g).pending = s.pending ∧ (s.strayMarker g).inReset = s.inReset ∧ (s.strayMarker g).mgmt = s.mgmt ∧
      (s.strayMarker g).table = s.table ∧ (s.strayMarker g).sched = s.sched ∧ (s.strayMarker g).store = s.store ∧
      (s.strayMarker g).pacers = s.pacers ∧ (s.strayMarker g).time = s.time ∧ (s.strayMarker g).counters = s.counters ∧
      (s.strayMarker g).link = s.link ∧ (s.strayMarker g).choices = s.choices ∧ (s.strayMarker g).out = s.out ∧
      (s.strayMarker g).evThresholds = s.evThresholds := by
  unfold State.strayMarker
  try dsimp only
  (repeat' split) <;> first | (simp; done) | (refine ⟨?_,?_,?_,?_,?_,?_,?_,?_,?_,?_,?_,?_,?_⟩ <;> first | rfl | (simp; done)) | simp_all

@[simp] theorem started_keeps (s : State) (member : Nat) :
    (s.started member).pending = s.pending ∧ (s.started member).inReset = s.inReset ∧
      (s.started member).mgmt.replies = s.mgmt.replies ∧ (s.started member).mgmt.engine = s.mgmt.engine ∧
      (s.started member).mgmt.commands = s.mgmt.commands ∧ (s.started member).mgmt.ready = s.mgmt.ready ∧
      (s.started member).mgmt.framer = s.mgmt.framer ∧ (s.started member).mgmt.sending = s.mgmt.sending ∧
      (s.started member).mgmt.startCause = s.mgmt.startCause ∧ (s.started member).mgmt.frameErrors = s.mgmt.frameErrors ∧
      (s.started member).mgmt.busyCount = s.mgmt.busyCount ∧ (s.started member).mgmt.owed = s.mgmt.owed ∧
      (s.started member).mgmt.busyBacklog = s.mgmt.busyBacklog ∧
      (s.started member).mgmt.pendingErrors = s.mgmt.pendingErrors ∧ (s.started member).table = s.table ∧
      (s.started member).sched = s.sched ∧ (s.started member).store = s.store ∧ (s.started member).pacers = s.pacers ∧
      (s.started member).time = s.time ∧ (s.started member).counters = s.counters ∧ (s.started member).link = s.link ∧
      (s.started member).choices = s.choices ∧ (s.started member).out = s.out ∧
      (s.started member).evThresholds = s.evThresholds := by
  unfold State.started
  try dsimp only
  (repeat' split) <;> first | (simp; done) | (refine ⟨?_,?_,?_,?_,?_,?_,?_,?_,?_,?_,?_,?_,?_,?_,?_,?_,?_,?_,?_,?_,?_,?_,?_,?_⟩ <;> first | rfl | (simp; done)) | simp_all

@[simp] theorem stopped_keeps (s : State) (member : Nat) :
    (s.stopped member).pending = s.pending ∧ (s.stopped member).inReset = s.inReset ∧ (s.stopped member).mgmt = s.mgmt ∧
      (s.stopped member).table = s.table ∧ (s.stopped member).sched = s.sched ∧ (s.stopped member).store = s.store ∧
      (s.stopped member).pacers = s.pacers ∧ (s.stopped member).time = s.time ∧ (s.stopped member).counters = s.counters ∧
      (s.stopped member).link = s.link ∧ (s.stopped member).choices = s.choices ∧ (s.stopped member).out = s.out ∧
      (s.stopped member).evThresholds = s.evThresholds := by
  unfold State.stopped
  try dsimp only
  (repeat' split) <;> first | (simp; done) | (refine ⟨?_,?_,?_,?_,?_,?_,?_,?_,?_,?_,?_,?_,?_⟩ <;> first | rfl | (simp; done)) | simp_all

@[simp] theorem beginItemOf_keeps (s : State) (item : OutItem) :
    (s.beginItemOf item).pending = s.pending ∧ (s.beginItemOf item).inReset = s.inReset ∧
      (s.beginItemOf item).mgmt = s.mgmt ∧ (s.beginItemOf item).table = s.table ∧
      (s.beginItemOf item).store.floor = s.store.floor ∧ (s.beginItemOf item).store.initialising = s.store.initialising ∧
      (s.beginItemOf item).store.corrected = s.store.corrected ∧ (s.beginItemOf item).store.writeList = s.store.writeList ∧
      (s.beginItemOf item).store.transfer = s.store.transfer ∧ (s.beginItemOf item).store.releases = s.store.releases ∧
      (s.beginItemOf item).pacers = s.pacers ∧ (s.beginItemOf item).time = s.time ∧
      (s.beginItemOf item).counters = s.counters ∧ (s.beginItemOf item).ports = s.ports ∧
      (s.beginItemOf item).link.lanes = s.link.lanes ∧ (s.beginItemOf item).link.state = s.link.state ∧
      (s.beginItemOf item).link.expected = s.link.expected ∧ (s.beginItemOf item).link.lastGood = s.link.lastGood ∧
      (s.beginItemOf item).link.established = s.link.established ∧ (s.beginItemOf item).link.mismatch = s.link.mismatch ∧
      (s.beginItemOf item).link.loss = s.link.loss ∧ (s.beginItemOf item).link.openPacket = s.link.openPacket ∧
      (s.beginItemOf item).link.egressFull = s.link.egressFull ∧ (s.beginItemOf item).link.hold = s.link.hold ∧
      (s.beginItemOf item).link.paused = s.link.paused ∧ (s.beginItemOf item).link.discards = s.link.discards ∧
      (s.beginItemOf item).link.stagingDrops = s.link.stagingDrops ∧
      (s.beginItemOf item).link.ignoredSightings = s.link.ignoredSightings ∧
      (s.beginItemOf item).link.rejectedWords = s.link.rejectedWords ∧
      (s.beginItemOf item).link.returnLosses = s.link.returnLosses ∧ (s.beginItemOf item).choices = s.choices ∧
      (s.beginItemOf item).out = s.out ∧ (s.beginItemOf item).evThresholds = s.evThresholds := by
  unfold State.beginItemOf; cases item <;> simp

@[simp] theorem beginItem_keeps (s : State) :
    (s.beginItem).pending = s.pending ∧ (s.beginItem).inReset = s.inReset ∧ (s.beginItem).mgmt = s.mgmt ∧
      (s.beginItem).table = s.table ∧ (s.beginItem).store.floor = s.store.floor ∧
      (s.beginItem).store.initialising = s.store.initialising ∧ (s.beginItem).store.corrected = s.store.corrected ∧
      (s.beginItem).store.writeList = s.store.writeList ∧ (s.beginItem).store.transfer = s.store.transfer ∧
      (s.beginItem).store.releases = s.store.releases ∧ (s.beginItem).pacers = s.pacers ∧ (s.beginItem).time = s.time ∧
      (s.beginItem).counters = s.counters ∧ (s.beginItem).ports = s.ports ∧ (s.beginItem).link.lanes = s.link.lanes ∧
      (s.beginItem).link.state = s.link.state ∧ (s.beginItem).link.expected = s.link.expected ∧
      (s.beginItem).link.lastGood = s.link.lastGood ∧ (s.beginItem).link.established = s.link.established ∧
      (s.beginItem).link.mismatch = s.link.mismatch ∧ (s.beginItem).link.loss = s.link.loss ∧
      (s.beginItem).link.openPacket = s.link.openPacket ∧ (s.beginItem).link.egressFull = s.link.egressFull ∧
      (s.beginItem).link.hold = s.link.hold ∧ (s.beginItem).link.paused = s.link.paused ∧
      (s.beginItem).link.discards = s.link.discards ∧ (s.beginItem).link.stagingDrops = s.link.stagingDrops ∧
      (s.beginItem).link.ignoredSightings = s.link.ignoredSightings ∧
      (s.beginItem).link.rejectedWords = s.link.rejectedWords ∧ (s.beginItem).link.returnLosses = s.link.returnLosses ∧
      (s.beginItem).choices = s.choices ∧ (s.beginItem).evThresholds = s.evThresholds := by
  unfold State.beginItem
  try dsimp only
  (repeat' split) <;> first | (simp; done) | (refine ⟨?_,?_,?_,?_,?_,?_,?_,?_,?_,?_,?_,?_,?_,?_,?_,?_,?_,?_,?_,?_,?_,?_,?_,?_,?_,?_,?_,?_,?_,?_,?_,?_⟩ <;> first | rfl | (simp; done)) | simp_all

@[simp] theorem finishItem_keeps (s : State) :
    (s.finishItem).pending = s.pending ∧ (s.finishItem).inReset = s.inReset ∧ (s.finishItem).mgmt = s.mgmt ∧
      (s.finishItem).table = s.table ∧ (s.finishItem).sched = s.sched ∧ (s.finishItem).store = s.store ∧
      (s.finishItem).pacers = s.pacers ∧ (s.finishItem).time = s.time ∧ (s.finishItem).counters = s.counters ∧
      (s.finishItem).ports = s.ports ∧ (s.finishItem).link.lanes = s.link.lanes ∧ (s.finishItem).link.state = s.link.state ∧
      (s.finishItem).link.expected = s.link.expected ∧ (s.finishItem).link.lastGood = s.link.lastGood ∧
      (s.finishItem).link.established = s.link.established ∧ (s.finishItem).link.mismatch = s.link.mismatch ∧
      (s.finishItem).link.loss = s.link.loss ∧ (s.finishItem).link.openPacket = s.link.openPacket ∧
      (s.finishItem).link.egressFull = s.link.egressFull ∧ (s.finishItem).link.hold = s.link.hold ∧
      (s.finishItem).link.control = s.link.control ∧ (s.finishItem).link.stubs = s.link.stubs ∧
      (s.finishItem).link.passList = s.link.passList ∧ (s.finishItem).link.discards = s.link.discards ∧
      (s.finishItem).link.stagingDrops = s.link.stagingDrops ∧
      (s.finishItem).link.ignoredSightings = s.link.ignoredSightings ∧
      (s.finishItem).link.rejectedWords = s.link.rejectedWords ∧ (s.finishItem).link.returnLosses = s.link.returnLosses ∧
      (s.finishItem).choices = s.choices ∧ (s.finishItem).evThresholds = s.evThresholds := by
  unfold State.finishItem
  try dsimp only
  (repeat' split) <;> first | (simp; done) | (refine ⟨?_,?_,?_,?_,?_,?_,?_,?_,?_,?_,?_,?_,?_,?_,?_,?_,?_,?_,?_,?_,?_,?_,?_,?_,?_,?_,?_,?_,?_,?_⟩ <;> first | rfl | (simp; done)) | simp_all

/-- Two changes of every entry of a vector are one. -/
theorem vmapIdx_vmapIdx {α : Type} {n : Nat} (v : Vector α n) (f g : Nat → α → α) :
    vmapIdx (vmapIdx v f) g = vmapIdx v (fun i x => g i (f i x)) := by
  unfold vmapIdx
  apply Vector.toList_inj.1
  simp only [Vector.toList_mk, List.zipIdx_map, List.map_map]
  apply List.ext_getElem <;> simp

/-- Two changes of the lanes are one. -/
theorem updLanes_updLanes (s : State) (f g : Nat → Lane → Lane) :
    (s.updLanes f).updLanes g = s.updLanes (fun i l => g i (f i l)) := by
  unfold State.updLanes
  simp only [vmapIdx_vmapIdx]

/-- A whole word outside UP and PARAMS acts on the lanes alone (R143, R144, R147). -/
theorem takeWord_lanes (s : State) (inParams inUp : State → State) :
    (s.link.state = .down → s.takeWord inParams inUp = s) ∧
    (s.link.state = .aligning → s.takeWord inParams inUp = s.updLanes (fun _ l => { l with alignRun := 0 })) ∧
    (s.link.state = .deskew →
      s.takeWord inParams inUp = (s.updLanes (fun _ l => { l.word with framingRun := 0 })).deskewCheck) := by
  unfold State.takeWord
  refine ⟨fun h => ?_, fun h => ?_, fun h => ?_⟩ <;> rw [h]
  simp only
  rw [updLanes_updLanes]
  rfl

end Sys2Proof.Machine
end

