-- ==== Sys2Proof/Laws/Events.lean ====
section
/-! SUPPORT. What the effects of the rows, and what follows from an event, leave as they were. -/

set_option linter.all false

namespace Sys2Proof.Machine

@[simp] theorem completeDrain_keeps (s : State) (g : Nat) :
    (s.completeDrain g).pending = s.pending ∧ (s.completeDrain g).inReset = s.inReset ∧
      (s.completeDrain g).mgmt.replies = s.mgmt.replies ∧ (s.completeDrain g).mgmt.engine = s.mgmt.engine ∧
      (s.completeDrain g).mgmt.commands = s.mgmt.commands ∧ (s.completeDrain g).mgmt.ready = s.mgmt.ready ∧
      (s.completeDrain g).mgmt.framer = s.mgmt.framer ∧ (s.completeDrain g).mgmt.sending = s.mgmt.sending ∧
      (s.completeDrain g).mgmt.startCause = s.mgmt.startCause ∧ (s.completeDrain g).mgmt.frameErrors = s.mgmt.frameErrors ∧
      (s.completeDrain g).mgmt.busyCount = s.mgmt.busyCount ∧ (s.completeDrain g).mgmt.owed = s.mgmt.owed ∧
      (s.completeDrain g).mgmt.busyBacklog = s.mgmt.busyBacklog ∧
      (s.completeDrain g).mgmt.pendingErrors = s.mgmt.pendingErrors ∧
      (s.completeDrain g).table.refusing = s.table.refusing ∧ (s.completeDrain g).sched = s.sched ∧
      (s.completeDrain g).store = s.store ∧ (s.completeDrain g).pacers = s.pacers ∧ (s.completeDrain g).time = s.time ∧
      (s.completeDrain g).counters = s.counters ∧ (s.completeDrain g).link = s.link ∧
      (s.completeDrain g).choices = s.choices ∧ (s.completeDrain g).out = s.out ∧
      (s.completeDrain g).evThresholds = s.evThresholds := by
  refine ⟨?_, ?_, ?_, ?_, ?_, ?_, ?_, ?_, ?_, ?_, ?_, ?_, ?_, ?_, ?_, ?_, ?_, ?_, ?_, ?_, ?_, ?_, ?_, ?_⟩
  · unfold State.completeDrain; (try dsimp only); (repeat' split) <;> (try dsimp only) <;>
      first | rfl | (simp; done) | (rw [foldl_keeps (fun s : State => s.pending) _ (by intros; simp)]; (try simp); done) |
        (simp; (try rw [foldl_keeps (fun s : State => s.pending) _ (by intros; simp)]); done)
  · unfold State.completeDrain; (try dsimp only); (repeat' split) <;> (try dsimp only) <;>
      first | rfl | (simp; done) | (rw [foldl_keeps (fun s : State => s.inReset) _ (by intros; simp)]; (try simp); done) |
        (simp; (try rw [foldl_keeps (fun s : State => s.inReset) _ (by intros; simp)]); done)
  · unfold State.completeDrain; (try dsimp only); (repeat' split) <;> (try dsimp only) <;>
      first | rfl | (simp; done) | (rw [foldl_keeps (fun s : State => s.mgmt.replies) _ (by intros; simp)]; (try simp); done) |
        (simp; (try rw [foldl_keeps (fun s : State => s.mgmt.replies) _ (by intros; simp)]); done)
  · unfold State.completeDrain; (try dsimp only); (repeat' split) <;> (try dsimp only) <;>
      first | rfl | (simp; done) | (rw [foldl_keeps (fun s : State => s.mgmt.engine) _ (by intros; simp)]; (try simp); done) |
        (simp; (try rw [foldl_keeps (fun s : State => s.mgmt.engine) _ (by intros; simp)]); done)
  · unfold State.completeDrain; (try dsimp only); (repeat' split) <;> (try dsimp only) <;>
      first | rfl | (simp; done) | (rw [foldl_keeps (fun s : State => s.mgmt.commands) _ (by intros; simp)]; (try simp); done) |
        (simp; (try rw [foldl_keeps (fun s : State => s.mgmt.commands) _ (by intros; simp)]); done)
  · unfold State.completeDrain; (try dsimp only); (repeat' split) <;> (try dsimp only) <;>
      first | rfl | (simp; done) | (rw [foldl_keeps (fun s : State => s.mgmt.ready) _ (by intros; simp)]; (try simp); done) |
        (simp; (try rw [foldl_keeps (fun s : State => s.mgmt.ready) _ (by intros; simp)]); done)
  · unfold State.completeDrain; (try dsimp only); (repeat' split) <;> (try dsimp only) <;>
      first | rfl | (simp; done) | (rw [foldl_keeps (fun s : State => s.mgmt.framer) _ (by intros; simp)]; (try simp); done) |
        (simp; (try rw [foldl_keeps (fun s : State => s.mgmt.framer) _ (by intros; simp)]); done)
  · unfold State.completeDrain; (try dsimp only); (repeat' split) <;> (try dsimp only) <;>
      first | rfl | (simp; done) | (rw [foldl_keeps (fun s : State => s.mgmt.sending) _ (by intros; simp)]; (try simp); done) |
        (simp; (try rw [foldl_keeps (fun s : State => s.mgmt.sending) _ (by intros; simp)]); done)
  · unfold State.completeDrain; (try dsimp only); (repeat' split) <;> (try dsimp only) <;>
      first | rfl | (simp; done) | (rw [foldl_keeps (fun s : State => s.mgmt.startCause) _ (by intros; simp)]; (try simp); done) |
        (simp; (try rw [foldl_keeps (fun s : State => s.mgmt.startCause) _ (by intros; simp)]); done)
  · unfold State.completeDrain; (try dsimp only); (repeat' split) <;> (try dsimp only) <;>
      first | rfl | (simp; done) | (rw [foldl_keeps (fun s : State => s.mgmt.frameErrors) _ (by intros; simp)]; (try simp); done) |
        (simp; (try rw [foldl_keeps (fun s : State => s.mgmt.frameErrors) _ (by intros; simp)]); done)
  · unfold State.completeDrain; (try dsimp only); (repeat' split) <;> (try dsimp only) <;>
      first | rfl | (simp; done) | (rw [foldl_keeps (fun s : State => s.mgmt.busyCount) _ (by intros; simp)]; (try simp); done) |
        (simp; (try rw [foldl_keeps (fun s : State => s.mgmt.busyCount) _ (by intros; simp)]); done)
  · unfold State.completeDrain; (try dsimp only); (repeat' split) <;> (try dsimp only) <;>
      first | rfl | (simp; done) | (rw [foldl_keeps (fun s : State => s.mgmt.owed) _ (by intros; simp)]; (try simp); done) |
        (simp; (try rw [foldl_keeps (fun s : State => s.mgmt.owed) _ (by intros; simp)]); done)
  · unfold State.completeDrain; (try dsimp only); (repeat' split) <;> (try dsimp only) <;>
      first | rfl | (simp; done) | (rw [foldl_keeps (fun s : State => s.mgmt.busyBacklog) _ (by intros; simp)]; (try simp); done) |
        (simp; (try rw [foldl_keeps (fun s : State => s.mgmt.busyBacklog) _ (by intros; simp)]); done)
  · unfold State.completeDrain; (try dsimp only); (repeat' split) <;> (try dsimp only) <;>
      first | rfl | (simp; done) | (rw [foldl_keeps (fun s : State => s.mgmt.pendingErrors) _ (by intros; simp)]; (try simp); done) |
        (simp; (try rw [foldl_keeps (fun s : State => s.mgmt.pendingErrors) _ (by intros; simp)]); done)
  · unfold State.completeDrain; (try dsimp only); (repeat' split) <;> (try dsimp only) <;>
      first | rfl | (simp; done) | (rw [foldl_keeps (fun s : State => s.table.refusing) _ (by intros; simp)]; (try simp); done) |
        (simp; (try rw [foldl_keeps (fun s : State => s.table.refusing) _ (by intros; simp)]); done)
  · unfold State.completeDrain; (try dsimp only); (repeat' split) <;> (try dsimp only) <;>
      first | rfl | (simp; done) | (rw [foldl_keeps (fun s : State => s.sched) _ (by intros; simp)]; (try simp); done) |
        (simp; (try rw [foldl_keeps (fun s : State => s.sched) _ (by intros; simp)]); done)
  · unfold State.completeDrain; (try dsimp only); (repeat' split) <;> (try dsimp only) <;>
      first | rfl | (simp; done) | (rw [foldl_keeps (fun s : State => s.store) _ (by intros; simp)]; (try simp); done) |
        (simp; (try rw [foldl_keeps (fun s : State => s.store) _ (by intros; simp)]); done)
  · unfold State.completeDrain; (try dsimp only); (repeat' split) <;> (try dsimp only) <;>
      first | rfl | (simp; done) | (rw [foldl_keeps (fun s : State => s.pacers) _ (by intros; simp)]; (try simp); done) |
        (simp; (try rw [foldl_keeps (fun s : State => s.pacers) _ (by intros; simp)]); done)
  · unfold State.completeDrain; (try dsimp only); (repeat' split) <;> (try dsimp only) <;>
      first | rfl | (simp; done) | (rw [foldl_keeps (fun s : State => s.time) _ (by intros; simp)]; (try simp); done) |
        (simp; (try rw [foldl_keeps (fun s : State => s.time) _ (by intros; simp)]); done)
  · unfold State.completeDrain; (try dsimp only); (repeat' split) <;> (try dsimp only) <;>
      first | rfl | (simp; done) | (rw [foldl_keeps (fun s : State => s.counters) _ (by intros; simp)]; (try simp); done) |
        (simp; (try rw [foldl_keeps (fun s : State => s.counters) _ (by intros; simp)]); done)
  · unfold State.completeDrain; (try dsimp only); (repeat' split) <;> (try dsimp only) <;>
      first | rfl | (simp; done) | (rw [foldl_keeps (fun s : State => s.link) _ (by intros; simp)]; (try simp); done) |
        (simp; (try rw [foldl_keeps (fun s : State => s.link) _ (by intros; simp)]); done)
  · unfold State.completeDrain; (try dsimp only); (repeat' split) <;> (try dsimp only) <;>
      first | rfl | (simp; done) | (rw [foldl_keeps (fun s : State => s.choices) _ (by intros; simp)]; (try simp); done) |
        (simp; (try rw [foldl_keeps (fun s : State => s.choices) _ (by intros; simp)]); done)
  · unfold State.completeDrain; (try dsimp only); (repeat' split) <;> (try dsimp only) <;>
      first | rfl | (simp; done) | (rw [foldl_keeps (fun s : State => s.out) _ (by intros; simp)]; (try simp); done) |
        (simp; (try rw [foldl_keeps (fun s : State => s.out) _ (by intros; simp)]); done)
  · unfold State.completeDrain; (try dsimp only); (repeat' split) <;> (try dsimp only) <;>
      first | rfl | (simp; done) | (rw [foldl_keeps (fun s : State => s.evThresholds) _ (by intros; simp)]; (try simp); done) |
        (simp; (try rw [foldl_keeps (fun s : State => s.evThresholds) _ (by intros; simp)]); done)

@[simp] theorem completeDrains_keeps (s : State) :
    (s.completeDrains).pending = s.pending ∧ (s.completeDrains).inReset = s.inReset ∧
      (s.completeDrains).mgmt.replies = s.mgmt.replies ∧ (s.completeDrains).mgmt.engine = s.mgmt.engine ∧
      (s.completeDrains).mgmt.commands = s.mgmt.commands ∧ (s.completeDrains).mgmt.ready = s.mgmt.ready ∧
      (s.completeDrains).mgmt.framer = s.mgmt.framer ∧ (s.completeDrains).mgmt.sending = s.mgmt.sending ∧
      (s.completeDrains).mgmt.startCause = s.mgmt.startCause ∧ (s.completeDrains).mgmt.frameErrors = s.mgmt.frameErrors ∧
      (s.completeDrains).mgmt.busyCount = s.mgmt.busyCount ∧ (s.completeDrains).mgmt.owed = s.mgmt.owed ∧
      (s.completeDrains).mgmt.busyBacklog = s.mgmt.busyBacklog ∧
      (s.completeDrains).mgmt.pendingErrors = s.mgmt.pendingErrors ∧ (s.completeDrains).table.refusing = s.table.refusing ∧
      (s.completeDrains).sched = s.sched ∧ (s.completeDrains).store = s.store ∧ (s.completeDrains).pacers = s.pacers ∧
      (s.completeDrains).time = s.time ∧ (s.completeDrains).counters = s.counters ∧ (s.completeDrains).link = s.link ∧
      (s.completeDrains).choices = s.choices ∧ (s.completeDrains).out = s.out ∧
      (s.completeDrains).evThresholds = s.evThresholds := by
  refine ⟨?_, ?_, ?_, ?_, ?_, ?_, ?_, ?_, ?_, ?_, ?_, ?_, ?_, ?_, ?_, ?_, ?_, ?_, ?_, ?_, ?_, ?_, ?_, ?_⟩
  · unfold State.completeDrains; (try dsimp only); (repeat' split) <;> (try dsimp only) <;>
      first | rfl | (simp; done) | (rw [foldl_keeps (fun s : State => s.pending) _ (by intros; simp)]; (try simp); done) |
        (simp; (try rw [foldl_keeps (fun s : State => s.pending) _ (by intros; simp)]); done)
  · unfold State.completeDrains; (try dsimp only); (repeat' split) <;> (try dsimp only) <;>
      first | rfl | (simp; done) | (rw [foldl_keeps (fun s : State => s.inReset) _ (by intros; simp)]; (try simp); done) |
        (simp; (try rw [foldl_keeps (fun s : State => s.inReset) _ (by intros; simp)]); done)
  · unfold State.completeDrains; (try dsimp only); (repeat' split) <;> (try dsimp only) <;>
      first | rfl | (simp; done) | (rw [foldl_keeps (fun s : State => s.mgmt.replies) _ (by intros; simp)]; (try simp); done) |
        (simp; (try rw [foldl_keeps (fun s : State => s.mgmt.replies) _ (by intros; simp)]); done)
  · unfold State.completeDrains; (try dsimp only); (repeat' split) <;> (try dsimp only) <;>
      first | rfl | (simp; done) | (rw [foldl_keeps (fun s : State => s.mgmt.engine) _ (by intros; simp)]; (try simp); done) |
        (simp; (try rw [foldl_keeps (fun s : State => s.mgmt.engine) _ (by intros; simp)]); done)
  · unfold State.completeDrains; (try dsimp only); (repeat' split) <;> (try dsimp only) <;>
      first | rfl | (simp; done) | (rw [foldl_keeps (fun s : State => s.mgmt.commands) _ (by intros; simp)]; (try simp); done) |
        (simp; (try rw [foldl_keeps (fun s : State => s.mgmt.commands) _ (by intros; simp)]); done)
  · unfold State.completeDrains; (try dsimp only); (repeat' split) <;> (try dsimp only) <;>
      first | rfl | (simp; done) | (rw [foldl_keeps (fun s : State => s.mgmt.ready) _ (by intros; simp)]; (try simp); done) |
        (simp; (try rw [foldl_keeps (fun s : State => s.mgmt.ready) _ (by intros; simp)]); done)
  · unfold State.completeDrains; (try dsimp only); (repeat' split) <;> (try dsimp only) <;>
      first | rfl | (simp; done) | (rw [foldl_keeps (fun s : State => s.mgmt.framer) _ (by intros; simp)]; (try simp); done) |
        (simp; (try rw [foldl_keeps (fun s : State => s.mgmt.framer) _ (by intros; simp)]); done)
  · unfold State.completeDrains; (try dsimp only); (repeat' split) <;> (try dsimp only) <;>
      first | rfl | (simp; done) | (rw [foldl_keeps (fun s : State => s.mgmt.sending) _ (by intros; simp)]; (try simp); done) |
        (simp; (try rw [foldl_keeps (fun s : State => s.mgmt.sending) _ (by intros; simp)]); done)
  · unfold State.completeDrains; (try dsimp only); (repeat' split) <;> (try dsimp only) <;>
      first | rfl | (simp; done) | (rw [foldl_keeps (fun s : State => s.mgmt.startCause) _ (by intros; simp)]; (try simp); done) |
        (simp; (try rw [foldl_keeps (fun s : State => s.mgmt.startCause) _ (by intros; simp)]); done)
  · unfold State.completeDrains; (try dsimp only); (repeat' split) <;> (try dsimp only) <;>
      first | rfl | (simp; done) | (rw [foldl_keeps (fun s : State => s.mgmt.frameErrors) _ (by intros; simp)]; (try simp); done) |
        (simp; (try rw [foldl_keeps (fun s : State => s.mgmt.frameErrors) _ (by intros; simp)]); done)
  · unfold State.completeDrains; (try dsimp only); (repeat' split) <;> (try dsimp only) <;>
      first | rfl | (simp; done) | (rw [foldl_keeps (fun s : State => s.mgmt.busyCount) _ (by intros; simp)]; (try simp); done) |
        (simp; (try rw [foldl_keeps (fun s : State => s.mgmt.busyCount) _ (by intros; simp)]); done)
  · unfold State.completeDrains; (try dsimp only); (repeat' split) <;> (try dsimp only) <;>
      first | rfl | (simp; done) | (rw [foldl_keeps (fun s : State => s.mgmt.owed) _ (by intros; simp)]; (try simp); done) |
        (simp; (try rw [foldl_keeps (fun s : State => s.mgmt.owed) _ (by intros; simp)]); done)
  · unfold State.completeDrains; (try dsimp only); (repeat' split) <;> (try dsimp only) <;>
      first | rfl | (simp; done) | (rw [foldl_keeps (fun s : State => s.mgmt.busyBacklog) _ (by intros; simp)]; (try simp); done) |
        (simp; (try rw [foldl_keeps (fun s : State => s.mgmt.busyBacklog) _ (by intros; simp)]); done)
  · unfold State.completeDrains; (try dsimp only); (repeat' split) <;> (try dsimp only) <;>
      first | rfl | (simp; done) | (rw [foldl_keeps (fun s : State => s.mgmt.pendingErrors) _ (by intros; simp)]; (try simp); done) |
        (simp; (try rw [foldl_keeps (fun s : State => s.mgmt.pendingErrors) _ (by intros; simp)]); done)
  · unfold State.completeDrains; (try dsimp only); (repeat' split) <;> (try dsimp only) <;>
      first | rfl | (simp; done) | (rw [foldl_keeps (fun s : State => s.table.refusing) _ (by intros; simp)]; (try simp); done) |
        (simp; (try rw [foldl_keeps (fun s : State => s.table.refusing) _ (by intros; simp)]); done)
  · unfold State.completeDrains; (try dsimp only); (repeat' split) <;> (try dsimp only) <;>
      first | rfl | (simp; done) | (rw [foldl_keeps (fun s : State => s.sched) _ (by intros; simp)]; (try simp); done) |
        (simp; (try rw [foldl_keeps (fun s : State => s.sched) _ (by intros; simp)]); done)
  · unfold State.completeDrains; (try dsimp only); (repeat' split) <;> (try dsimp only) <;>
      first | rfl | (simp; done) | (rw [foldl_keeps (fun s : State => s.store) _ (by intros; simp)]; (try simp); done) |
        (simp; (try rw [foldl_keeps (fun s : State => s.store) _ (by intros; simp)]); done)
  · unfold State.completeDrains; (try dsimp only); (repeat' split) <;> (try dsimp only) <;>
      first | rfl | (simp; done) | (rw [foldl_keeps (fun s : State => s.pacers) _ (by intros; simp)]; (try simp); done) |
        (simp; (try rw [foldl_keeps (fun s : State => s.pacers) _ (by intros; simp)]); done)
  · unfold State.completeDrains; (try dsimp only); (repeat' split) <;> (try dsimp only) <;>
      first | rfl | (simp; done) | (rw [foldl_keeps (fun s : State => s.time) _ (by intros; simp)]; (try simp); done) |
        (simp; (try rw [foldl_keeps (fun s : State => s.time) _ (by intros; simp)]); done)
  · unfold State.completeDrains; (try dsimp only); (repeat' split) <;> (try dsimp only) <;>
      first | rfl | (simp; done) | (rw [foldl_keeps (fun s : State => s.counters) _ (by intros; simp)]; (try simp); done) |
        (simp; (try rw [foldl_keeps (fun s : State => s.counters) _ (by intros; simp)]); done)
  · unfold State.completeDrains; (try dsimp only); (repeat' split) <;> (try dsimp only) <;>
      first | rfl | (simp; done) | (rw [foldl_keeps (fun s : State => s.link) _ (by intros; simp)]; (try simp); done) |
        (simp; (try rw [foldl_keeps (fun s : State => s.link) _ (by intros; simp)]); done)
  · unfold State.completeDrains; (try dsimp only); (repeat' split) <;> (try dsimp only) <;>
      first | rfl | (simp; done) | (rw [foldl_keeps (fun s : State => s.choices) _ (by intros; simp)]; (try simp); done) |
        (simp; (try rw [foldl_keeps (fun s : State => s.choices) _ (by intros; simp)]); done)
  · unfold State.completeDrains; (try dsimp only); (repeat' split) <;> (try dsimp only) <;>
      first | rfl | (simp; done) | (rw [foldl_keeps (fun s : State => s.out) _ (by intros; simp)]; (try simp); done) |
        (simp; (try rw [foldl_keeps (fun s : State => s.out) _ (by intros; simp)]); done)
  · unfold State.completeDrains; (try dsimp only); (repeat' split) <;> (try dsimp only) <;>
      first | rfl | (simp; done) | (rw [foldl_keeps (fun s : State => s.evThresholds) _ (by intros; simp)]; (try simp); done) |
        (simp; (try rw [foldl_keeps (fun s : State => s.evThresholds) _ (by intros; simp)]); done)

@[simp] theorem consequences_keeps (s : State) (wasIdle : Bool) :
    (s.consequences wasIdle).pending = s.pending ∧ (s.consequences wasIdle).inReset = s.inReset ∧
      (s.consequences wasIdle).mgmt.ready = s.mgmt.ready ∧ (s.consequences wasIdle).mgmt.framer = s.mgmt.framer ∧
      (s.consequences wasIdle).mgmt.startCause = s.mgmt.startCause ∧ (s.consequences wasIdle).mgmt.frameErrors = s.mgmt.frameErrors ∧
      (s.consequences wasIdle).mgmt.busyCount = s.mgmt.busyCount ∧ (s.consequences wasIdle).table.refusing = s.table.refusing ∧
      (s.consequences wasIdle).store.floor = s.store.floor ∧ (s.consequences wasIdle).store.initialising = s.store.initialising ∧
      (s.consequences wasIdle).store.corrected = s.store.corrected ∧ (s.consequences wasIdle).time = s.time ∧
      (s.consequences wasIdle).counters = s.counters ∧ (s.consequences wasIdle).link.lanes = s.link.lanes ∧
      (s.consequences wasIdle).link.state = s.link.state ∧ (s.consequences wasIdle).link.expected = s.link.expected ∧
      (s.consequences wasIdle).link.lastGood = s.link.lastGood ∧ (s.consequences wasIdle).link.established = s.link.established ∧
      (s.consequences wasIdle).link.mismatch = s.link.mismatch ∧ (s.consequences wasIdle).link.loss = s.link.loss ∧
      (s.consequences wasIdle).link.openPacket = s.link.openPacket ∧ (s.consequences wasIdle).link.egressFull = s.link.egressFull ∧
      (s.consequences wasIdle).link.hold = s.link.hold ∧ (s.consequences wasIdle).link.paused = s.link.paused ∧
      (s.consequences wasIdle).link.discards = s.link.discards ∧ (s.consequences wasIdle).link.stagingDrops = s.link.stagingDrops ∧
      (s.consequences wasIdle).link.ignoredSightings = s.link.ignoredSightings ∧
      (s.consequences wasIdle).link.rejectedWords = s.link.rejectedWords ∧
      (s.consequences wasIdle).link.returnLosses = s.link.returnLosses := by
  unfold State.consequences
  try dsimp only
  (repeat' split) <;> first | (simp; done) | (refine ⟨?_,?_,?_,?_,?_,?_,?_,?_,?_,?_,?_,?_,?_,?_,?_,?_,?_,?_,?_,?_,?_,?_,?_,?_,?_,?_,?_,?_,?_⟩ <;> first | rfl | (simp; done)) | simp_all

@[simp] theorem freshEvent_keeps (s : State) :
    (s.freshEvent).pending = s.pending ∧ (s.freshEvent).inReset = s.inReset ∧ (s.freshEvent).mgmt = s.mgmt ∧
      (s.freshEvent).table = s.table ∧ (s.freshEvent).sched = s.sched ∧ (s.freshEvent).store = s.store ∧
      (s.freshEvent).pacers = s.pacers ∧ (s.freshEvent).time = s.time ∧ (s.freshEvent).counters = s.counters ∧
      (s.freshEvent).ports = s.ports ∧ (s.freshEvent).link = s.link ∧ (s.freshEvent).choices = s.choices := by
  unfold State.freshEvent
  try dsimp only
  (repeat' split) <;> first | (simp; done) | (refine ⟨?_,?_,?_,?_,?_,?_,?_,?_,?_,?_,?_,?_⟩ <;> first | rfl | (simp; done)) | simp_all

@[simp] theorem resetClock_keeps (s : State) :
    (s.resetClock).pending = s.pending ∧ (s.resetClock).inReset = s.inReset ∧ (s.resetClock).mgmt.replies = s.mgmt.replies ∧
      (s.resetClock).mgmt.engine = s.mgmt.engine ∧ (s.resetClock).mgmt.commands = s.mgmt.commands ∧
      (s.resetClock).mgmt.ready = s.mgmt.ready ∧ (s.resetClock).mgmt.framer = s.mgmt.framer ∧
      (s.resetClock).mgmt.sending = s.mgmt.sending ∧ (s.resetClock).mgmt.startCause = s.mgmt.startCause ∧
      (s.resetClock).mgmt.frameErrors = s.mgmt.frameErrors ∧ (s.resetClock).mgmt.busyCount = s.mgmt.busyCount ∧
      (s.resetClock).mgmt.owed = s.mgmt.owed ∧ (s.resetClock).mgmt.busyBacklog = s.mgmt.busyBacklog ∧
      (s.resetClock).mgmt.pendingErrors = s.mgmt.pendingErrors ∧ (s.resetClock).table = s.table ∧
      (s.resetClock).sched = s.sched ∧ (s.resetClock).store = s.store ∧ (s.resetClock).pacers = s.pacers ∧
      (s.resetClock).time.clock = s.time.clock ∧ (s.resetClock).counters = s.counters ∧ (s.resetClock).ports = s.ports ∧
      (s.resetClock).link = s.link ∧ (s.resetClock).choices = s.choices ∧ (s.resetClock).out = s.out ∧
      (s.resetClock).evThresholds = s.evThresholds := by
  unfold State.resetClock
  try dsimp only
  (repeat' split) <;> first | (simp; done) | (refine ⟨?_,?_,?_,?_,?_,?_,?_,?_,?_,?_,?_,?_,?_,?_,?_,?_,?_,?_,?_,?_,?_,?_,?_,?_,?_⟩ <;> first | rfl | (simp; done)) | simp_all

@[simp] theorem resetPart_keeps (s : State) :
    (s.resetPart).pending = s.pending ∧ (s.resetPart).inReset = s.inReset ∧ (s.resetPart).time.clock = s.time.clock ∧
      (s.resetPart).link.expected = s.link.expected ∧ (s.resetPart).choices = s.choices ∧ (s.resetPart).out = s.out ∧
      (s.resetPart).evThresholds = s.evThresholds := by
  simp [State.resetPart, Link.afterReset]

@[simp] theorem transmitDone_keeps (s : State) :
    (s.transmitDone).pending = s.pending ∧ (s.transmitDone).inReset = s.inReset ∧
      (s.transmitDone).time.clock = s.time.clock ∧ (s.transmitDone).link.expected = s.link.expected ∧
      (s.transmitDone).choices = s.choices ∧ (s.transmitDone).out = s.out ∧
      (s.transmitDone).evThresholds = s.evThresholds := by
  unfold State.transmitDone
  try dsimp only
  (repeat' split) <;> first | (simp; done) | (refine ⟨?_,?_,?_,?_,?_,?_,?_⟩ <;> first | rfl | (simp; done)) | simp_all

@[simp] theorem decideClock_keeps (s : State) (edgesSeen : Bool) :
    (s.decideClock edgesSeen).pending = s.pending ∧ (s.decideClock edgesSeen).inReset = s.inReset ∧
      (s.decideClock edgesSeen).mgmt.replies = s.mgmt.replies ∧ (s.decideClock edgesSeen).mgmt.engine = s.mgmt.engine ∧
      (s.decideClock edgesSeen).mgmt.commands = s.mgmt.commands ∧ (s.decideClock edgesSeen).mgmt.ready = s.mgmt.ready ∧
      (s.decideClock edgesSeen).mgmt.framer = s.mgmt.framer ∧ (s.decideClock edgesSeen).mgmt.sending = s.mgmt.sending ∧
      (s.decideClock edgesSeen).mgmt.startCause = s.mgmt.startCause ∧
      (s.decideClock edgesSeen).mgmt.frameErrors = s.mgmt.frameErrors ∧
      (s.decideClock edgesSeen).mgmt.busyCount = s.mgmt.busyCount ∧ (s.decideClock edgesSeen).mgmt.owed = s.mgmt.owed ∧
      (s.decideClock edgesSeen).mgmt.busyBacklog = s.mgmt.busyBacklog ∧
      (s.decideClock edgesSeen).mgmt.pendingErrors = s.mgmt.pendingErrors ∧ (s.decideClock edgesSeen).table = s.table ∧
      (s.decideClock edgesSeen).sched = s.sched ∧ (s.decideClock edgesSeen).store = s.store ∧
      (s.decideClock edgesSeen).pacers = s.pacers ∧ (s.decideClock edgesSeen).time.ticks = s.time.ticks ∧
      (s.decideClock edgesSeen).counters = s.counters ∧ (s.decideClock edgesSeen).ports = s.ports ∧
      (s.decideClock edgesSeen).link = s.link ∧ (s.decideClock edgesSeen).choices = s.choices ∧
      (s.decideClock edgesSeen).out = s.out ∧ (s.decideClock edgesSeen).evThresholds = s.evThresholds := by
  unfold State.decideClock
  try dsimp only
  (repeat' split) <;> first | (simp; done) | (refine ⟨?_,?_,?_,?_,?_,?_,?_,?_,?_,?_,?_,?_,?_,?_,?_,?_,?_,?_,?_,?_,?_,?_,?_,?_,?_⟩ <;> first | rfl | (simp; done)) | simp_all

@[simp] theorem loseReference_keeps (s : State) :
    (s.loseReference).pending = s.pending ∧ (s.loseReference).inReset = s.inReset ∧
      (s.loseReference).mgmt.replies = s.mgmt.replies ∧ (s.loseReference).mgmt.engine = s.mgmt.engine ∧
      (s.loseReference).mgmt.commands = s.mgmt.commands ∧ (s.loseReference).mgmt.ready = s.mgmt.ready ∧
      (s.loseReference).mgmt.framer = s.mgmt.framer ∧ (s.loseReference).mgmt.sending = s.mgmt.sending ∧
      (s.loseReference).mgmt.startCause = s.mgmt.startCause ∧ (s.loseReference).mgmt.frameErrors = s.mgmt.frameErrors ∧
      (s.loseReference).mgmt.busyCount = s.mgmt.busyCount ∧ (s.loseReference).mgmt.owed = s.mgmt.owed ∧
      (s.loseReference).mgmt.busyBacklog = s.mgmt.busyBacklog ∧
      (s.loseReference).mgmt.pendingErrors = s.mgmt.pendingErrors ∧ (s.loseReference).table = s.table ∧
      (s.loseReference).sched = s.sched ∧ (s.loseReference).store = s.store ∧ (s.loseReference).pacers = s.pacers ∧
      (s.loseReference).time.ticks = s.time.ticks ∧ (s.loseReference).counters = s.counters ∧
      (s.loseReference).ports = s.ports ∧ (s.loseReference).link = s.link ∧ (s.loseReference).choices = s.choices ∧
      (s.loseReference).out = s.out ∧ (s.loseReference).evThresholds = s.evThresholds := by
  unfold State.loseReference
  try dsimp only
  (repeat' split) <;> first | (simp; done) | (refine ⟨?_,?_,?_,?_,?_,?_,?_,?_,?_,?_,?_,?_,?_,?_,?_,?_,?_,?_,?_,?_,?_,?_,?_,?_,?_⟩ <;> first | rfl | (simp; done)) | simp_all

@[simp] theorem regainReference_keeps (s : State) :
    (s.regainReference).pending = s.pending ∧ (s.regainReference).inReset = s.inReset ∧
      (s.regainReference).mgmt.replies = s.mgmt.replies ∧ (s.regainReference).mgmt.engine = s.mgmt.engine ∧
      (s.regainReference).mgmt.commands = s.mgmt.commands ∧ (s.regainReference).mgmt.ready = s.mgmt.ready ∧
      (s.regainReference).mgmt.framer = s.mgmt.framer ∧ (s.regainReference).mgmt.sending = s.mgmt.sending ∧
      (s.regainReference).mgmt.startCause = s.mgmt.startCause ∧ (s.regainReference).mgmt.frameErrors = s.mgmt.frameErrors ∧
      (s.regainReference).mgmt.busyCount = s.mgmt.busyCount ∧ (s.regainReference).mgmt.owed = s.mgmt.owed ∧
      (s.regainReference).mgmt.busyBacklog = s.mgmt.busyBacklog ∧
      (s.regainReference).mgmt.pendingErrors = s.mgmt.pendingErrors ∧ (s.regainReference).table = s.table ∧
      (s.regainReference).sched = s.sched ∧ (s.regainReference).store = s.store ∧ (s.regainReference).pacers = s.pacers ∧
      (s.regainReference).time.ticks = s.time.ticks ∧ (s.regainReference).counters = s.counters ∧
      (s.regainReference).ports = s.ports ∧ (s.regainReference).link = s.link ∧ (s.regainReference).choices = s.choices ∧
      (s.regainReference).out = s.out ∧ (s.regainReference).evThresholds = s.evThresholds := by
  unfold State.regainReference
  try dsimp only
  (repeat' split) <;> first | (simp; done) | (refine ⟨?_,?_,?_,?_,?_,?_,?_,?_,?_,?_,?_,?_,?_,?_,?_,?_,?_,?_,?_,?_,?_,?_,?_,?_,?_⟩ <;> first | rfl | (simp; done)) | simp_all

@[simp] theorem finishInit_keeps (s : State) :
    (s.finishInit).pending = s.pending ∧ (s.finishInit).inReset = s.inReset ∧ (s.finishInit).mgmt.replies = s.mgmt.replies ∧
      (s.finishInit).mgmt.engine = s.mgmt.engine ∧ (s.finishInit).mgmt.commands = s.mgmt.commands ∧
      (s.finishInit).mgmt.framer = s.mgmt.framer ∧ (s.finishInit).mgmt.sending = s.mgmt.sending ∧
      (s.finishInit).mgmt.startCause = s.mgmt.startCause ∧ (s.finishInit).mgmt.frameErrors = s.mgmt.frameErrors ∧
      (s.finishInit).mgmt.busyCount = s.mgmt.busyCount ∧ (s.finishInit).mgmt.owed = s.mgmt.owed ∧
      (s.finishInit).mgmt.busyBacklog = s.mgmt.busyBacklog ∧ (s.finishInit).mgmt.pendingErrors = s.mgmt.pendingErrors ∧
      (s.finishInit).table = s.table ∧ (s.finishInit).sched = s.sched ∧ (s.finishInit).store.floor = s.store.floor ∧
      (s.finishInit).store.corrected = s.store.corrected ∧ (s.finishInit).store.writeList = s.store.writeList ∧
      (s.finishInit).store.transfer = s.store.transfer ∧ (s.finishInit).store.releases = s.store.releases ∧
      (s.finishInit).store.released = s.store.released ∧ (s.finishInit).pacers = s.pacers ∧ (s.finishInit).time = s.time ∧
      (s.finishInit).counters = s.counters ∧ (s.finishInit).ports = s.ports ∧ (s.finishInit).link = s.link ∧
      (s.finishInit).choices = s.choices ∧ (s.finishInit).out = s.out ∧ (s.finishInit).evThresholds = s.evThresholds := by
  unfold State.finishInit
  try dsimp only
  (repeat' split) <;> first | (simp; done) | (refine ⟨?_,?_,?_,?_,?_,?_,?_,?_,?_,?_,?_,?_,?_,?_,?_,?_,?_,?_,?_,?_,?_,?_,?_,?_,?_,?_,?_,?_,?_⟩ <;> first | rfl | (simp; done)) | simp_all

@[simp] theorem applyDue_keeps (s : State) (g : Nat) :
    (s.applyDue g).pending = s.pending ∧ (s.applyDue g).inReset = s.inReset ∧ (s.applyDue g).mgmt.replies = s.mgmt.replies ∧
      (s.applyDue g).mgmt.engine = s.mgmt.engine ∧ (s.applyDue g).mgmt.commands = s.mgmt.commands ∧
      (s.applyDue g).mgmt.ready = s.mgmt.ready ∧ (s.applyDue g).mgmt.framer = s.mgmt.framer ∧
      (s.applyDue g).mgmt.sending = s.mgmt.sending ∧ (s.applyDue g).mgmt.startCause = s.mgmt.startCause ∧
      (s.applyDue g).mgmt.frameErrors = s.mgmt.frameErrors ∧ (s.applyDue g).mgmt.busyCount = s.mgmt.busyCount ∧
      (s.applyDue g).mgmt.owed = s.mgmt.owed ∧ (s.applyDue g).mgmt.busyBacklog = s.mgmt.busyBacklog ∧
      (s.applyDue g).mgmt.pendingErrors = s.mgmt.pendingErrors ∧ (s.applyDue g).table = s.table ∧
      (s.applyDue g).sched = s.sched ∧ (s.applyDue g).store = s.store ∧ (s.applyDue g).time = s.time ∧
      (s.applyDue g).counters = s.counters ∧ (s.applyDue g).ports = s.ports ∧ (s.applyDue g).link = s.link ∧
      (s.applyDue g).choices = s.choices ∧ (s.applyDue g).out = s.out ∧ (s.applyDue g).evThresholds = s.evThresholds := by
  unfold State.applyDue
  try dsimp only
  (repeat' split) <;> first | (simp; done) | (refine ⟨?_,?_,?_,?_,?_,?_,?_,?_,?_,?_,?_,?_,?_,?_,?_,?_,?_,?_,?_,?_,?_,?_,?_,?_⟩ <;> first | rfl | (simp; done)) | simp_all

@[simp] theorem pacersTick_keeps (s : State) :
    (s.pacersTick).pending = s.pending ∧ (s.pacersTick).inReset = s.inReset ∧ (s.pacersTick).mgmt.replies = s.mgmt.replies ∧
      (s.pacersTick).mgmt.engine = s.mgmt.engine ∧ (s.pacersTick).mgmt.commands = s.mgmt.commands ∧
      (s.pacersTick).mgmt.ready = s.mgmt.ready ∧ (s.pacersTick).mgmt.framer = s.mgmt.framer ∧
      (s.pacersTick).mgmt.sending = s.mgmt.sending ∧ (s.pacersTick).mgmt.startCause = s.mgmt.startCause ∧
      (s.pacersTick).mgmt.frameErrors = s.mgmt.frameErrors ∧ (s.pacersTick).mgmt.busyCount = s.mgmt.busyCount ∧
      (s.pacersTick).mgmt.owed = s.mgmt.owed ∧ (s.pacersTick).mgmt.busyBacklog = s.mgmt.busyBacklog ∧
      (s.pacersTick).mgmt.pendingErrors = s.mgmt.pendingErrors ∧ (s.pacersTick).table = s.table ∧
      (s.pacersTick).sched = s.sched ∧ (s.pacersTick).store = s.store ∧ (s.pacersTick).time = s.time ∧
      (s.pacersTick).counters = s.counters ∧ (s.pacersTick).ports = s.ports ∧ (s.pacersTick).link = s.link ∧
      (s.pacersTick).choices = s.choices ∧ (s.pacersTick).out = s.out ∧ (s.pacersTick).evThresholds = s.evThresholds := by
  refine ⟨?_, ?_, ?_, ?_, ?_, ?_, ?_, ?_, ?_, ?_, ?_, ?_, ?_, ?_, ?_, ?_, ?_, ?_, ?_, ?_, ?_, ?_, ?_, ?_⟩
  · unfold State.pacersTick; (try dsimp only); (repeat' split) <;> (try dsimp only) <;>
      first | rfl | (simp; done) | (rw [foldl_keeps (fun s : State => s.pending) _ (by intros; simp)]; (try simp); done) |
        (simp; (try rw [foldl_keeps (fun s : State => s.pending) _ (by intros; simp)]); done)
  · unfold State.pacersTick; (try dsimp only); (repeat' split) <;> (try dsimp only) <;>
      first | rfl | (simp; done) | (rw [foldl_keeps (fun s : State => s.inReset) _ (by intros; simp)]; (try simp); done) |
        (simp; (try rw [foldl_keeps (fun s : State => s.inReset) _ (by intros; simp)]); done)
  · unfold State.pacersTick; (try dsimp only); (repeat' split) <;> (try dsimp only) <;>
      first | rfl | (simp; done) | (rw [foldl_keeps (fun s : State => s.mgmt.replies) _ (by intros; simp)]; (try simp); done) |
        (simp; (try rw [foldl_keeps (fun s : State => s.mgmt.replies) _ (by intros; simp)]); done)
  · unfold State.pacersTick; (try dsimp only); (repeat' split) <;> (try dsimp only) <;>
      first | rfl | (simp; done) | (rw [foldl_keeps (fun s : State => s.mgmt.engine) _ (by intros; simp)]; (try simp); done) |
        (simp; (try rw [foldl_keeps (fun s : State => s.mgmt.engine) _ (by intros; simp)]); done)
  · unfold State.pacersTick; (try dsimp only); (repeat' split) <;> (try dsimp only) <;>
      first | rfl | (simp; done) | (rw [foldl_keeps (fun s : State => s.mgmt.commands) _ (by intros; simp)]; (try simp); done) |
        (simp; (try rw [foldl_keeps (fun s : State => s.mgmt.commands) _ (by intros; simp)]); done)
  · unfold State.pacersTick; (try dsimp only); (repeat' split) <;> (try dsimp only) <;>
      first | rfl | (simp; done) | (rw [foldl_keeps (fun s : State => s.mgmt.ready) _ (by intros; simp)]; (try simp); done) |
        (simp; (try rw [foldl_keeps (fun s : State => s.mgmt.ready) _ (by intros; simp)]); done)
  · unfold State.pacersTick; (try dsimp only); (repeat' split) <;> (try dsimp only) <;>
      first | rfl | (simp; done) | (rw [foldl_keeps (fun s : State => s.mgmt.framer) _ (by intros; simp)]; (try simp); done) |
        (simp; (try rw [foldl_keeps (fun s : State => s.mgmt.framer) _ (by intros; simp)]); done)
  · unfold State.pacersTick; (try dsimp only); (repeat' split) <;> (try dsimp only) <;>
      first | rfl | (simp; done) | (rw [foldl_keeps (fun s : State => s.mgmt.sending) _ (by intros; simp)]; (try simp); done) |
        (simp; (try rw [foldl_keeps (fun s : State => s.mgmt.sending) _ (by intros; simp)]); done)
  · unfold State.pacersTick; (try dsimp only); (repeat' split) <;> (try dsimp only) <;>
      first | rfl | (simp; done) | (rw [foldl_keeps (fun s : State => s.mgmt.startCause) _ (by intros; simp)]; (try simp); done) |
        (simp; (try rw [foldl_keeps (fun s : State => s.mgmt.startCause) _ (by intros; simp)]); done)
  · unfold State.pacersTick; (try dsimp only); (repeat' split) <;> (try dsimp only) <;>
      first | rfl | (simp; done) | (rw [foldl_keeps (fun s : State => s.mgmt.frameErrors) _ (by intros; simp)]; (try simp); done) |
        (simp; (try rw [foldl_keeps (fun s : State => s.mgmt.frameErrors) _ (by intros; simp)]); done)
  · unfold State.pacersTick; (try dsimp only); (repeat' split) <;> (try dsimp only) <;>
      first | rfl | (simp; done) | (rw [foldl_keeps (fun s : State => s.mgmt.busyCount) _ (by intros; simp)]; (try simp); done) |
        (simp; (try rw [foldl_keeps (fun s : State => s.mgmt.busyCount) _ (by intros; simp)]); done)
  · unfold State.pacersTick; (try dsimp only); (repeat' split) <;> (try dsimp only) <;>
      first | rfl | (simp; done) | (rw [foldl_keeps (fun s : State => s.mgmt.owed) _ (by intros; simp)]; (try simp); done) |
        (simp; (try rw [foldl_keeps (fun s : State => s.mgmt.owed) _ (by intros; simp)]); done)
  · unfold State.pacersTick; (try dsimp only); (repeat' split) <;> (try dsimp only) <;>
      first | rfl | (simp; done) | (rw [foldl_keeps (fun s : State => s.mgmt.busyBacklog) _ (by intros; simp)]; (try simp); done) |
        (simp; (try rw [foldl_keeps (fun s : State => s.mgmt.busyBacklog) _ (by intros; simp)]); done)
  · unfold State.pacersTick; (try dsimp only); (repeat' split) <;> (try dsimp only) <;>
      first | rfl | (simp; done) | (rw [foldl_keeps (fun s : State => s.mgmt.pendingErrors) _ (by intros; simp)]; (try simp); done) |
        (simp; (try rw [foldl_keeps (fun s : State => s.mgmt.pendingErrors) _ (by intros; simp)]); done)
  · unfold State.pacersTick; (try dsimp only); (repeat' split) <;> (try dsimp only) <;>
      first | rfl | (simp; done) | (rw [foldl_keeps (fun s : State => s.table) _ (by intros; simp)]; (try simp); done) |
        (simp; (try rw [foldl_keeps (fun s : State => s.table) _ (by intros; simp)]); done)
  · unfold State.pacersTick; (try dsimp only); (repeat' split) <;> (try dsimp only) <;>
      first | rfl | (simp; done) | (rw [foldl_keeps (fun s : State => s.sched) _ (by intros; simp)]; (try simp); done) |
        (simp; (try rw [foldl_keeps (fun s : State => s.sched) _ (by intros; simp)]); done)
  · unfold State.pacersTick; (try dsimp only); (repeat' split) <;> (try dsimp only) <;>
      first | rfl | (simp; done) | (rw [foldl_keeps (fun s : State => s.store) _ (by intros; simp)]; (try simp); done) |
        (simp; (try rw [foldl_keeps (fun s : State => s.store) _ (by intros; simp)]); done)
  · unfold State.pacersTick; (try dsimp only); (repeat' split) <;> (try dsimp only) <;>
      first | rfl | (simp; done) | (rw [foldl_keeps (fun s : State => s.time) _ (by intros; simp)]; (try simp); done) |
        (simp; (try rw [foldl_keeps (fun s : State => s.time) _ (by intros; simp)]); done)
  · unfold State.pacersTick; (try dsimp only); (repeat' split) <;> (try dsimp only) <;>
      first | rfl | (simp; done) | (rw [foldl_keeps (fun s : State => s.counters) _ (by intros; simp)]; (try simp); done) |
        (simp; (try rw [foldl_keeps (fun s : State => s.counters) _ (by intros; simp)]); done)
  · unfold State.pacersTick; (try dsimp only); (repeat' split) <;> (try dsimp only) <;>
      first | rfl | (simp; done) | (rw [foldl_keeps (fun s : State => s.ports) _ (by intros; simp)]; (try simp); done) |
        (simp; (try rw [foldl_keeps (fun s : State => s.ports) _ (by intros; simp)]); done)
  · unfold State.pacersTick; (try dsimp only); (repeat' split) <;> (try dsimp only) <;>
      first | rfl | (simp; done) | (rw [foldl_keeps (fun s : State => s.link) _ (by intros; simp)]; (try simp); done) |
        (simp; (try rw [foldl_keeps (fun s : State => s.link) _ (by intros; simp)]); done)
  · unfold State.pacersTick; (try dsimp only); (repeat' split) <;> (try dsimp only) <;>
      first | rfl | (simp; done) | (rw [foldl_keeps (fun s : State => s.choices) _ (by intros; simp)]; (try simp); done) |
        (simp; (try rw [foldl_keeps (fun s : State => s.choices) _ (by intros; simp)]); done)
  · unfold State.pacersTick; (try dsimp only); (repeat' split) <;> (try dsimp only) <;>
      first | rfl | (simp; done) | (rw [foldl_keeps (fun s : State => s.out) _ (by intros; simp)]; (try simp); done) |
        (simp; (try rw [foldl_keeps (fun s : State => s.out) _ (by intros; simp)]); done)
  · unfold State.pacersTick; (try dsimp only); (repeat' split) <;> (try dsimp only) <;>
      first | rfl | (simp; done) | (rw [foldl_keeps (fun s : State => s.evThresholds) _ (by intros; simp)]; (try simp); done) |
        (simp; (try rw [foldl_keeps (fun s : State => s.evThresholds) _ (by intros; simp)]); done)

@[simp] theorem updAll_keeps (s : State) (f : Episode → Episode) :
    (s.updAll f).pending = s.pending ∧ (s.updAll f).inReset = s.inReset ∧ (s.updAll f).mgmt = s.mgmt ∧
      (s.updAll f).table.generations = s.table.generations ∧ (s.updAll f).table.refusing = s.table.refusing ∧
      (s.updAll f).sched = s.sched ∧ (s.updAll f).store = s.store ∧ (s.updAll f).pacers = s.pacers ∧
      (s.updAll f).time = s.time ∧ (s.updAll f).counters = s.counters ∧ (s.updAll f).ports = s.ports ∧
      (s.updAll f).link = s.link ∧ (s.updAll f).choices = s.choices ∧ (s.updAll f).out = s.out ∧
      (s.updAll f).evThresholds = s.evThresholds := by
  unfold State.updAll
  try dsimp only
  (repeat' split) <;> first | (simp; done) | (refine ⟨?_,?_,?_,?_,?_,?_,?_,?_,?_,?_,?_,?_,?_,?_,?_⟩ <;> first | rfl | (simp; done)) | simp_all

@[simp] theorem pacerTick_keeps (s : State) :
    (s.pacerTick).pending = s.pending ∧ (s.pacerTick).inReset = s.inReset ∧ (s.pacerTick).mgmt.replies = s.mgmt.replies ∧
      (s.pacerTick).mgmt.engine = s.mgmt.engine ∧ (s.pacerTick).mgmt.commands = s.mgmt.commands ∧
      (s.pacerTick).mgmt.ready = s.mgmt.ready ∧ (s.pacerTick).mgmt.framer = s.mgmt.framer ∧
      (s.pacerTick).mgmt.sending = s.mgmt.sending ∧ (s.pacerTick).mgmt.startCause = s.mgmt.startCause ∧
      (s.pacerTick).mgmt.frameErrors = s.mgmt.frameErrors ∧ (s.pacerTick).mgmt.busyCount = s.mgmt.busyCount ∧
      (s.pacerTick).mgmt.owed = s.mgmt.owed ∧ (s.pacerTick).mgmt.busyBacklog = s.mgmt.busyBacklog ∧
      (s.pacerTick).mgmt.pendingErrors = s.mgmt.pendingErrors ∧ (s.pacerTick).table.generations = s.table.generations ∧
      (s.pacerTick).table.refusing = s.table.refusing ∧ (s.pacerTick).sched = s.sched ∧ (s.pacerTick).store = s.store ∧
      (s.pacerTick).time.clock = s.time.clock ∧ (s.pacerTick).counters = s.counters ∧ (s.pacerTick).ports = s.ports ∧
      (s.pacerTick).link = s.link ∧ (s.pacerTick).choices = s.choices ∧ (s.pacerTick).out = s.out ∧
      (s.pacerTick).evThresholds = s.evThresholds := by
  unfold State.pacerTick
  try dsimp only
  (repeat' split) <;> first | (simp; done) | (refine ⟨?_,?_,?_,?_,?_,?_,?_,?_,?_,?_,?_,?_,?_,?_,?_,?_,?_,?_,?_,?_,?_,?_,?_,?_,?_⟩ <;> first | rfl | (simp; done)) | simp_all

@[simp] theorem raiseExpired_keeps (s : State) (slot : Nat) (e : Episode) (action : Option ExpiryAction) :
    (s.raiseExpired slot e action).pending = s.pending ∧ (s.raiseExpired slot e action).inReset = s.inReset ∧
      (s.raiseExpired slot e action).mgmt.replies = s.mgmt.replies ∧
      (s.raiseExpired slot e action).mgmt.engine = s.mgmt.engine ∧
      (s.raiseExpired slot e action).mgmt.commands = s.mgmt.commands ∧
      (s.raiseExpired slot e action).mgmt.ready = s.mgmt.ready ∧
      (s.raiseExpired slot e action).mgmt.framer = s.mgmt.framer ∧
      (s.raiseExpired slot e action).mgmt.sending = s.mgmt.sending ∧
      (s.raiseExpired slot e action).mgmt.startCause = s.mgmt.startCause ∧
      (s.raiseExpired slot e action).mgmt.frameErrors = s.mgmt.frameErrors ∧
      (s.raiseExpired slot e action).mgmt.busyCount = s.mgmt.busyCount ∧
      (s.raiseExpired slot e action).mgmt.owed = s.mgmt.owed ∧
      (s.raiseExpired slot e action).mgmt.busyBacklog = s.mgmt.busyBacklog ∧
      (s.raiseExpired slot e action).mgmt.pendingErrors = s.mgmt.pendingErrors ∧
      (s.raiseExpired slot e action).table = s.table ∧ (s.raiseExpired slot e action).sched = s.sched ∧
      (s.raiseExpired slot e action).store = s.store ∧ (s.raiseExpired slot e action).pacers = s.pacers ∧
      (s.raiseExpired slot e action).time = s.time ∧ (s.raiseExpired slot e action).counters = s.counters ∧
      (s.raiseExpired slot e action).ports = s.ports ∧ (s.raiseExpired slot e action).link = s.link ∧
      (s.raiseExpired slot e action).choices = s.choices ∧ (s.raiseExpired slot e action).out = s.out ∧
      (s.raiseExpired slot e action).evThresholds = s.evThresholds := by
  unfold State.raiseExpired
  try dsimp only
  (repeat' split) <;> first | (simp; done) | (refine ⟨?_,?_,?_,?_,?_,?_,?_,?_,?_,?_,?_,?_,?_,?_,?_,?_,?_,?_,?_,?_,?_,?_,?_,?_,?_⟩ <;> first | rfl | (simp; done)) | simp_all

@[simp] theorem unpaceExpiry_keeps (s : State) (g : Nat) :
    (s.unpaceExpiry g).pending = s.pending ∧ (s.unpaceExpiry g).inReset = s.inReset ∧ (s.unpaceExpiry g).mgmt = s.mgmt ∧
      (s.unpaceExpiry g).table.generations = s.table.generations ∧
      (s.unpaceExpiry g).table.refusing = s.table.refusing ∧ (s.unpaceExpiry g).store = s.store ∧
      (s.unpaceExpiry g).pacers = s.pacers ∧ (s.unpaceExpiry g).time = s.time ∧
      (s.unpaceExpiry g).counters = s.counters ∧ (s.unpaceExpiry g).ports = s.ports ∧ (s.unpaceExpiry g).link = s.link ∧
      (s.unpaceExpiry g).choices = s.choices ∧ (s.unpaceExpiry g).out = s.out ∧
      (s.unpaceExpiry g).evThresholds = s.evThresholds := by
  unfold State.unpaceExpiry
  split <;> simp

@[simp] theorem expireArmed_keeps (s : State) (slot : Nat) (e : Episode) :
    (s.expireArmed slot e).pending = s.pending ∧ (s.expireArmed slot e).inReset = s.inReset ∧
      (s.expireArmed slot e).mgmt.replies = s.mgmt.replies ∧ (s.expireArmed slot e).mgmt.engine = s.mgmt.engine ∧
      (s.expireArmed slot e).mgmt.commands = s.mgmt.commands ∧ (s.expireArmed slot e).mgmt.ready = s.mgmt.ready ∧
      (s.expireArmed slot e).mgmt.framer = s.mgmt.framer ∧ (s.expireArmed slot e).mgmt.sending = s.mgmt.sending ∧
      (s.expireArmed slot e).mgmt.startCause = s.mgmt.startCause ∧
      (s.expireArmed slot e).mgmt.frameErrors = s.mgmt.frameErrors ∧
      (s.expireArmed slot e).mgmt.busyCount = s.mgmt.busyCount ∧ (s.expireArmed slot e).mgmt.owed = s.mgmt.owed ∧
      (s.expireArmed slot e).mgmt.busyBacklog = s.mgmt.busyBacklog ∧
      (s.expireArmed slot e).mgmt.pendingErrors = s.mgmt.pendingErrors ∧
      (s.expireArmed slot e).table.generations = s.table.generations ∧
      (s.expireArmed slot e).table.refusing = s.table.refusing ∧ (s.expireArmed slot e).store = s.store ∧
      (s.expireArmed slot e).pacers = s.pacers ∧ (s.expireArmed slot e).time = s.time ∧
      (s.expireArmed slot e).counters.threshold = s.counters.threshold ∧ (s.expireArmed slot e).link.lanes = s.link.lanes ∧
      (s.expireArmed slot e).link.state = s.link.state ∧ (s.expireArmed slot e).link.expected = s.link.expected ∧
      (s.expireArmed slot e).link.lastGood = s.link.lastGood ∧
      (s.expireArmed slot e).link.established = s.link.established ∧
      (s.expireArmed slot e).link.mismatch = s.link.mismatch ∧ (s.expireArmed slot e).link.loss = s.link.loss ∧
      (s.expireArmed slot e).link.openPacket = s.link.openPacket ∧
      (s.expireArmed slot e).link.egressFull = s.link.egressFull ∧ (s.expireArmed slot e).link.hold = s.link.hold ∧
      (s.expireArmed slot e).link.paused = s.link.paused ∧ (s.expireArmed slot e).link.stubs = s.link.stubs ∧
      (s.expireArmed slot e).link.passList = s.link.passList ∧ (s.expireArmed slot e).link.sending = s.link.sending ∧
      (s.expireArmed slot e).link.discards = s.link.discards ∧
      (s.expireArmed slot e).link.stagingDrops = s.link.stagingDrops ∧
      (s.expireArmed slot e).link.ignoredSightings = s.link.ignoredSightings ∧
      (s.expireArmed slot e).link.rejectedWords = s.link.rejectedWords ∧
      (s.expireArmed slot e).link.returnLosses = s.link.returnLosses ∧ (s.expireArmed slot e).choices = s.choices ∧
      (s.expireArmed slot e).out = s.out := by
  unfold State.expireArmed
  try dsimp only
  (repeat' split) <;> first | (simp; done) | (refine ⟨?_,?_,?_,?_,?_,?_,?_,?_,?_,?_,?_,?_,?_,?_,?_,?_,?_,?_,?_,?_,?_,?_,?_,?_,?_,?_,?_,?_,?_,?_,?_,?_,?_,?_,?_,?_,?_,?_,?_,?_,?_⟩ <;> first | rfl | (simp; done)) | simp_all

@[simp] theorem expireDrain_keeps (s : State) (slot : Nat) (e : Episode) :
    (s.expireDrain slot e).pending = s.pending ∧ (s.expireDrain slot e).inReset = s.inReset ∧
      (s.expireDrain slot e).mgmt.replies = s.mgmt.replies ∧ (s.expireDrain slot e).mgmt.engine = s.mgmt.engine ∧
      (s.expireDrain slot e).mgmt.commands = s.mgmt.commands ∧ (s.expireDrain slot e).mgmt.ready = s.mgmt.ready ∧
      (s.expireDrain slot e).mgmt.framer = s.mgmt.framer ∧ (s.expireDrain slot e).mgmt.sending = s.mgmt.sending ∧
      (s.expireDrain slot e).mgmt.startCause = s.mgmt.startCause ∧
      (s.expireDrain slot e).mgmt.frameErrors = s.mgmt.frameErrors ∧
      (s.expireDrain slot e).mgmt.busyCount = s.mgmt.busyCount ∧ (s.expireDrain slot e).mgmt.owed = s.mgmt.owed ∧
      (s.expireDrain slot e).mgmt.busyBacklog = s.mgmt.busyBacklog ∧
      (s.expireDrain slot e).mgmt.pendingErrors = s.mgmt.pendingErrors ∧
      (s.expireDrain slot e).table.generations = s.table.generations ∧
      (s.expireDrain slot e).table.refusing = s.table.refusing ∧ (s.expireDrain slot e).store = s.store ∧
      (s.expireDrain slot e).pacers = s.pacers ∧ (s.expireDrain slot e).time = s.time ∧
      (s.expireDrain slot e).counters.threshold = s.counters.threshold ∧ (s.expireDrain slot e).link.lanes = s.link.lanes ∧
      (s.expireDrain slot e).link.state = s.link.state ∧ (s.expireDrain slot e).link.expected = s.link.expected ∧
      (s.expireDrain slot e).link.lastGood = s.link.lastGood ∧
      (s.expireDrain slot e).link.established = s.link.established ∧
      (s.expireDrain slot e).link.mismatch = s.link.mismatch ∧ (s.expireDrain slot e).link.loss = s.link.loss ∧
      (s.expireDrain slot e).link.openPacket = s.link.openPacket ∧
      (s.expireDrain slot e).link.egressFull = s.link.egressFull ∧ (s.expireDrain slot e).link.hold = s.link.hold ∧
      (s.expireDrain slot e).link.paused = s.link.paused ∧ (s.expireDrain slot e).link.stubs = s.link.stubs ∧
      (s.expireDrain slot e).link.passList = s.link.passList ∧ (s.expireDrain slot e).link.sending = s.link.sending ∧
      (s.expireDrain slot e).link.discards = s.link.discards ∧
      (s.expireDrain slot e).link.stagingDrops = s.link.stagingDrops ∧
      (s.expireDrain slot e).link.ignoredSightings = s.link.ignoredSightings ∧
      (s.expireDrain slot e).link.rejectedWords = s.link.rejectedWords ∧
      (s.expireDrain slot e).link.returnLosses = s.link.returnLosses ∧ (s.expireDrain slot e).choices = s.choices ∧
      (s.expireDrain slot e).out = s.out := by
  unfold State.expireDrain
  try dsimp only
  (repeat' split) <;> first | (simp; done) | (refine ⟨?_,?_,?_,?_,?_,?_,?_,?_,?_,?_,?_,?_,?_,?_,?_,?_,?_,?_,?_,?_,?_,?_,?_,?_,?_,?_,?_,?_,?_,?_,?_,?_,?_,?_,?_,?_,?_,?_,?_,?_,?_⟩ <;> first | rfl | (simp; done)) | simp_all

@[simp] theorem expireDiscard_keeps (s : State) (slot : Nat) (e : Episode) :
    (s.expireDiscard slot e).pending = s.pending ∧ (s.expireDiscard slot e).inReset = s.inReset ∧
      (s.expireDiscard slot e).mgmt.replies = s.mgmt.replies ∧ (s.expireDiscard slot e).mgmt.engine = s.mgmt.engine ∧
      (s.expireDiscard slot e).mgmt.commands = s.mgmt.commands ∧ (s.expireDiscard slot e).mgmt.ready = s.mgmt.ready ∧
      (s.expireDiscard slot e).mgmt.framer = s.mgmt.framer ∧ (s.expireDiscard slot e).mgmt.sending = s.mgmt.sending ∧
      (s.expireDiscard slot e).mgmt.startCause = s.mgmt.startCause ∧
      (s.expireDiscard slot e).mgmt.frameErrors = s.mgmt.frameErrors ∧
      (s.expireDiscard slot e).mgmt.busyCount = s.mgmt.busyCount ∧ (s.expireDiscard slot e).mgmt.owed = s.mgmt.owed ∧
      (s.expireDiscard slot e).mgmt.busyBacklog = s.mgmt.busyBacklog ∧
      (s.expireDiscard slot e).mgmt.pendingErrors = s.mgmt.pendingErrors ∧
      (s.expireDiscard slot e).table.generations = s.table.generations ∧
      (s.expireDiscard slot e).table.refusing = s.table.refusing ∧ (s.expireDiscard slot e).store = s.store ∧
      (s.expireDiscard slot e).pacers = s.pacers ∧ (s.expireDiscard slot e).time = s.time ∧
      (s.expireDiscard slot e).counters.threshold = s.counters.threshold ∧
      (s.expireDiscard slot e).link.lanes = s.link.lanes ∧ (s.expireDiscard slot e).link.state = s.link.state ∧
      (s.expireDiscard slot e).link.expected = s.link.expected ∧ (s.expireDiscard slot e).link.lastGood = s.link.lastGood ∧
      (s.expireDiscard slot e).link.established = s.link.established ∧
      (s.expireDiscard slot e).link.mismatch = s.link.mismatch ∧ (s.expireDiscard slot e).link.loss = s.link.loss ∧
      (s.expireDiscard slot e).link.openPacket = s.link.openPacket ∧
      (s.expireDiscard slot e).link.egressFull = s.link.egressFull ∧ (s.expireDiscard slot e).link.hold = s.link.hold ∧
      (s.expireDiscard slot e).link.paused = s.link.paused ∧ (s.expireDiscard slot e).link.stubs = s.link.stubs ∧
      (s.expireDiscard slot e).link.passList = s.link.passList ∧ (s.expireDiscard slot e).link.sending = s.link.sending ∧
      (s.expireDiscard slot e).link.discards = s.link.discards ∧
      (s.expireDiscard slot e).link.stagingDrops = s.link.stagingDrops ∧
      (s.expireDiscard slot e).link.ignoredSightings = s.link.ignoredSightings ∧
      (s.expireDiscard slot e).link.rejectedWords = s.link.rejectedWords ∧
      (s.expireDiscard slot e).link.returnLosses = s.link.returnLosses ∧ (s.expireDiscard slot e).choices = s.choices ∧
      (s.expireDiscard slot e).out = s.out := by
  unfold State.expireDiscard
  try dsimp only
  (repeat' split) <;> first | (simp; done) | (refine ⟨?_,?_,?_,?_,?_,?_,?_,?_,?_,?_,?_,?_,?_,?_,?_,?_,?_,?_,?_,?_,?_,?_,?_,?_,?_,?_,?_,?_,?_,?_,?_,?_,?_,?_,?_,?_,?_,?_,?_,?_,?_⟩ <;> first | rfl | (simp; done)) | simp_all

@[simp] theorem expireDeadline_keeps (s : State) (slot : Nat) (e : Episode) :
    (s.expireDeadline slot e).pending = s.pending ∧ (s.expireDeadline slot e).inReset = s.inReset ∧
      (s.expireDeadline slot e).mgmt.replies = s.mgmt.replies ∧ (s.expireDeadline slot e).mgmt.engine = s.mgmt.engine ∧
      (s.expireDeadline slot e).mgmt.commands = s.mgmt.commands ∧ (s.expireDeadline slot e).mgmt.ready = s.mgmt.ready ∧
      (s.expireDeadline slot e).mgmt.framer = s.mgmt.framer ∧ (s.expireDeadline slot e).mgmt.sending = s.mgmt.sending ∧
      (s.expireDeadline slot e).mgmt.startCause = s.mgmt.startCause ∧
      (s.expireDeadline slot e).mgmt.frameErrors = s.mgmt.frameErrors ∧
      (s.expireDeadline slot e).mgmt.busyCount = s.mgmt.busyCount ∧ (s.expireDeadline slot e).mgmt.owed = s.mgmt.owed ∧
      (s.expireDeadline slot e).mgmt.busyBacklog = s.mgmt.busyBacklog ∧
      (s.expireDeadline slot e).mgmt.pendingErrors = s.mgmt.pendingErrors ∧
      (s.expireDeadline slot e).table.generations = s.table.generations ∧
      (s.expireDeadline slot e).table.refusing = s.table.refusing ∧ (s.expireDeadline slot e).store = s.store ∧
      (s.expireDeadline slot e).pacers = s.pacers ∧ (s.expireDeadline slot e).time = s.time ∧
      (s.expireDeadline slot e).counters.threshold = s.counters.threshold ∧
      (s.expireDeadline slot e).link.lanes = s.link.lanes ∧ (s.expireDeadline slot e).link.state = s.link.state ∧
      (s.expireDeadline slot e).link.expected = s.link.expected ∧
      (s.expireDeadline slot e).link.lastGood = s.link.lastGood ∧
      (s.expireDeadline slot e).link.established = s.link.established ∧
      (s.expireDeadline slot e).link.mismatch = s.link.mismatch ∧ (s.expireDeadline slot e).link.loss = s.link.loss ∧
      (s.expireDeadline slot e).link.openPacket = s.link.openPacket ∧
      (s.expireDeadline slot e).link.egressFull = s.link.egressFull ∧ (s.expireDeadline slot e).link.hold = s.link.hold ∧
      (s.expireDeadline slot e).link.paused = s.link.paused ∧ (s.expireDeadline slot e).link.stubs = s.link.stubs ∧
      (s.expireDeadline slot e).link.passList = s.link.passList ∧ (s.expireDeadline slot e).link.sending = s.link.sending ∧
      (s.expireDeadline slot e).link.discards = s.link.discards ∧
      (s.expireDeadline slot e).link.stagingDrops = s.link.stagingDrops ∧
      (s.expireDeadline slot e).link.ignoredSightings = s.link.ignoredSightings ∧
      (s.expireDeadline slot e).link.rejectedWords = s.link.rejectedWords ∧
      (s.expireDeadline slot e).link.returnLosses = s.link.returnLosses ∧ (s.expireDeadline slot e).choices = s.choices ∧
      (s.expireDeadline slot e).out = s.out := by
  unfold State.expireDeadline
  try dsimp only
  (repeat' split) <;> first | (simp; done) | (refine ⟨?_,?_,?_,?_,?_,?_,?_,?_,?_,?_,?_,?_,?_,?_,?_,?_,?_,?_,?_,?_,?_,?_,?_,?_,?_,?_,?_,?_,?_,?_,?_,?_,?_,?_,?_,?_,?_,?_,?_,?_,?_⟩ <;> first | rfl | (simp; done)) | simp_all

@[simp] theorem takeDeadline_keeps (s : State) (slot : Nat) :
    (s.takeDeadline slot).pending = s.pending ∧ (s.takeDeadline slot).inReset = s.inReset ∧
      (s.takeDeadline slot).mgmt.replies = s.mgmt.replies ∧ (s.takeDeadline slot).mgmt.engine = s.mgmt.engine ∧
      (s.takeDeadline slot).mgmt.commands = s.mgmt.commands ∧ (s.takeDeadline slot).mgmt.ready = s.mgmt.ready ∧
      (s.takeDeadline slot).mgmt.framer = s.mgmt.framer ∧ (s.takeDeadline slot).mgmt.sending = s.mgmt.sending ∧
      (s.takeDeadline slot).mgmt.startCause = s.mgmt.startCause ∧
      (s.takeDeadline slot).mgmt.frameErrors = s.mgmt.frameErrors ∧
      (s.takeDeadline slot).mgmt.busyCount = s.mgmt.busyCount ∧ (s.takeDeadline slot).mgmt.owed = s.mgmt.owed ∧
      (s.takeDeadline slot).mgmt.busyBacklog = s.mgmt.busyBacklog ∧
      (s.takeDeadline slot).mgmt.pendingErrors = s.mgmt.pendingErrors ∧
      (s.takeDeadline slot).table.generations = s.table.generations ∧
      (s.takeDeadline slot).table.refusing = s.table.refusing ∧ (s.takeDeadline slot).store = s.store ∧
      (s.takeDeadline slot).pacers = s.pacers ∧ (s.takeDeadline slot).time = s.time ∧
      (s.takeDeadline slot).counters.threshold = s.counters.threshold ∧ (s.takeDeadline slot).link.lanes = s.link.lanes ∧
      (s.takeDeadline slot).link.state = s.link.state ∧ (s.takeDeadline slot).link.expected = s.link.expected ∧
      (s.takeDeadline slot).link.lastGood = s.link.lastGood ∧ (s.takeDeadline slot).link.established = s.link.established ∧
      (s.takeDeadline slot).link.mismatch = s.link.mismatch ∧ (s.takeDeadline slot).link.loss = s.link.loss ∧
      (s.takeDeadline slot).link.openPacket = s.link.openPacket ∧
      (s.takeDeadline slot).link.egressFull = s.link.egressFull ∧ (s.takeDeadline slot).link.hold = s.link.hold ∧
      (s.takeDeadline slot).link.paused = s.link.paused ∧ (s.takeDeadline slot).link.stubs = s.link.stubs ∧
      (s.takeDeadline slot).link.passList = s.link.passList ∧ (s.takeDeadline slot).link.sending = s.link.sending ∧
      (s.takeDeadline slot).link.discards = s.link.discards ∧
      (s.takeDeadline slot).link.stagingDrops = s.link.stagingDrops ∧
      (s.takeDeadline slot).link.ignoredSightings = s.link.ignoredSightings ∧
      (s.takeDeadline slot).link.rejectedWords = s.link.rejectedWords ∧
      (s.takeDeadline slot).link.returnLosses = s.link.returnLosses ∧ (s.takeDeadline slot).choices = s.choices ∧
      (s.takeDeadline slot).out = s.out := by
  unfold State.takeDeadline
  try dsimp only
  (repeat' split) <;> first | (simp; done) | (refine ⟨?_,?_,?_,?_,?_,?_,?_,?_,?_,?_,?_,?_,?_,?_,?_,?_,?_,?_,?_,?_,?_,?_,?_,?_,?_,?_,?_,?_,?_,?_,?_,?_,?_,?_,?_,?_,?_,?_,?_,?_,?_⟩ <;> first | rfl | (simp; done)) | simp_all

@[simp] theorem takeIdle_keeps (s : State) (slot : Nat) :
    (s.takeIdle slot).pending = s.pending ∧ (s.takeIdle slot).inReset = s.inReset ∧
      (s.takeIdle slot).mgmt.replies = s.mgmt.replies ∧ (s.takeIdle slot).mgmt.engine = s.mgmt.engine ∧
      (s.takeIdle slot).mgmt.commands = s.mgmt.commands ∧ (s.takeIdle slot).mgmt.ready = s.mgmt.ready ∧
      (s.takeIdle slot).mgmt.framer = s.mgmt.framer ∧ (s.takeIdle slot).mgmt.sending = s.mgmt.sending ∧
      (s.takeIdle slot).mgmt.startCause = s.mgmt.startCause ∧ (s.takeIdle slot).mgmt.frameErrors = s.mgmt.frameErrors ∧
      (s.takeIdle slot).mgmt.busyCount = s.mgmt.busyCount ∧ (s.takeIdle slot).mgmt.owed = s.mgmt.owed ∧
      (s.takeIdle slot).mgmt.busyBacklog = s.mgmt.busyBacklog ∧
      (s.takeIdle slot).mgmt.pendingErrors = s.mgmt.pendingErrors ∧
      (s.takeIdle slot).table.generations = s.table.generations ∧ (s.takeIdle slot).table.refusing = s.table.refusing ∧
      (s.takeIdle slot).sched = s.sched ∧ (s.takeIdle slot).store = s.store ∧ (s.takeIdle slot).pacers = s.pacers ∧
      (s.takeIdle slot).time = s.time ∧ (s.takeIdle slot).counters = s.counters ∧ (s.takeIdle slot).ports = s.ports ∧
      (s.takeIdle slot).link = s.link ∧ (s.takeIdle slot).choices = s.choices ∧ (s.takeIdle slot).out = s.out ∧
      (s.takeIdle slot).evThresholds = s.evThresholds := by
  unfold State.takeIdle
  try dsimp only
  (repeat' split) <;> first | (simp; done) | (refine ⟨?_,?_,?_,?_,?_,?_,?_,?_,?_,?_,?_,?_,?_,?_,?_,?_,?_,?_,?_,?_,?_,?_,?_,?_,?_,?_⟩ <;> first | rfl | (simp; done)) | simp_all

@[simp] theorem takeLinger_keeps (s : State) (slot : Nat) :
    (s.takeLinger slot).pending = s.pending ∧ (s.takeLinger slot).inReset = s.inReset ∧ (s.takeLinger slot).mgmt = s.mgmt ∧
      (s.takeLinger slot).table.refusing = s.table.refusing ∧ (s.takeLinger slot).sched = s.sched ∧
      (s.takeLinger slot).store = s.store ∧ (s.takeLinger slot).pacers = s.pacers ∧ (s.takeLinger slot).time = s.time ∧
      (s.takeLinger slot).counters = s.counters ∧ (s.takeLinger slot).ports = s.ports ∧ (s.takeLinger slot).link = s.link ∧
      (s.takeLinger slot).choices = s.choices ∧ (s.takeLinger slot).out = s.out ∧
      (s.takeLinger slot).evThresholds = s.evThresholds := by
  unfold State.takeLinger
  try dsimp only
  (repeat' split) <;> first | (simp; done) | (refine ⟨?_,?_,?_,?_,?_,?_,?_,?_,?_,?_,?_,?_,?_,?_⟩ <;> first | rfl | (simp; done)) | simp_all

@[simp] theorem formBond_keeps (s : State) (p : Nat) :
    (s.formBond p).pending = s.pending ∧ (s.formBond p).inReset = s.inReset ∧ (s.formBond p).mgmt = s.mgmt ∧
      (s.formBond p).table = s.table ∧ (s.formBond p).sched = s.sched ∧ (s.formBond p).store = s.store ∧
      (s.formBond p).time = s.time ∧ (s.formBond p).counters.threshold = s.counters.threshold ∧
      (s.formBond p).link = s.link ∧ (s.formBond p).choices = s.choices ∧ (s.formBond p).out = s.out ∧
      (s.formBond p).evThresholds = s.evThresholds := by
  unfold State.formBond
  try dsimp only
  (repeat' split) <;> first | (simp; done) | (refine ⟨?_,?_,?_,?_,?_,?_,?_,?_,?_,?_,?_,?_⟩ <;> first | rfl | (simp; done)) | simp_all

@[simp] theorem dissolveBond_keeps (s : State) (p : Nat) :
    (s.dissolveBond p).pending = s.pending ∧ (s.dissolveBond p).inReset = s.inReset ∧ (s.dissolveBond p).mgmt = s.mgmt ∧
      (s.dissolveBond p).table = s.table ∧ (s.dissolveBond p).sched = s.sched ∧ (s.dissolveBond p).store = s.store ∧
      (s.dissolveBond p).pacers = s.pacers ∧ (s.dissolveBond p).time = s.time ∧
      (s.dissolveBond p).counters.threshold = s.counters.threshold ∧ (s.dissolveBond p).link = s.link ∧
      (s.dissolveBond p).choices = s.choices ∧ (s.dissolveBond p).out = s.out ∧
      (s.dissolveBond p).evThresholds = s.evThresholds := by
  unfold State.dissolveBond
  try dsimp only
  (repeat' split) <;> first | (simp; done) | (refine ⟨?_,?_,?_,?_,?_,?_,?_,?_,?_,?_,?_,?_,?_⟩ <;> first | rfl | (simp; done)) | simp_all

@[simp] theorem rebond_keeps (s : State) (p : Nat) (before after : Bond) :
    (s.rebond p before after).pending = s.pending ∧ (s.rebond p before after).inReset = s.inReset ∧
      (s.rebond p before after).mgmt = s.mgmt ∧ (s.rebond p before after).table = s.table ∧
      (s.rebond p before after).sched = s.sched ∧ (s.rebond p before after).store = s.store ∧
      (s.rebond p before after).time = s.time ∧ (s.rebond p before after).counters.threshold = s.counters.threshold ∧
      (s.rebond p before after).link = s.link ∧ (s.rebond p before after).choices = s.choices ∧
      (s.rebond p before after).out = s.out ∧ (s.rebond p before after).evThresholds = s.evThresholds := by
  unfold State.rebond
  try dsimp only
  (repeat' split) <;> first | (simp; done) | (refine ⟨?_,?_,?_,?_,?_,?_,?_,?_,?_,?_,?_,?_⟩ <;> first | rfl | (simp; done)) | simp_all

@[simp] theorem enable_keeps (s : State) (g : Nat) :
    (s.enable g).pending = s.pending ∧ (s.enable g).inReset = s.inReset ∧ (s.enable g).mgmt = s.mgmt ∧
      (s.enable g).table = s.table ∧ (s.enable g).sched = s.sched ∧ (s.enable g).store = s.store ∧
      (s.enable g).pacers = s.pacers ∧ (s.enable g).time = s.time ∧ (s.enable g).counters.threshold = s.counters.threshold ∧
      (s.enable g).link.lanes = s.link.lanes ∧ (s.enable g).link.state = s.link.state ∧
      (s.enable g).link.expected = s.link.expected ∧ (s.enable g).link.lastGood = s.link.lastGood ∧
      (s.enable g).link.established = s.link.established ∧ (s.enable g).link.mismatch = s.link.mismatch ∧
      (s.enable g).link.loss = s.link.loss ∧ (s.enable g).link.openPacket = s.link.openPacket ∧
      (s.enable g).link.egressFull = s.link.egressFull ∧ (s.enable g).link.hold = s.link.hold ∧
      (s.enable g).link.paused = s.link.paused ∧ (s.enable g).link.stubs = s.link.stubs ∧
      (s.enable g).link.passList = s.link.passList ∧ (s.enable g).link.sending = s.link.sending ∧
      (s.enable g).link.discards = s.link.discards ∧ (s.enable g).link.stagingDrops = s.link.stagingDrops ∧
      (s.enable g).link.ignoredSightings = s.link.ignoredSightings ∧
      (s.enable g).link.rejectedWords = s.link.rejectedWords ∧ (s.enable g).link.returnLosses = s.link.returnLosses ∧
      (s.enable g).choices = s.choices ∧ (s.enable g).out = s.out ∧ (s.enable g).evThresholds = s.evThresholds := by
  unfold State.enable
  try dsimp only
  (repeat' split) <;> first | (simp; done) | (refine ⟨?_,?_,?_,?_,?_,?_,?_,?_,?_,?_,?_,?_,?_,?_,?_,?_,?_,?_,?_,?_,?_,?_,?_,?_,?_,?_,?_,?_,?_,?_,?_⟩ <;> first | rfl | (simp; done)) | simp_all

@[simp] theorem drainFaulted_keeps (s : State) (g : Nat) (cause : DrainCause) :
    (s.drainFaulted g cause).pending = s.pending ∧ (s.drainFaulted g cause).inReset = s.inReset ∧
      (s.drainFaulted g cause).mgmt = s.mgmt ∧ (s.drainFaulted g cause).table = s.table ∧
      (s.drainFaulted g cause).sched = s.sched ∧ (s.drainFaulted g cause).store = s.store ∧
      (s.drainFaulted g cause).pacers = s.pacers ∧ (s.drainFaulted g cause).time = s.time ∧
      (s.drainFaulted g cause).counters = s.counters ∧ (s.drainFaulted g cause).link = s.link ∧
      (s.drainFaulted g cause).choices = s.choices ∧ (s.drainFaulted g cause).out = s.out ∧
      (s.drainFaulted g cause).evThresholds = s.evThresholds := by
  unfold State.drainFaulted
  try dsimp only
  (repeat' split) <;> first | (simp; done) | (refine ⟨?_,?_,?_,?_,?_,?_,?_,?_,?_,?_,?_,?_,?_⟩ <;> first | rfl | (simp; done)) | simp_all

@[simp] theorem abortGroup_keeps (s : State) (g : Nat) :
    (s.abortGroup g).pending = s.pending ∧ (s.abortGroup g).inReset = s.inReset ∧
      (s.abortGroup g).mgmt.replies = s.mgmt.replies ∧ (s.abortGroup g).mgmt.engine = s.mgmt.engine ∧
      (s.abortGroup g).mgmt.commands = s.mgmt.commands ∧ (s.abortGroup g).mgmt.ready = s.mgmt.ready ∧
      (s.abortGroup g).mgmt.framer = s.mgmt.framer ∧ (s.abortGroup g).mgmt.sending = s.mgmt.sending ∧
      (s.abortGroup g).mgmt.startCause = s.mgmt.startCause ∧ (s.abortGroup g).mgmt.frameErrors = s.mgmt.frameErrors ∧
      (s.abortGroup g).mgmt.busyCount = s.mgmt.busyCount ∧ (s.abortGroup g).mgmt.owed = s.mgmt.owed ∧
      (s.abortGroup g).mgmt.busyBacklog = s.mgmt.busyBacklog ∧ (s.abortGroup g).mgmt.pendingErrors = s.mgmt.pendingErrors ∧
      (s.abortGroup g).table.generations = s.table.generations ∧ (s.abortGroup g).table.refusing = s.table.refusing ∧
      (s.abortGroup g).store = s.store ∧ (s.abortGroup g).pacers = s.pacers ∧ (s.abortGroup g).time = s.time ∧
      (s.abortGroup g).counters = s.counters ∧ (s.abortGroup g).ports = s.ports ∧ (s.abortGroup g).link = s.link ∧
      (s.abortGroup g).choices = s.choices ∧ (s.abortGroup g).out = s.out ∧
      (s.abortGroup g).evThresholds = s.evThresholds := by
  refine ⟨?_, ?_, ?_, ?_, ?_, ?_, ?_, ?_, ?_, ?_, ?_, ?_, ?_, ?_, ?_, ?_, ?_, ?_, ?_, ?_, ?_, ?_, ?_, ?_, ?_⟩
  · unfold State.abortGroup; (try dsimp only); (repeat' split) <;> (try dsimp only) <;>
      first | rfl | (simp; done) | (rw [foldl_keeps (fun s : State => s.pending) _ (by intros; simp)]; (try simp); done) |
        (simp; (try rw [foldl_keeps (fun s : State => s.pending) _ (by intros; simp)]); done)
  · unfold State.abortGroup; (try dsimp only); (repeat' split) <;> (try dsimp only) <;>
      first | rfl | (simp; done) | (rw [foldl_keeps (fun s : State => s.inReset) _ (by intros; simp)]; (try simp); done) |
        (simp; (try rw [foldl_keeps (fun s : State => s.inReset) _ (by intros; simp)]); done)
  · unfold State.abortGroup; (try dsimp only); (repeat' split) <;> (try dsimp only) <;>
      first | rfl | (simp; done) | (rw [foldl_keeps (fun s : State => s.mgmt.replies) _ (by intros; simp)]; (try simp); done) |
        (simp; (try rw [foldl_keeps (fun s : State => s.mgmt.replies) _ (by intros; simp)]); done)
  · unfold State.abortGroup; (try dsimp only); (repeat' split) <;> (try dsimp only) <;>
      first | rfl | (simp; done) | (rw [foldl_keeps (fun s : State => s.mgmt.engine) _ (by intros; simp)]; (try simp); done) |
        (simp; (try rw [foldl_keeps (fun s : State => s.mgmt.engine) _ (by intros; simp)]); done)
  · unfold State.abortGroup; (try dsimp only); (repeat' split) <;> (try dsimp only) <;>
      first | rfl | (simp; done) | (rw [foldl_keeps (fun s : State => s.mgmt.commands) _ (by intros; simp)]; (try simp); done) |
        (simp; (try rw [foldl_keeps (fun s : State => s.mgmt.commands) _ (by intros; simp)]); done)
  · unfold State.abortGroup; (try dsimp only); (repeat' split) <;> (try dsimp only) <;>
      first | rfl | (simp; done) | (rw [foldl_keeps (fun s : State => s.mgmt.ready) _ (by intros; simp)]; (try simp); done) |
        (simp; (try rw [foldl_keeps (fun s : State => s.mgmt.ready) _ (by intros; simp)]); done)
  · unfold State.abortGroup; (try dsimp only); (repeat' split) <;> (try dsimp only) <;>
      first | rfl | (simp; done) | (rw [foldl_keeps (fun s : State => s.mgmt.framer) _ (by intros; simp)]; (try simp); done) |
        (simp; (try rw [foldl_keeps (fun s : State => s.mgmt.framer) _ (by intros; simp)]); done)
  · unfold State.abortGroup; (try dsimp only); (repeat' split) <;> (try dsimp only) <;>
      first | rfl | (simp; done) | (rw [foldl_keeps (fun s : State => s.mgmt.sending) _ (by intros; simp)]; (try simp); done) |
        (simp; (try rw [foldl_keeps (fun s : State => s.mgmt.sending) _ (by intros; simp)]); done)
  · unfold State.abortGroup; (try dsimp only); (repeat' split) <;> (try dsimp only) <;>
      first | rfl | (simp; done) | (rw [foldl_keeps (fun s : State => s.mgmt.startCause) _ (by intros; simp)]; (try simp); done) |
        (simp; (try rw [foldl_keeps (fun s : State => s.mgmt.startCause) _ (by intros; simp)]); done)
  · unfold State.abortGroup; (try dsimp only); (repeat' split) <;> (try dsimp only) <;>
      first | rfl | (simp; done) | (rw [foldl_keeps (fun s : State => s.mgmt.frameErrors) _ (by intros; simp)]; (try simp); done) |
        (simp; (try rw [foldl_keeps (fun s : State => s.mgmt.frameErrors) _ (by intros; simp)]); done)
  · unfold State.abortGroup; (try dsimp only); (repeat' split) <;> (try dsimp only) <;>
      first | rfl | (simp; done) | (rw [foldl_keeps (fun s : State => s.mgmt.busyCount) _ (by intros; simp)]; (try simp); done) |
        (simp; (try rw [foldl_keeps (fun s : State => s.mgmt.busyCount) _ (by intros; simp)]); done)
  · unfold State.abortGroup; (try dsimp only); (repeat' split) <;> (try dsimp only) <;>
      first | rfl | (simp; done) | (rw [foldl_keeps (fun s : State => s.mgmt.owed) _ (by intros; simp)]; (try simp); done) |
        (simp; (try rw [foldl_keeps (fun s : State => s.mgmt.owed) _ (by intros; simp)]); done)
  · unfold State.abortGroup; (try dsimp only); (repeat' split) <;> (try dsimp only) <;>
      first | rfl | (simp; done) | (rw [foldl_keeps (fun s : State => s.mgmt.busyBacklog) _ (by intros; simp)]; (try simp); done) |
        (simp; (try rw [foldl_keeps (fun s : State => s.mgmt.busyBacklog) _ (by intros; simp)]); done)
  · unfold State.abortGroup; (try dsimp only); (repeat' split) <;> (try dsimp only) <;>
      first | rfl | (simp; done) | (rw [foldl_keeps (fun s : State => s.mgmt.pendingErrors) _ (by intros; simp)]; (try simp); done) |
        (simp; (try rw [foldl_keeps (fun s : State => s.mgmt.pendingErrors) _ (by intros; simp)]); done)
  · unfold State.abortGroup; (try dsimp only); (repeat' split) <;> (try dsimp only) <;>
      first | rfl | (simp; done) | (rw [foldl_keeps (fun s : State => s.table.generations) _ (by intros; simp)]; (try simp); done) |
        (simp; (try rw [foldl_keeps (fun s : State => s.table.generations) _ (by intros; simp)]); done)
  · unfold State.abortGroup; (try dsimp only); (repeat' split) <;> (try dsimp only) <;>
      first | rfl | (simp; done) | (rw [foldl_keeps (fun s : State => s.table.refusing) _ (by intros; simp)]; (try simp); done) |
        (simp; (try rw [foldl_keeps (fun s : State => s.table.refusing) _ (by intros; simp)]); done)
  · unfold State.abortGroup; (try dsimp only); (repeat' split) <;> (try dsimp only) <;>
      first | rfl | (simp; done) | (rw [foldl_keeps (fun s : State => s.store) _ (by intros; simp)]; (try simp); done) |
        (simp; (try rw [foldl_keeps (fun s : State => s.store) _ (by intros; simp)]); done)
  · unfold State.abortGroup; (try dsimp only); (repeat' split) <;> (try dsimp only) <;>
      first | rfl | (simp; done) | (rw [foldl_keeps (fun s : State => s.pacers) _ (by intros; simp)]; (try simp); done) |
        (simp; (try rw [foldl_keeps (fun s : State => s.pacers) _ (by intros; simp)]); done)
  · unfold State.abortGroup; (try dsimp only); (repeat' split) <;> (try dsimp only) <;>
      first | rfl | (simp; done) | (rw [foldl_keeps (fun s : State => s.time) _ (by intros; simp)]; (try simp); done) |
        (simp; (try rw [foldl_keeps (fun s : State => s.time) _ (by intros; simp)]); done)
  · unfold State.abortGroup; (try dsimp only); (repeat' split) <;> (try dsimp only) <;>
      first | rfl | (simp; done) | (rw [foldl_keeps (fun s : State => s.counters) _ (by intros; simp)]; (try simp); done) |
        (simp; (try rw [foldl_keeps (fun s : State => s.counters) _ (by intros; simp)]); done)
  · unfold State.abortGroup; (try dsimp only); (repeat' split) <;> (try dsimp only) <;>
      first | rfl | (simp; done) | (rw [foldl_keeps (fun s : State => s.ports) _ (by intros; simp)]; (try simp); done) |
        (simp; (try rw [foldl_keeps (fun s : State => s.ports) _ (by intros; simp)]); done)
  · unfold State.abortGroup; (try dsimp only); (repeat' split) <;> (try dsimp only) <;>
      first | rfl | (simp; done) | (rw [foldl_keeps (fun s : State => s.link) _ (by intros; simp)]; (try simp); done) |
        (simp; (try rw [foldl_keeps (fun s : State => s.link) _ (by intros; simp)]); done)
  · unfold State.abortGroup; (try dsimp only); (repeat' split) <;> (try dsimp only) <;>
      first | rfl | (simp; done) | (rw [foldl_keeps (fun s : State => s.choices) _ (by intros; simp)]; (try simp); done) |
        (simp; (try rw [foldl_keeps (fun s : State => s.choices) _ (by intros; simp)]); done)
  · unfold State.abortGroup; (try dsimp only); (repeat' split) <;> (try dsimp only) <;>
      first | rfl | (simp; done) | (rw [foldl_keeps (fun s : State => s.out) _ (by intros; simp)]; (try simp); done) |
        (simp; (try rw [foldl_keeps (fun s : State => s.out) _ (by intros; simp)]); done)
  · unfold State.abortGroup; (try dsimp only); (repeat' split) <;> (try dsimp only) <;>
      first | rfl | (simp; done) | (rw [foldl_keeps (fun s : State => s.evThresholds) _ (by intros; simp)]; (try simp); done) |
        (simp; (try rw [foldl_keeps (fun s : State => s.evThresholds) _ (by intros; simp)]); done)

@[simp] theorem setFloor_keeps (s : State) (floor : Nat) :
    (s.setFloor floor).pending = s.pending ∧ (s.setFloor floor).inReset = s.inReset ∧ (s.setFloor floor).mgmt = s.mgmt ∧
      (s.setFloor floor).table = s.table ∧ (s.setFloor floor).sched = s.sched ∧
      (s.setFloor floor).store.initialising = s.store.initialising ∧
      (s.setFloor floor).store.corrected = s.store.corrected ∧ (s.setFloor floor).store.writeList = s.store.writeList ∧
      (s.setFloor floor).store.transfer = s.store.transfer ∧ (s.setFloor floor).store.releases = s.store.releases ∧
      (s.setFloor floor).store.released = s.store.released ∧ (s.setFloor floor).pacers = s.pacers ∧
      (s.setFloor floor).time = s.time ∧ (s.setFloor floor).counters = s.counters ∧ (s.setFloor floor).ports = s.ports ∧
      (s.setFloor floor).link = s.link ∧ (s.setFloor floor).choices = s.choices ∧ (s.setFloor floor).out = s.out ∧
      (s.setFloor floor).evThresholds = s.evThresholds := by
  unfold State.setFloor
  try dsimp only
  (repeat' split) <;> first | (simp; done) | (refine ⟨?_,?_,?_,?_,?_,?_,?_,?_,?_,?_,?_,?_,?_,?_,?_,?_,?_,?_,?_⟩ <;> first | rfl | (simp; done)) | simp_all

@[simp] theorem expectParams_keeps (s : State) (p : LinkParams) :
    (s.expectParams p).pending = s.pending ∧ (s.expectParams p).inReset = s.inReset ∧
      (s.expectParams p).mgmt.replies = s.mgmt.replies ∧ (s.expectParams p).mgmt.engine = s.mgmt.engine ∧
      (s.expectParams p).mgmt.commands = s.mgmt.commands ∧ (s.expectParams p).mgmt.ready = s.mgmt.ready ∧
      (s.expectParams p).mgmt.framer = s.mgmt.framer ∧ (s.expectParams p).mgmt.sending = s.mgmt.sending ∧
      (s.expectParams p).mgmt.startCause = s.mgmt.startCause ∧ (s.expectParams p).mgmt.frameErrors = s.mgmt.frameErrors ∧
      (s.expectParams p).mgmt.busyCount = s.mgmt.busyCount ∧ (s.expectParams p).mgmt.owed = s.mgmt.owed ∧
      (s.expectParams p).mgmt.busyBacklog = s.mgmt.busyBacklog ∧
      (s.expectParams p).mgmt.pendingErrors = s.mgmt.pendingErrors ∧ (s.expectParams p).table = s.table ∧
      (s.expectParams p).sched = s.sched ∧ (s.expectParams p).store = s.store ∧ (s.expectParams p).pacers = s.pacers ∧
      (s.expectParams p).time = s.time ∧ (s.expectParams p).counters = s.counters ∧ (s.expectParams p).ports = s.ports ∧
      (s.expectParams p).link.lanes = s.link.lanes ∧ (s.expectParams p).link.lastGood = s.link.lastGood ∧
      (s.expectParams p).link.mismatch = s.link.mismatch ∧ (s.expectParams p).link.loss = s.link.loss ∧
      (s.expectParams p).link.openPacket = s.link.openPacket ∧ (s.expectParams p).link.paused = s.link.paused ∧
      (s.expectParams p).link.stubs = s.link.stubs ∧ (s.expectParams p).link.passList = s.link.passList ∧
      (s.expectParams p).link.sending = s.link.sending ∧ (s.expectParams p).link.discards = s.link.discards ∧
      (s.expectParams p).link.stagingDrops = s.link.stagingDrops ∧
      (s.expectParams p).link.ignoredSightings = s.link.ignoredSightings ∧
      (s.expectParams p).link.rejectedWords = s.link.rejectedWords ∧
      (s.expectParams p).link.returnLosses = s.link.returnLosses ∧ (s.expectParams p).choices = s.choices ∧
      (s.expectParams p).evThresholds = s.evThresholds := by
  unfold State.expectParams
  try dsimp only
  (repeat' split) <;> first | (simp; done) | (refine ⟨?_,?_,?_,?_,?_,?_,?_,?_,?_,?_,?_,?_,?_,?_,?_,?_,?_,?_,?_,?_,?_,?_,?_,?_,?_,?_,?_,?_,?_,?_,?_,?_,?_,?_,?_,?_,?_⟩ <;> first | rfl | (simp; done)) | simp_all

@[simp] theorem setEgress_keeps (s : State) (full : BitVec 48) :
    (s.setEgress full).pending = s.pending ∧ (s.setEgress full).inReset = s.inReset ∧ (s.setEgress full).mgmt = s.mgmt ∧
      (s.setEgress full).table = s.table ∧ (s.setEgress full).sched = s.sched ∧ (s.setEgress full).store = s.store ∧
      (s.setEgress full).pacers = s.pacers ∧ (s.setEgress full).time = s.time ∧ (s.setEgress full).counters = s.counters ∧
      (s.setEgress full).ports = s.ports ∧ (s.setEgress full).link.lanes = s.link.lanes ∧
      (s.setEgress full).link.state = s.link.state ∧ (s.setEgress full).link.expected = s.link.expected ∧
      (s.setEgress full).link.lastGood = s.link.lastGood ∧ (s.setEgress full).link.established = s.link.established ∧
      (s.setEgress full).link.mismatch = s.link.mismatch ∧ (s.setEgress full).link.loss = s.link.loss ∧
      (s.setEgress full).link.openPacket = s.link.openPacket ∧ (s.setEgress full).link.hold = s.link.hold ∧
      (s.setEgress full).link.paused = s.link.paused ∧ (s.setEgress full).link.control = s.link.control ∧
      (s.setEgress full).link.stubs = s.link.stubs ∧ (s.setEgress full).link.passList = s.link.passList ∧
      (s.setEgress full).link.sending = s.link.sending ∧ (s.setEgress full).link.discards = s.link.discards ∧
      (s.setEgress full).link.stagingDrops = s.link.stagingDrops ∧
      (s.setEgress full).link.ignoredSightings = s.link.ignoredSightings ∧
      (s.setEgress full).link.rejectedWords = s.link.rejectedWords ∧
      (s.setEgress full).link.returnLosses = s.link.returnLosses ∧ (s.setEgress full).choices = s.choices ∧
      (s.setEgress full).out = s.out ∧ (s.setEgress full).evThresholds = s.evThresholds := by
  unfold State.setEgress
  try dsimp only
  (repeat' split) <;> first | (simp; done) | (refine ⟨?_,?_,?_,?_,?_,?_,?_,?_,?_,?_,?_,?_,?_,?_,?_,?_,?_,?_,?_,?_,?_,?_,?_,?_,?_,?_,?_,?_,?_,?_,?_,?_⟩ <;> first | rfl | (simp; done)) | simp_all

@[simp] theorem setHold_keeps (s : State) (hold : Bool) :
    (s.setHold hold).pending = s.pending ∧ (s.setHold hold).inReset = s.inReset ∧ (s.setHold hold).mgmt = s.mgmt ∧
      (s.setHold hold).table = s.table ∧ (s.setHold hold).sched = s.sched ∧ (s.setHold hold).store = s.store ∧
      (s.setHold hold).pacers = s.pacers ∧ (s.setHold hold).time = s.time ∧ (s.setHold hold).counters = s.counters ∧
      (s.setHold hold).ports = s.ports ∧ (s.setHold hold).link.lanes = s.link.lanes ∧
      (s.setHold hold).link.state = s.link.state ∧ (s.setHold hold).link.expected = s.link.expected ∧
      (s.setHold hold).link.lastGood = s.link.lastGood ∧ (s.setHold hold).link.established = s.link.established ∧
      (s.setHold hold).link.mismatch = s.link.mismatch ∧ (s.setHold hold).link.loss = s.link.loss ∧
      (s.setHold hold).link.openPacket = s.link.openPacket ∧ (s.setHold hold).link.egressFull = s.link.egressFull ∧
      (s.setHold hold).link.paused = s.link.paused ∧ (s.setHold hold).link.control = s.link.control ∧
      (s.setHold hold).link.stubs = s.link.stubs ∧ (s.setHold hold).link.passList = s.link.passList ∧
      (s.setHold hold).link.sending = s.link.sending ∧ (s.setHold hold).link.discards = s.link.discards ∧
      (s.setHold hold).link.stagingDrops = s.link.stagingDrops ∧
      (s.setHold hold).link.ignoredSightings = s.link.ignoredSightings ∧
      (s.setHold hold).link.rejectedWords = s.link.rejectedWords ∧
      (s.setHold hold).link.returnLosses = s.link.returnLosses ∧ (s.setHold hold).choices = s.choices ∧
      (s.setHold hold).out = s.out ∧ (s.setHold hold).evThresholds = s.evThresholds := by
  unfold State.setHold
  try dsimp only
  (repeat' split) <;> first | (simp; done) | (refine ⟨?_,?_,?_,?_,?_,?_,?_,?_,?_,?_,?_,?_,?_,?_,?_,?_,?_,?_,?_,?_,?_,?_,?_,?_,?_,?_,?_,?_,?_,?_,?_,?_⟩ <;> first | rfl | (simp; done)) | simp_all

@[simp] theorem unknownWord_keeps (s : State) (marker : Bool) :
    (s.unknownWord marker).pending = s.pending ∧ (s.unknownWord marker).inReset = s.inReset ∧
      (s.unknownWord marker).mgmt = s.mgmt ∧ (s.unknownWord marker).table = s.table ∧
      (s.unknownWord marker).sched = s.sched ∧ (s.unknownWord marker).store = s.store ∧
      (s.unknownWord marker).pacers = s.pacers ∧ (s.unknownWord marker).time = s.time ∧
      (s.unknownWord marker).counters = s.counters ∧ (s.unknownWord marker).ports = s.ports ∧
      (s.unknownWord marker).link.lanes = s.link.lanes ∧ (s.unknownWord marker).link.state = s.link.state ∧
      (s.unknownWord marker).link.expected = s.link.expected ∧ (s.unknownWord marker).link.lastGood = s.link.lastGood ∧
      (s.unknownWord marker).link.established = s.link.established ∧
      (s.unknownWord marker).link.mismatch = s.link.mismatch ∧ (s.unknownWord marker).link.loss = s.link.loss ∧
      (s.unknownWord marker).link.egressFull = s.link.egressFull ∧ (s.unknownWord marker).link.hold = s.link.hold ∧
      (s.unknownWord marker).link.control = s.link.control ∧ (s.unknownWord marker).link.stubs = s.link.stubs ∧
      (s.unknownWord marker).link.passList = s.link.passList ∧ (s.unknownWord marker).link.sending = s.link.sending ∧
      (s.unknownWord marker).link.stagingDrops = s.link.stagingDrops ∧
      (s.unknownWord marker).link.ignoredSightings = s.link.ignoredSightings ∧
      (s.unknownWord marker).link.returnLosses = s.link.returnLosses ∧ (s.unknownWord marker).choices = s.choices ∧
      (s.unknownWord marker).evThresholds = s.evThresholds := by
  unfold State.unknownWord
  try dsimp only
  (repeat' split) <;> first | (simp; done) | (refine ⟨?_,?_,?_,?_,?_,?_,?_,?_,?_,?_,?_,?_,?_,?_,?_,?_,?_,?_,?_,?_,?_,?_,?_,?_,?_,?_,?_,?_⟩ <;> first | rfl | (simp; done)) | simp_all

end Sys2Proof.Machine
end

