-- ==== Sys2Proof/Laws/Setup.lean ====
section
/-! SUPPORT. What leaves the policy records and bond roles of the ports as they were. -/

set_option linter.all false

namespace Sys2Proof.Machine

/-- What SET_PORT and the bonds alone write: the ports' policy records and bond roles. -/
def setupOf (ports : Vector Port 48) : List (Policy × BondRole) := ports.toList.map (fun p => (p.policy, p.role))

theorem vget_of_map {α β : Type} {n : Nat} (f : α → β) (v w : Vector α n) (h : v.toList.map f = w.toList.map f) (i : Nat) (d : α) :
    f (vget v i d) = f (vget w i d) := by
  unfold vget
  split
  · rename_i hi
    have := congrArg (fun l => l[i]?) h
    simpa [hi] using this
  · rfl

theorem policy_of_setup {s t : State} (h : setupOf t.ports = setupOf s.ports) (p : Nat) : t.policy p = s.policy p :=
  congrArg Prod.fst (vget_of_map (fun p : Port => (p.policy, p.role)) _ _ h p Port.powerOn)

theorem role_of_setup {s t : State} (h : setupOf t.ports = setupOf s.ports) (p : Nat) : (t.port p).role = (s.port p).role :=
  congrArg Prod.snd (vget_of_map (fun p : Port => (p.policy, p.role)) _ _ h p Port.powerOn)

theorem map_vupd {α β : Type} {n : Nat} (g : α → β) (v : Vector α n) (i : Nat) (f : α → α) (h : ∀ x, g (f x) = g x) :
    (vupd v i f).toList.map g = v.toList.map g := by
  unfold vupd
  split
  · rename_i hi
    apply List.ext_getElem
    · simp
    · intro j h1 h2
      simp only [List.getElem_map, Vector.getElem_toList, Vector.getElem_set]
      split
      · subst_vars; rw [h]
      · rfl
  · rfl

@[simp] theorem updPort_setup (s : State) (p : Nat) (f : Port → Port)
    (h : ∀ x, (f x).policy = x.policy ∧ (f x).role = x.role) : setupOf (s.updPort p f).ports = setupOf s.ports :=
  map_vupd _ _ _ _ (fun x => by rw [(h x).1, (h x).2])

@[simp] theorem updMembers_setup (s : State) (g : Nat) (f : Port → Port)
    (h : ∀ x, (f x).policy = x.policy ∧ (f x).role = x.role) : setupOf (s.updMembers g f).ports = setupOf s.ports := by
  unfold State.updMembers
  exact foldl_keeps (fun s : State => setupOf s.ports) _ (fun s a => updPort_setup s a f h) _ _

@[simp] theorem handStop_setup (s : State) (g : Nat) : setupOf (s.handStop g).ports = setupOf s.ports := by
  unfold State.handStop
  (try dsimp only)
  (repeat' split) <;> first | (simp; done) | (simp; rw [foldl_keeps (fun s : State => setupOf s.ports) _ (by intros; simp)]; (try simp); done) | (rw [foldl_keeps (fun s : State => setupOf s.ports) _ (by intros; simp)]; (try simp); done)

@[simp] theorem enterDrainOut_setup (s : State) (g : Nat) (cause : DrainCause) : setupOf (s.enterDrainOut g cause).ports = setupOf s.ports := by
  unfold State.enterDrainOut
  (try dsimp only)
  (repeat' split) <;> simp

@[simp] theorem standDown_setup (s : State) (g : Nat) : setupOf (s.standDown g).ports = setupOf s.ports := by
  unfold State.standDown
  (try dsimp only)
  (repeat' split) <;> simp

@[simp] theorem reached_setup (s : State) (g : Nat) (type : EvType) (count : Nat) : setupOf (s.reached g type count).ports = setupOf s.ports := by
  unfold State.reached
  (try dsimp only)
  (repeat' split) <;> simp

@[simp] theorem count_setup (s : State) (g : Nat) (type : EvType) : setupOf (s.count g type).ports = setupOf s.ports := by
  unfold State.count
  (try dsimp only)
  (repeat' split) <;> simp

@[simp] theorem trim_setup (s : State) (slot : Nat) (a : Arrival) (listed : Bool) : setupOf (s.trim slot a listed).ports = setupOf s.ports := by
  unfold State.trim
  (try dsimp only)
  (repeat' split) <;> simp

@[simp] theorem borrowOrTrim_setup (s : State) (slot : Nat) (a : Arrival) (listed : Bool) : setupOf (s.borrowOrTrim slot a listed).ports = setupOf s.ports := by
  unfold State.borrowOrTrim
  (try dsimp only)
  (repeat' split) <;> simp

@[simp] theorem judgeAndHold_setup (s : State) (slot : Nat) (a : Arrival) (r : Responder) : setupOf (s.judgeAndHold slot a r).ports = setupOf s.ports := by
  unfold State.judgeAndHold
  (try dsimp only)
  (repeat' split) <;> simp

@[simp] theorem arriveSighted_setup (s : State) (slot : Nat) (a : Arrival) : setupOf (s.arriveSighted slot a).ports = setupOf s.ports := by
  unfold State.arriveSighted
  (try dsimp only)
  (repeat' split) <;> simp

@[simp] theorem arriveAdopted_setup (s : State) (slot : Nat) (a : Arrival) : setupOf (s.arriveAdopted slot a).ports = setupOf s.ports := by
  unfold State.arriveAdopted
  (try dsimp only)
  (repeat' split) <;> simp

@[simp] theorem arriveDraining_setup (s : State) (slot : Nat) (a : Arrival) : setupOf (s.arriveDraining slot a).ports = setupOf s.ports := by
  unfold State.arriveDraining
  (try dsimp only)
  (repeat' split) <;> simp

@[simp] theorem arriveUnmatched_setup (s : State) (a : Arrival) : setupOf (s.arriveUnmatched a).ports = setupOf s.ports := by
  unfold State.arriveUnmatched
  (try dsimp only)
  (repeat' split) <;> simp

@[simp] theorem arriveMatched_setup (s : State) (e : Episode) (a : Arrival) : setupOf (s.arriveMatched e a).ports = setupOf s.ports := by
  unfold State.arriveMatched
  (try dsimp only)
  (repeat' split) <;> simp

@[simp] theorem portFault_setup (s : State) (a : Arrival) : setupOf (s.portFault a).ports = setupOf s.ports := by
  unfold State.portFault
  (try dsimp only)
  (repeat' split) <;> simp

@[simp] theorem arrive_setup (s : State) (desc : Descriptor) (data : List Byte) : setupOf (s.arrive desc data).ports = setupOf s.ports := by
  unfold State.arrive
  (try dsimp only)
  (repeat' split) <;> simp

@[simp] theorem retire_setup (s : State) (slot position : Nat) (e : Episode) : setupOf (s.retire slot position e).ports = setupOf s.ports := by
  unfold State.retire
  (try dsimp only)
  (repeat' split) <;> simp

@[simp] theorem expireGrant_setup (s : State) (slot position number : Nat) : setupOf (s.expireGrant slot position number).ports = setupOf s.ports := by
  unfold State.expireGrant
  (try dsimp only)
  (repeat' split) <;> simp

@[simp] theorem suspend_setup (s : State) (port : Nat) : setupOf (s.suspend port).ports = setupOf s.ports := by
  unfold State.suspend
  (try dsimp only)
  (repeat' split) <;> simp

@[simp] theorem finishRelease_setup (s : State) (g : Nat) (p : HeldPacket) (uncorrectable : Bool) : setupOf (s.finishRelease g p uncorrectable).ports = setupOf s.ports := by
  unfold State.finishRelease
  (try dsimp only)
  (repeat' split) <;> simp

@[simp] theorem finishRead_setup (s : State) (corrected : Nat) (uncorrectable : Bool) : setupOf (s.finishRead corrected uncorrectable).ports = setupOf s.ports := by
  unfold State.finishRead
  (try dsimp only)
  (repeat' split) <;> simp

@[simp] theorem portLoss_setup (s : State) (g : Nat) : setupOf (s.portLoss g).ports = setupOf s.ports := by
  unfold State.portLoss
  (try dsimp only)
  (repeat' split) <;> simp

@[simp] theorem loseLink_setup (s : State) (cause : LinkCause) : setupOf (s.loseLink cause).ports = setupOf s.ports := by
  unfold State.loseLink
  (try dsimp only)
  (repeat' split) <;> first | (simp; done) | (simp; rw [foldl_keeps (fun s : State => setupOf s.ports) _ (by intros; simp)]; (try simp); done) | (rw [foldl_keeps (fun s : State => setupOf s.ports) _ (by intros; simp)]; (try simp); done)

@[simp] theorem framingError_setup (s : State) (lane : Nat) : setupOf (s.framingError lane).ports = setupOf s.ports := by
  unfold State.framingError
  (try dsimp only)
  (repeat' split) <;> simp

@[simp] theorem takePayload_setup (s : State) (last : Bool) (count : Byte) (data : List Byte) : setupOf (s.takePayload last count data).ports = setupOf s.ports := by
  unfold State.takePayload
  (try dsimp only)
  (repeat' split) <;> simp

@[simp] theorem strayMarker_setup (s : State) (g : Nat) : setupOf (s.strayMarker g).ports = setupOf s.ports := by
  unfold State.strayMarker
  (try dsimp only)
  (repeat' split) <;> simp

@[simp] theorem started_setup (s : State) (member : Nat) : setupOf (s.started member).ports = setupOf s.ports := by
  unfold State.started
  (try dsimp only)
  (repeat' split) <;> simp

@[simp] theorem stopped_setup (s : State) (member : Nat) : setupOf (s.stopped member).ports = setupOf s.ports := by
  unfold State.stopped
  (try dsimp only)
  (repeat' split) <;> simp

@[simp] theorem completeDrain_setup (s : State) (g : Nat) : setupOf (s.completeDrain g).ports = setupOf s.ports := by
  unfold State.completeDrain
  (try dsimp only)
  (repeat' split) <;> first | (simp; done) | (simp; rw [foldl_keeps (fun s : State => setupOf s.ports) _ (by intros; simp)]; (try simp); done) | (rw [foldl_keeps (fun s : State => setupOf s.ports) _ (by intros; simp)]; (try simp); done)

@[simp] theorem completeDrains_setup (s : State) : setupOf (s.completeDrains).ports = setupOf s.ports := by
  unfold State.completeDrains
  (try dsimp only)
  (repeat' split) <;> first | (simp; done) | (simp; rw [foldl_keeps (fun s : State => setupOf s.ports) _ (by intros; simp)]; (try simp); done) | (rw [foldl_keeps (fun s : State => setupOf s.ports) _ (by intros; simp)]; (try simp); done)

@[simp] theorem consequences_setup (s : State) (wasIdle : Bool) : setupOf (s.consequences wasIdle).ports = setupOf s.ports := by
  unfold State.consequences
  (try dsimp only)
  (repeat' split) <;> simp

@[simp] theorem expireArmed_setup (s : State) (slot : Nat) (e : Episode) : setupOf (s.expireArmed slot e).ports = setupOf s.ports := by
  unfold State.expireArmed
  (try dsimp only)
  (repeat' split) <;> simp

@[simp] theorem expireDrain_setup (s : State) (slot : Nat) (e : Episode) : setupOf (s.expireDrain slot e).ports = setupOf s.ports := by
  unfold State.expireDrain
  (try dsimp only)
  (repeat' split) <;> simp

@[simp] theorem expireDiscard_setup (s : State) (slot : Nat) (e : Episode) : setupOf (s.expireDiscard slot e).ports = setupOf s.ports := by
  unfold State.expireDiscard
  (try dsimp only)
  (repeat' split) <;> simp

@[simp] theorem expireDeadline_setup (s : State) (slot : Nat) (e : Episode) : setupOf (s.expireDeadline slot e).ports = setupOf s.ports := by
  unfold State.expireDeadline
  (try dsimp only)
  (repeat' split) <;> simp

@[simp] theorem takeDeadline_setup (s : State) (slot : Nat) : setupOf (s.takeDeadline slot).ports = setupOf s.ports := by
  unfold State.takeDeadline
  (try dsimp only)
  (repeat' split) <;> simp

@[simp] theorem enable_setup (s : State) (g : Nat) : setupOf (s.enable g).ports = setupOf s.ports := by
  unfold State.enable
  (try dsimp only)
  (repeat' split) <;> simp

@[simp] theorem drainFaulted_setup (s : State) (g : Nat) (cause : DrainCause) : setupOf (s.drainFaulted g cause).ports = setupOf s.ports := by
  unfold State.drainFaulted
  (try dsimp only)
  (repeat' split) <;> simp

end Sys2Proof.Machine
end

