-- ==== Sys2Proof/Laws/Effects.lean ====
section
/-! SUPPORT. What the effect of each host command leaves as it was. -/

set_option linter.all false

namespace Sys2Proof.Machine

theorem identifyEffect_keeps {body : List Byte} {s t : State} {b : ReplyBody} (h : identifyEffect body s = .ok t b) : t = s := by
  unfold identifyEffect at h
  (try dsimp only at h)
  (repeat' split at h) <;> cases h <;> rfl

theorem setPortEffect_keeps {body : List Byte} {s t : State} {b : ReplyBody} (h : setPortEffect body s = .ok t b) :
    t.pending = s.pending ∧ t.inReset = s.inReset ∧ t.mgmt = s.mgmt ∧ t.table = s.table ∧ t.sched = s.sched ∧
      t.store = s.store ∧ t.time = s.time ∧ t.counters.threshold = s.counters.threshold ∧ t.link = s.link ∧
      t.choices = s.choices ∧ t.out = s.out ∧ t.evThresholds = s.evThresholds := by
  unfold setPortEffect at h
  (try dsimp only at h)
  (repeat' split at h) <;> cases h <;> simp

theorem enablePortEffect_keeps {body : List Byte} {s t : State} {b : ReplyBody} (h : enablePortEffect body s = .ok t b) :
    t.pending = s.pending ∧ t.inReset = s.inReset ∧ t.mgmt = s.mgmt ∧ t.table = s.table ∧ t.sched = s.sched ∧
      t.store = s.store ∧ t.pacers = s.pacers ∧ t.time = s.time ∧ t.counters.threshold = s.counters.threshold ∧
      t.link.lanes = s.link.lanes ∧ t.link.state = s.link.state ∧ t.link.expected = s.link.expected ∧
      t.link.lastGood = s.link.lastGood ∧ t.link.established = s.link.established ∧ t.link.mismatch = s.link.mismatch ∧
      t.link.loss = s.link.loss ∧ t.link.openPacket = s.link.openPacket ∧ t.link.egressFull = s.link.egressFull ∧
      t.link.hold = s.link.hold ∧ t.link.paused = s.link.paused ∧ t.link.stubs = s.link.stubs ∧
      t.link.passList = s.link.passList ∧ t.link.sending = s.link.sending ∧ t.link.discards = s.link.discards ∧
      t.link.stagingDrops = s.link.stagingDrops ∧ t.link.ignoredSightings = s.link.ignoredSightings ∧
      t.link.rejectedWords = s.link.rejectedWords ∧ t.link.returnLosses = s.link.returnLosses ∧ t.choices = s.choices ∧
      t.out = s.out ∧ t.evThresholds = s.evThresholds := by
  unfold enablePortEffect at h
  (try dsimp only at h)
  (repeat' split at h) <;> cases h <;> simp

theorem disableDrainEffect_keeps {body : List Byte} {s t : State} {b : ReplyBody} (h : disableDrainEffect body s = .ok t b) :
    t.pending = s.pending ∧ t.inReset = s.inReset ∧ t.mgmt = s.mgmt ∧ t.table.generations = s.table.generations ∧
      t.table.refusing = s.table.refusing ∧ t.store = s.store ∧ t.pacers = s.pacers ∧ t.time = s.time ∧
      t.counters = s.counters ∧ t.link.lanes = s.link.lanes ∧ t.link.state = s.link.state ∧
      t.link.expected = s.link.expected ∧ t.link.lastGood = s.link.lastGood ∧ t.link.established = s.link.established ∧
      t.link.mismatch = s.link.mismatch ∧ t.link.loss = s.link.loss ∧ t.link.openPacket = s.link.openPacket ∧
      t.link.egressFull = s.link.egressFull ∧ t.link.hold = s.link.hold ∧ t.link.paused = s.link.paused ∧
      t.link.stubs = s.link.stubs ∧ t.link.passList = s.link.passList ∧ t.link.sending = s.link.sending ∧
      t.link.discards = s.link.discards ∧ t.link.stagingDrops = s.link.stagingDrops ∧
      t.link.ignoredSightings = s.link.ignoredSightings ∧ t.link.rejectedWords = s.link.rejectedWords ∧
      t.link.returnLosses = s.link.returnLosses ∧ t.choices = s.choices ∧ t.out = s.out ∧
      t.evThresholds = s.evThresholds := by
  unfold disableDrainEffect at h
  (try dsimp only at h)
  (repeat' split at h) <;> cases h <;> simp

theorem disableFlushEffect_keeps {body : List Byte} {s t : State} {b : ReplyBody} (h : disableFlushEffect body s = .ok t b) :
    t.pending = s.pending ∧ t.inReset = s.inReset ∧ t.mgmt.replies = s.mgmt.replies ∧ t.mgmt.engine = s.mgmt.engine ∧
      t.mgmt.commands = s.mgmt.commands ∧ t.mgmt.ready = s.mgmt.ready ∧ t.mgmt.framer = s.mgmt.framer ∧
      t.mgmt.sending = s.mgmt.sending ∧ t.mgmt.startCause = s.mgmt.startCause ∧ t.mgmt.frameErrors = s.mgmt.frameErrors ∧
      t.mgmt.busyCount = s.mgmt.busyCount ∧ t.mgmt.owed = s.mgmt.owed ∧ t.mgmt.busyBacklog = s.mgmt.busyBacklog ∧
      t.mgmt.pendingErrors = s.mgmt.pendingErrors ∧ t.table.generations = s.table.generations ∧
      t.table.refusing = s.table.refusing ∧ t.store = s.store ∧ t.pacers = s.pacers ∧ t.time = s.time ∧
      t.counters = s.counters ∧ t.link.lanes = s.link.lanes ∧ t.link.state = s.link.state ∧
      t.link.expected = s.link.expected ∧ t.link.lastGood = s.link.lastGood ∧ t.link.established = s.link.established ∧
      t.link.mismatch = s.link.mismatch ∧ t.link.loss = s.link.loss ∧ t.link.openPacket = s.link.openPacket ∧
      t.link.egressFull = s.link.egressFull ∧ t.link.hold = s.link.hold ∧ t.link.paused = s.link.paused ∧
      t.link.stubs = s.link.stubs ∧ t.link.passList = s.link.passList ∧ t.link.sending = s.link.sending ∧
      t.link.discards = s.link.discards ∧ t.link.stagingDrops = s.link.stagingDrops ∧
      t.link.ignoredSightings = s.link.ignoredSightings ∧ t.link.rejectedWords = s.link.rejectedWords ∧
      t.link.returnLosses = s.link.returnLosses ∧ t.choices = s.choices ∧ t.out = s.out ∧
      t.evThresholds = s.evThresholds := by
  unfold disableFlushEffect at h
  (try dsimp only at h)
  (repeat' split at h) <;> cases h <;> simp

theorem resumePortEffect_keeps {body : List Byte} {s t : State} {b : ReplyBody} (h : resumePortEffect body s = .ok t b) :
    t.pending = s.pending ∧ t.inReset = s.inReset ∧ t.mgmt = s.mgmt ∧ t.table = s.table ∧ t.sched = s.sched ∧
      t.store = s.store ∧ t.pacers = s.pacers ∧ t.time = s.time ∧ t.counters = s.counters ∧ t.link = s.link ∧
      t.choices = s.choices ∧ t.out = s.out ∧ t.evThresholds = s.evThresholds := by
  unfold resumePortEffect at h
  (try dsimp only at h)
  (repeat' split at h) <;> cases h <;> simp

theorem portStatusEffect_keeps {body : List Byte} {s t : State} {b : ReplyBody} (h : portStatusEffect body s = .ok t b) :
    t.pending = s.pending ∧ t.inReset = s.inReset ∧ t.mgmt = s.mgmt ∧ t.table = s.table ∧ t.sched = s.sched ∧
      t.store = s.store ∧ t.pacers = s.pacers ∧ t.time = s.time ∧ t.counters = s.counters ∧ t.link = s.link ∧
      t.choices = s.choices ∧ t.out = s.out ∧ t.evThresholds = s.evThresholds := by
  unfold portStatusEffect at h
  (try dsimp only at h)
  (repeat' split at h) <;> cases h <;> simp

theorem setRateEffect_keeps {body : List Byte} {s t : State} {b : ReplyBody} (h : setRateEffect body s = .ok t b) :
    t.pending = s.pending ∧ t.inReset = s.inReset ∧ t.mgmt = s.mgmt ∧ t.table = s.table ∧ t.sched = s.sched ∧
      t.store = s.store ∧ t.time = s.time ∧ t.counters = s.counters ∧ t.ports = s.ports ∧ t.link = s.link ∧
      t.choices = s.choices ∧ t.out = s.out ∧ t.evThresholds = s.evThresholds := by
  unfold setRateEffect at h
  (try dsimp only at h)
  (repeat' split at h) <;> cases h <;> simp

theorem commitRateEffect_keeps {body : List Byte} {s t : State} {b : ReplyBody} (h : commitRateEffect body s = .ok t b) :
    t.pending = s.pending ∧ t.inReset = s.inReset ∧ t.mgmt = s.mgmt ∧ t.table = s.table ∧ t.sched = s.sched ∧
      t.store = s.store ∧ t.time = s.time ∧ t.counters = s.counters ∧ t.ports = s.ports ∧ t.link = s.link ∧
      t.choices = s.choices ∧ t.out = s.out ∧ t.evThresholds = s.evThresholds := by
  unfold commitRateEffect at h
  (try dsimp only at h)
  (repeat' split at h) <;> cases h
  refine ⟨?_, ?_, ?_, ?_, ?_, ?_, ?_, ?_, ?_, ?_, ?_, ?_, ?_⟩
  · exact foldl_keeps (fun s : State => s.pending) _ (by intros; simp) _ _
  · exact foldl_keeps (fun s : State => s.inReset) _ (by intros; simp) _ _
  · exact foldl_keeps (fun s : State => s.mgmt) _ (by intros; simp) _ _
  · exact foldl_keeps (fun s : State => s.table) _ (by intros; simp) _ _
  · exact foldl_keeps (fun s : State => s.sched) _ (by intros; simp) _ _
  · exact foldl_keeps (fun s : State => s.store) _ (by intros; simp) _ _
  · exact foldl_keeps (fun s : State => s.time) _ (by intros; simp) _ _
  · exact foldl_keeps (fun s : State => s.counters) _ (by intros; simp) _ _
  · exact foldl_keeps (fun s : State => s.ports) _ (by intros; simp) _ _
  · exact foldl_keeps (fun s : State => s.link) _ (by intros; simp) _ _
  · exact foldl_keeps (fun s : State => s.choices) _ (by intros; simp) _ _
  · exact foldl_keeps (fun s : State => s.out) _ (by intros; simp) _ _
  · exact foldl_keeps (fun s : State => s.evThresholds) _ (by intros; simp) _ _

theorem rateStatusEffect_keeps {body : List Byte} {s t : State} {b : ReplyBody} (h : rateStatusEffect body s = .ok t b) : t = s := by
  unfold rateStatusEffect at h
  (try dsimp only at h)
  (repeat' split at h) <;> cases h <;> rfl

theorem listEpisodesEffect_keeps {body : List Byte} {s t : State} {b : ReplyBody} (h : listEpisodesEffect body s = .ok t b) : t = s := by
  unfold listEpisodesEffect at h
  (try dsimp only at h)
  (repeat' split at h) <;> cases h <;> rfl

theorem episodeStatusEffect_keeps {body : List Byte} {s t : State} {b : ReplyBody} (h : episodeStatusEffect body s = .ok t b) : t = s := by
  unfold episodeStatusEffect at h
  (try dsimp only at h)
  (repeat' split at h) <;> cases h <;> rfl

theorem haltEffect_keeps {halted : Bool} {body : List Byte} {s t : State} {b : ReplyBody} (h : haltEffect halted body s = .ok t b) :
    t.pending = s.pending ∧ t.inReset = s.inReset ∧ t.mgmt = s.mgmt ∧ t.table.generations = s.table.generations ∧
      t.table.refusing = s.table.refusing ∧ t.sched = s.sched ∧ t.store = s.store ∧ t.pacers = s.pacers ∧ t.time = s.time ∧
      t.counters = s.counters ∧ t.ports = s.ports ∧ t.link = s.link ∧ t.choices = s.choices ∧ t.out = s.out ∧
      t.evThresholds = s.evThresholds := by
  unfold haltEffect at h
  (try dsimp only at h)
  (repeat' split at h) <;> cases h <;> simp

theorem abortEffect_keeps {body : List Byte} {s t : State} {b : ReplyBody} (h : abortEffect body s = .ok t b) :
    t.pending = s.pending ∧ t.inReset = s.inReset ∧ t.mgmt.replies = s.mgmt.replies ∧ t.mgmt.engine = s.mgmt.engine ∧
      t.mgmt.commands = s.mgmt.commands ∧ t.mgmt.ready = s.mgmt.ready ∧ t.mgmt.framer = s.mgmt.framer ∧
      t.mgmt.sending = s.mgmt.sending ∧ t.mgmt.startCause = s.mgmt.startCause ∧ t.mgmt.frameErrors = s.mgmt.frameErrors ∧
      t.mgmt.busyCount = s.mgmt.busyCount ∧ t.mgmt.owed = s.mgmt.owed ∧ t.mgmt.busyBacklog = s.mgmt.busyBacklog ∧
      t.mgmt.pendingErrors = s.mgmt.pendingErrors ∧ t.table.generations = s.table.generations ∧
      t.table.refusing = s.table.refusing ∧ t.store = s.store ∧ t.pacers = s.pacers ∧ t.time = s.time ∧
      t.counters = s.counters ∧ t.ports = s.ports ∧ t.link = s.link ∧ t.choices = s.choices ∧ t.out = s.out ∧
      t.evThresholds = s.evThresholds := by
  unfold abortEffect at h
  (try dsimp only at h)
  (repeat' split at h) <;> cases h <;> simp

theorem extendEffect_keeps {body : List Byte} {s t : State} {b : ReplyBody} (h : extendEffect body s = .ok t b) :
    t.pending = s.pending ∧ t.inReset = s.inReset ∧ t.mgmt = s.mgmt ∧ t.table.generations = s.table.generations ∧
      t.table.refusing = s.table.refusing ∧ t.sched = s.sched ∧ t.store = s.store ∧ t.pacers = s.pacers ∧ t.time = s.time ∧
      t.counters = s.counters ∧ t.ports = s.ports ∧ t.link = s.link ∧ t.choices = s.choices ∧ t.out = s.out ∧
      t.evThresholds = s.evThresholds := by
  unfold extendEffect at h
  (try dsimp only at h)
  (repeat' split at h) <;> cases h <;> simp

theorem addReservationEffect_keeps {body : List Byte} {s t : State} {b : ReplyBody} (h : addReservationEffect body s = .ok t b) :
    t.pending = s.pending ∧ t.inReset = s.inReset ∧ t.mgmt = s.mgmt ∧ t.table.generations = s.table.generations ∧
      t.table.refusing = s.table.refusing ∧ t.sched = s.sched ∧ t.store = s.store ∧ t.pacers = s.pacers ∧ t.time = s.time ∧
      t.counters = s.counters ∧ t.ports = s.ports ∧ t.link = s.link ∧ t.choices = s.choices ∧ t.out = s.out ∧
      t.evThresholds = s.evThresholds := by
  unfold addReservationEffect at h
  (try dsimp only at h)
  (repeat' split at h) <;> cases h <;> simp

theorem storeStatusEffect_keeps {body : List Byte} {s t : State} {b : ReplyBody} (h : storeStatusEffect body s = .ok t b) : t = s := by
  unfold storeStatusEffect at h
  (try dsimp only at h)
  (repeat' split at h) <;> cases h <;> rfl

theorem setPoolEffect_keeps {body : List Byte} {s t : State} {b : ReplyBody} (h : setPoolEffect body s = .ok t b) :
    t.pending = s.pending ∧ t.inReset = s.inReset ∧ t.mgmt = s.mgmt ∧ t.table = s.table ∧ t.sched = s.sched ∧
      t.store.initialising = s.store.initialising ∧ t.store.corrected = s.store.corrected ∧
      t.store.writeList = s.store.writeList ∧ t.store.transfer = s.store.transfer ∧ t.store.releases = s.store.releases ∧
      t.store.released = s.store.released ∧ t.pacers = s.pacers ∧ t.time = s.time ∧ t.counters = s.counters ∧
      t.ports = s.ports ∧ t.link = s.link ∧ t.choices = s.choices ∧ t.out = s.out ∧ t.evThresholds = s.evThresholds := by
  unfold setPoolEffect at h
  (try dsimp only at h)
  (repeat' split at h) <;> cases h <;> simp

theorem readCountersEffect_keeps {body : List Byte} {s t : State} {b : ReplyBody} (h : readCountersEffect body s = .ok t b) : t = s := by
  unfold readCountersEffect at h
  (try dsimp only at h)
  (repeat' split at h) <;> cases h <;> rfl

theorem clearCountersEffect_keeps {body : List Byte} {s t : State} {b : ReplyBody} (h : clearCountersEffect body s = .ok t b) :
    t.pending = s.pending ∧ t.inReset = s.inReset ∧ t.mgmt = s.mgmt ∧ t.table = s.table ∧ t.sched = s.sched ∧
      t.store = s.store ∧ t.pacers = s.pacers ∧ t.time = s.time ∧ t.counters.threshold = s.counters.threshold ∧
      t.ports = s.ports ∧ t.link = s.link ∧ t.choices = s.choices ∧ t.out = s.out ∧ t.evThresholds = s.evThresholds := by
  unfold clearCountersEffect at h
  (try dsimp only at h)
  (repeat' split at h) <;> cases h <;> simp

theorem setThresholdEffect_keeps {body : List Byte} {s t : State} {b : ReplyBody} (h : setThresholdEffect body s = .ok t b) :
    t.pending = s.pending ∧ t.inReset = s.inReset ∧ t.mgmt = s.mgmt ∧ t.table = s.table ∧ t.sched = s.sched ∧
      t.store = s.store ∧ t.pacers = s.pacers ∧ t.time = s.time ∧ t.counters.sets = s.counters.sets ∧ t.ports = s.ports ∧
      t.link = s.link ∧ t.choices = s.choices ∧ t.out = s.out ∧ t.evThresholds = s.evThresholds := by
  unfold setThresholdEffect at h
  (try dsimp only at h)
  (repeat' split at h) <;> cases h <;> simp

theorem linkStatusEffect_keeps {body : List Byte} {s t : State} {b : ReplyBody} (h : linkStatusEffect body s = .ok t b) :
    t.pending = s.pending ∧ t.inReset = s.inReset ∧ t.mgmt = s.mgmt ∧ t.table = s.table ∧ t.sched = s.sched ∧
      t.store = s.store ∧ t.pacers = s.pacers ∧ t.time = s.time ∧ t.counters = s.counters ∧ t.ports = s.ports ∧
      t.link.lanes = s.link.lanes ∧ t.link.state = s.link.state ∧ t.link.expected = s.link.expected ∧
      t.link.lastGood = s.link.lastGood ∧ t.link.established = s.link.established ∧ t.link.openPacket = s.link.openPacket ∧
      t.link.egressFull = s.link.egressFull ∧ t.link.hold = s.link.hold ∧ t.link.paused = s.link.paused ∧
      t.link.control = s.link.control ∧ t.link.stubs = s.link.stubs ∧ t.link.passList = s.link.passList ∧
      t.link.sending = s.link.sending ∧ t.link.discards = s.link.discards ∧ t.link.stagingDrops = s.link.stagingDrops ∧
      t.link.ignoredSightings = s.link.ignoredSightings ∧ t.link.rejectedWords = s.link.rejectedWords ∧
      t.link.returnLosses = s.link.returnLosses ∧ t.choices = s.choices ∧ t.out = s.out ∧
      t.evThresholds = s.evThresholds := by
  unfold linkStatusEffect at h
  (try dsimp only at h)
  (repeat' split at h) <;> cases h <;> simp

theorem setLinkParamsEffect_keeps {body : List Byte} {s t : State} {b : ReplyBody} (h : setLinkParamsEffect body s = .ok t b) :
    t.pending = s.pending ∧ t.inReset = s.inReset ∧ t.mgmt.replies = s.mgmt.replies ∧ t.mgmt.engine = s.mgmt.engine ∧
      t.mgmt.commands = s.mgmt.commands ∧ t.mgmt.ready = s.mgmt.ready ∧ t.mgmt.framer = s.mgmt.framer ∧
      t.mgmt.sending = s.mgmt.sending ∧ t.mgmt.startCause = s.mgmt.startCause ∧ t.mgmt.frameErrors = s.mgmt.frameErrors ∧
      t.mgmt.busyCount = s.mgmt.busyCount ∧ t.mgmt.owed = s.mgmt.owed ∧ t.mgmt.busyBacklog = s.mgmt.busyBacklog ∧
      t.mgmt.pendingErrors = s.mgmt.pendingErrors ∧ t.table = s.table ∧ t.sched = s.sched ∧ t.store = s.store ∧
      t.pacers = s.pacers ∧ t.time = s.time ∧ t.counters = s.counters ∧ t.ports = s.ports ∧ t.link.lanes = s.link.lanes ∧
      t.link.lastGood = s.link.lastGood ∧ t.link.mismatch = s.link.mismatch ∧ t.link.loss = s.link.loss ∧
      t.link.openPacket = s.link.openPacket ∧ t.link.paused = s.link.paused ∧ t.link.stubs = s.link.stubs ∧
      t.link.passList = s.link.passList ∧ t.link.sending = s.link.sending ∧ t.link.discards = s.link.discards ∧
      t.link.stagingDrops = s.link.stagingDrops ∧ t.link.ignoredSightings = s.link.ignoredSightings ∧
      t.link.rejectedWords = s.link.rejectedWords ∧ t.link.returnLosses = s.link.returnLosses ∧ t.choices = s.choices ∧
      t.evThresholds = s.evThresholds := by
  unfold setLinkParamsEffect at h
  (try dsimp only at h)
  (repeat' split at h) <;> cases h <;> simp

theorem relinkEffect_keeps {body : List Byte} {s t : State} {b : ReplyBody} (h : relinkEffect body s = .ok t b) :
    t.pending = s.pending ∧ t.inReset = s.inReset ∧ t.mgmt.replies = s.mgmt.replies ∧ t.mgmt.engine = s.mgmt.engine ∧
      t.mgmt.commands = s.mgmt.commands ∧ t.mgmt.ready = s.mgmt.ready ∧ t.mgmt.framer = s.mgmt.framer ∧
      t.mgmt.sending = s.mgmt.sending ∧ t.mgmt.startCause = s.mgmt.startCause ∧ t.mgmt.frameErrors = s.mgmt.frameErrors ∧
      t.mgmt.busyCount = s.mgmt.busyCount ∧ t.mgmt.owed = s.mgmt.owed ∧ t.mgmt.busyBacklog = s.mgmt.busyBacklog ∧
      t.mgmt.pendingErrors = s.mgmt.pendingErrors ∧ t.table = s.table ∧ t.sched = s.sched ∧ t.store = s.store ∧
      t.pacers = s.pacers ∧ t.time = s.time ∧ t.counters = s.counters ∧ t.link.expected = s.link.expected ∧
      t.link.established = s.link.established ∧ t.link.mismatch = s.link.mismatch ∧ t.link.egressFull = s.link.egressFull ∧
      t.link.stubs = s.link.stubs ∧ t.link.passList = s.link.passList ∧ t.link.stagingDrops = s.link.stagingDrops ∧
      t.link.ignoredSightings = s.link.ignoredSightings ∧ t.link.rejectedWords = s.link.rejectedWords ∧
      t.choices = s.choices ∧ t.evThresholds = s.evThresholds := by
  unfold relinkEffect at h
  (try dsimp only at h)
  (repeat' split at h) <;> cases h <;> simp

end Sys2Proof.Machine
end

