-- ==== Sys2Proof/Laws/Engine.lean ====
section
/-! SUPPORT. The command engine: what a performed command leaves of the management link, when the engine takes a command, and
how a property that every effect keeps is kept by a whole event and a whole step. -/

set_option linter.all false

namespace Sys2Proof.Machine

/-- No command's effect touches the management link but for the notices it raises. -/
theorem performed_mgmt {f : Frame} {s t : State} {b : ReplyBody} (h : performed f s = .ok t b) :
    t.pending = s.pending ∧ t.inReset = s.inReset ∧ t.mgmt.replies = s.mgmt.replies ∧ t.mgmt.engine = s.mgmt.engine ∧
      t.mgmt.commands = s.mgmt.commands ∧ t.mgmt.ready = s.mgmt.ready ∧ t.mgmt.framer = s.mgmt.framer ∧
      t.mgmt.sending = s.mgmt.sending ∧ t.mgmt.startCause = s.mgmt.startCause ∧ t.mgmt.frameErrors = s.mgmt.frameErrors ∧
      t.mgmt.busyCount = s.mgmt.busyCount ∧ t.mgmt.owed = s.mgmt.owed ∧ t.mgmt.busyBacklog = s.mgmt.busyBacklog ∧
      t.mgmt.pendingErrors = s.mgmt.pendingErrors ∧ t.time = s.time ∧ t.store.initialising = s.store.initialising := by
  unfold performed at h
  split at h
  · rw [identifyEffect_keeps h]; simp
  · cases h
  · simp [setPortEffect_keeps h]
  · simp [enablePortEffect_keeps h]
  · unfold disablePortEffect at h
    split at h
    · simp [disableFlushEffect_keeps h]
    · simp [disableDrainEffect_keeps h]
  · simp [resumePortEffect_keeps h]
  · simp [portStatusEffect_keeps h]
  · simp [setRateEffect_keeps h]
  · simp [commitRateEffect_keeps h]
  · rw [rateStatusEffect_keeps h]; simp
  · rw [listEpisodesEffect_keeps h]; simp
  · rw [episodeStatusEffect_keeps h]; simp
  · simp [haltEffect_keeps h]
  · simp [haltEffect_keeps h]
  · simp [abortEffect_keeps h]
  · simp [extendEffect_keeps h]
  · simp [addReservationEffect_keeps h]
  · unfold captureEffect at h; split at h <;> cases h
  · rw [readCountersEffect_keeps h]; simp
  · simp [clearCountersEffect_keeps h]
  · simp [setThresholdEffect_keeps h]
  · rw [storeStatusEffect_keeps h]; simp
  · simp [setPoolEffect_keeps h]
  · simp [linkStatusEffect_keeps h]
  · simp [setLinkParamsEffect_keeps h]
  · simp [relinkEffect_keeps h]
  · cases h

/-- Only CAPTURE is held, and only RESET_PART is accepted. -/
theorem performed_held {f : Frame} {s : State} (h : performed f s = .held) : f.kind = kindCapture := by
  unfold performed at h
  split at h
  all_goals try (first | cases h | skip)
  case h_18 e => exact BitVec.eq_of_toNat_eq (by simpa [kindCapture] using e)
  all_goals exfalso
  all_goals revert h
  all_goals simp only [identifyEffect, setPortEffect, enablePortEffect, disablePortEffect, disableFlushEffect,
    disableDrainEffect, resumePortEffect, portStatusEffect, setRateEffect, commitRateEffect, rateStatusEffect,
    listEpisodesEffect, episodeStatusEffect, haltEffect, abortEffect, extendEffect, addReservationEffect,
    readCountersEffect, clearCountersEffect, setThresholdEffect, storeStatusEffect, setPoolEffect, linkStatusEffect,
    setLinkParamsEffect, relinkEffect]
  all_goals (repeat' split)
  all_goals (intro h; cases h)

/-- The performance of a command keeps what its effect keeps, for a property that no field of the management link matters to. -/
theorem perform_inv {P : State → Prop} (hm : ∀ s m, P s → P { s with mgmt := m })
    (he : ∀ f s t b, performed f s = .ok t b → P s → P t) (s : State) (f : Frame) (hs : P s) : P (s.perform f) := by
  unfold State.perform State.reply
  split
  · exact hm _ _ hs
  · exact hm _ _ (he _ _ _ _ ‹_› hs)
  · exact hm _ _ hs
  · exact hm _ _ (hm s _ hs)

/-- The giving of a free place keeps it. -/
theorem give_inv {P : State → Prop} (hm : ∀ s m, P s → P { s with mgmt := m })
    (he : ∀ f s t b, performed f s = .ok t b → P s → P t) (s : State) (hs : P s) : P s.give := by
  unfold State.give State.take State.reply
  dsimp only
  (repeat' split) <;> first | exact hs | exact hm _ _ hs | exact hm _ _ (hm s _ hs) | exact perform_inv hm he _ _ (hm _ _ hs)

/-- A property that the gifts and their consequences keep is kept by the serving of all places. -/
theorem serve_inv {P : State → Prop} (hg : ∀ s, P s → P s.give) (hc : ∀ s w, P s → P (s.consequences w)) (w : Bool) (n : Nat)
    (s : State) (hs : P s) : P (State.serve w n s) := by
  induction n generalizing s with
  | zero => exact hs
  | succ n ih =>
    unfold State.serve
    split
    · exact ih _ (hc _ _ (hg _ hs))
    · exact hs

/-- What follows from an event keeps what the gifts and the consequences keep, for a property to which neither the management
link nor the outputs and THRESHOLD marks of the event matter. -/
theorem settle_inv {P : State → Prop} (hg : ∀ s, P s → P s.give) (hc : ∀ s w, P s → P (s.consequences w))
    (hm : ∀ s m, P s → P { s with mgmt := m }) (ho : ∀ s o, P s → P { s with out := o })
    (hv : ∀ s v, P s → P { s with evThresholds := v }) (s : State) (w : Bool) (hs : P s) : P (s.settle w) := by
  unfold State.settle
  dsimp only
  apply hv
  apply hm _ _
  apply serve_inv hg hc
  unfold State.transmit State.emit
  split
  · exact hm _ _ (serve_inv hg hc _ _ _ (hc _ _ hs))
  · exact ho _ _ (hm _ _ (hm _ _ (serve_inv hg hc _ _ _ (hc _ _ hs))))

/-- An event keeps what its effect and what follows keep. -/
theorem event_inv {P : State → Prop} (hse : ∀ s w, P s → P (s.settle w)) (ho : ∀ s o, P s → P { s with out := o })
    (hv : ∀ s v, P s → P { s with evThresholds := v }) (effect : State → State) (he : ∀ s, P s → P (effect s)) (s : State)
    (hs : P s) : P (s.event effect) := by
  unfold State.event
  split
  · exact hs
  · exact hse _ _ (he s.freshEvent (hv { s with out := [] } [] (ho s [] hs)))

/-- The bytes of the receive line keep what the gifts and what follows keep. -/
theorem receiveBytes_inv {P : State → Prop} (hg : ∀ s, P s → P s.give) (hse : ∀ s w, P s → P (s.settle w))
    (hm : ∀ s m, P s → P { s with mgmt := m }) (s : State) (bytes : List Byte) (hs : P s) : P (s.receiveBytes bytes) := by
  unfold State.receiveBytes
  dsimp only
  apply foldl_inv P _ _ _ _ (hm _ _ hs)
  intro u found hu
  unfold State.frameEvent State.frameDone
  cases found <;> exact hse _ _ (hg _ (hm _ _ hu))

/-! ### When the engine takes a command -/

/-- A free place with no reply owed goes to the head command, if the engine is free. -/
theorem give_takes (s : State) (f : Frame) (rest : List Frame) (he : s.mgmt.engine = .idle) (ho : s.mgmt.owed = [])
    (hc : s.mgmt.commands = f :: rest) (hp : s.mgmt.replies.length < 16) : s.give = s.take f rest := by
  unfold State.give
  rw [if_pos (by simp [Mgmt.placeFree, Mgmt.reserved, he, hp])]
  simp only [ho, he, hc]

/-- A command that passes the shared checks is performed as it is taken. -/
theorem take_performs (s : State) (f : Frame) (rest : List Frame) (h : sharedCheck s.mgmt.ready f = none) :
    s.take f rest = { s with mgmt := { s.mgmt with commands := rest } }.perform f := by
  unfold State.take
  simp only [h]

/-- A command that fails a shared check is refused as it is taken. -/
theorem take_refuses (s : State) (f : Frame) (rest : List Frame) (status : Status) (h : sharedCheck s.mgmt.ready f = some status) :
    s.take f rest = { s with mgmt := { s.mgmt with
      commands := rest, replies := s.mgmt.replies ++ [⟨f.tag, f.kind, status, .nothing⟩] } } := by
  unfold State.take
  simp only [h]
  rfl

/-- A refused command changes nothing but the reply queue. -/
theorem perform_refuse {s : State} {f : Frame} {status : Status} (h : performed f s = .refuse status) :
    s.perform f = s.replied f.kind f.tag status .nothing := by
  unfold State.perform; simp only [h]; rfl

/-- An effective command's state and reply. -/
theorem perform_ok {s t : State} {f : Frame} {b : ReplyBody} (h : performed f s = .ok t b) :
    s.perform f = t.replied f.kind f.tag .ok b := by
  unfold State.perform; simp only [h]; rfl

/-- Every gift that is wanted uses one of the reply places (R172). -/
theorem give_places (s : State) (h : s.mgmt.wantsPlace = true) :
    s.give.mgmt.replies.length + s.give.mgmt.reserved = s.mgmt.replies.length + s.mgmt.reserved + 1 := by
  unfold Mgmt.wantsPlace at h
  simp only [Bool.and_eq_true] at h
  obtain ⟨hp, hw⟩ := h
  unfold State.give
  rw [if_pos hp]
  split
  · simp [State.reply, Mgmt.makeReply, Mgmt.reserved]; omega
  · rename_i ho
    split
    · rename_i f rest he hc
      unfold State.take
      dsimp only
      split
      · simp [State.reply, Mgmt.makeReply, Mgmt.reserved, he]
      · unfold State.perform
        split
        · simp [State.reply, Mgmt.makeReply, Mgmt.reserved, he]
        · rename_i h2
          have k := performed_mgmt h2
          simp [State.reply, Mgmt.makeReply, Mgmt.reserved, k, he]
        · simp [Mgmt.reserved, he]
        · simp [State.reply, Mgmt.makeReply, Mgmt.reserved, he]
    · rename_i hn
      unfold Mgmt.giveFramer
      split
      · simp [Mgmt.makeReply, Mgmt.reserved]; omega
      · split
        · rename_i hb
          exfalso
          cases hc : s.mgmt.commands with
          | nil => simp_all
          | cons f rest =>
            by_cases he : s.mgmt.engine = .idle
            · exact hn _ _ he hc
            · simp_all
        · simp [Mgmt.makeReply, Mgmt.reserved]; omega

/-- The replies that wait stay where they are when a place is given. -/
theorem give_replies (s : State) : ∃ l, s.give.mgmt.replies = s.mgmt.replies ++ l := by
  unfold State.give State.take
  dsimp only
  (repeat' split)
  · exact ⟨[_], rfl⟩
  · exact ⟨[_], rfl⟩
  · unfold State.perform
    split
    · exact ⟨[_], rfl⟩
    · rename_i h2
      have k := performed_mgmt h2
      exact ⟨_, congrArg (· ++ [_]) k.2.2.1⟩
    · exact ⟨[], by simp⟩
    · exact ⟨[_], rfl⟩
  · unfold Mgmt.giveFramer
    dsimp only
    (repeat' split)
    · exact ⟨[_], rfl⟩
    · exact ⟨[], by simp⟩
    · exact ⟨[_], rfl⟩
  · exact ⟨[], by simp⟩

end Sys2Proof.Machine
end

