-- ==== Sys2Proof/Laws/Fields.lean ====
section
/-! SUPPORT. The fields of a command's body, read back from the bytes of its row's frame (Table 11-2). -/

namespace Sys2Proof.Machine

/-- A 16-bit field is read back from its two bytes, behind any bytes and ahead of any. -/
theorem fieldAt_half (h : Half) (pre post : List Byte) (n : Nat) (hn : pre.length = n) :
    fieldAt (pre ++ toBe 2 h.toNat ++ post) n 2 = h.toNat := by
  subst hn
  unfold fieldAt
  have := h.isLt
  simp [toBe, beNat]
  omega

/-- A 24-bit field is read back from its three bytes. -/
theorem fieldAt_three (h : BitVec 24) (pre post : List Byte) (n : Nat) (hn : pre.length = n) :
    fieldAt (pre ++ toBe 3 h.toNat ++ post) n 3 = h.toNat := by
  subst hn
  unfold fieldAt
  have := h.isLt
  simp [toBe, beNat]
  omega

/-- A handle is read back from the front of a body. -/
theorem handleAt_front (h : Half) (post : List Byte) : handleAt (toBe 2 h.toNat ++ post) 0 = handleOf h := by
  unfold handleAt handleOf
  have := fieldAt_half h [] post 0 rfl
  simp only [List.nil_append] at this
  rw [this]

/-- A body that is a handle. -/
theorem handleAt_alone (h : Half) : handleAt (toBe 2 h.toNat) 0 = handleOf h := by
  have := handleAt_front h []
  simpa using this

end Sys2Proof.Machine
end

