-- ==== Sys2Proof/Laws/Settling.lean ====
section
/-! SUPPORT. How an event runs: a host command as the state its event ends in, the rows that are events of their own, a property
that a whole step keeps, when each part of what follows an event changes nothing, and that a reply made in an event waits or is
being sent. -/

set_option linter.all false

namespace Sys2Proof.Machine

/-! ### Events and the commands of the host -/

/-- An event of a running part: its own effect, and what follows. -/
theorem event_runs (s : State) (h : Runs s) (effect : State → State) (u : State) (hu : effect s.begun = u) :
    eventOutcome s effect = .next (u.settle s.dramIdle) := by
  unfold eventOutcome State.event
  rw [show s.inReset = false from h, ← hu]; rfl

/-- The framer finds a whole frame in the frame's own bytes (R169). -/
theorem framedAt_encode (f : Frame) (hl : f.body.length ≤ 1024) : framedAt f.encode = .accepted f (f.body.length + 7) := by
  have hlen : f.encode.length = f.body.length + 7 := by
    simp [Frame.encode, frameBytes, toBe]
  have hsz : fieldAt f.encode 3 2 = f.body.length := by
    simp [Frame.encode, frameBytes, toBe, fieldAt, beNat]; omega
  unfold framedAt
  rw [if_neg (by simp [Frame.encode, frameBytes, startByte]), if_neg (by omega)]
  simp only [hsz]
  rw [if_neg (by omega), if_neg (by omega)]
  have e2 : List.take (f.body.length + 4) (List.drop 1 f.encode) = [f.kind, f.tag] ++ toBe 2 f.body.length ++ f.body := by
    simp [Frame.encode, frameBytes, toBe]
  have e3 : fieldAt f.encode (f.body.length + 5) 2 = (crc16 ([f.kind, f.tag] ++ toBe 2 f.body.length ++ f.body)).toNat := by
    have : List.drop (f.body.length + 5) f.encode = toBe 2 (crc16 ([f.kind, f.tag] ++ toBe 2 f.body.length ++ f.body)).toNat := by
      simp [Frame.encode, frameBytes, toBe]
    unfold fieldAt; rw [this]
    generalize crc16 _ = c
    have := c.isLt
    simp [toBe, beNat]; omega
  rw [e2, e3]
  rw [if_pos (by simp)]
  congr 1
  cases f
  simp [Frame.encode, frameBytes, toBe, byteAt]

/-- The framer's scan of one whole frame: the frame, and nothing left. -/
theorem scanFrames_encode (f : Frame) (hl : f.body.length ≤ 1024) : scanFrames f.encode.length f.encode = ⟨[some f], []⟩ := by
  have hlen : f.encode.length = f.body.length + 7 := by
    simp [Frame.encode, frameBytes, toBe]
  rw [hlen]
  cases he : f.encode with
  | nil => simp [he] at hlen
  | cons b rest =>
    rw [scanFrames]
    rw [← he, framedAt_encode f hl]
    simp only
    rw [List.drop_eq_nil_of_le (by omega)]
    cases f.body.length + 6 <;> simp [scanFrames]

/-- A whole frame to a framer between frames: the frame is accepted, and served if a place is free (R169, R171, R172). -/
theorem hostSends_runs (s : State) (f : Frame) (hr : Runs s) (hf : s.mgmt.framer = []) (hl : f.body.length ≤ 1024) :
    hostSends f s = .next ({ s.begun with mgmt := s.mgmt.acceptFrame f }.give.settle s.dramIdle) := by
  unfold hostSends bytesOutcome
  rw [if_neg (by simp [show s.inReset = false from hr])]
  unfold State.receiveBytes
  have : s.freshEvent.mgmt.framer = [] := hf
  simp only [this, List.nil_append, scanFrames_encode f hl, List.foldl_cons, List.foldl_nil]
  unfold State.frameEvent State.frameDone
  have e : ({ s.freshEvent with mgmt := { s.freshEvent.mgmt with framer := [] } } : State) = s.begun := by
    unfold State.freshEvent State.begun
    have : ({ s.mgmt with framer := [] } : Mgmt) = s.mgmt := by rw [← hf]
    simp only [this]
  rw [e]; rfl

/-- Where the engine takes a command at its arrival: the frame is taken in its own event (R172, R173). -/
theorem hostSends_takes (s : State) (f : Frame) (h : TakesCommand s) (hl : f.body.length ≤ 1024) :
    hostSends f s = .next ((s.begun.take f []).settle s.dramIdle) := by
  obtain ⟨hr, hf, he, ho, hc, hp⟩ := h
  rw [hostSends_runs s f hr hf hl]
  unfold Mgmt.acceptFrame
  rw [if_pos (by simp [hc])]
  have e := give_takes { s.begun with mgmt := { s.mgmt with commands := s.mgmt.commands ++ [f] } } f [] he ho (by simp [hc]) hp
  rw [e]
  rfl

/-- A host command that passes the shared checks is performed in the event of its arrival. -/
theorem hostSends_performs (s : State) (f : Frame) (h : TakesCommand s) (hl : f.body.length ≤ 1024)
    (hk : sharedCheck s.mgmt.ready f = none) : hostSends f s = .next ((s.begun.perform f).settle s.dramIdle) := by
  rw [hostSends_takes s f h hl, take_performs _ _ _ (by exact hk)]
  have : ({ s.begun with mgmt := { s.begun.mgmt with commands := [] } } : State) = s.begun := by
    have e : ({ s.mgmt with commands := [] } : Mgmt) = s.mgmt := by rw [← h.2.2.2.2.1]
    unfold State.begun
    simp only [e]
  rw [this]

/-- How a host command's row ends: the refusal or the changed state, with the reply, and what follows. -/
theorem endsAt_performs (i : Instr) (s u : State) (f : Frame) (hx : exec i s = hostSends f s) (h : TakesCommand s)
    (hl : f.body.length ≤ 1024) (hk : sharedCheck s.mgmt.ready f = none) (hu : s.begun.perform f = u) : EndsAt i s u := by
  unfold EndsAt
  rw [hx, hostSends_performs s f h hl hk, hu]

/-- The row of a host command is its frame's arrival. -/
theorem exec_host (i : Instr) (s : State) (f : Frame) (h : frameOf? i = some f) : exec i s = hostSends f s := by
  cases i <;> first | (cases h; rfl) | cases h

/-- The commands' checks of a port, in the state an event begins with. -/
theorem begun_portRefusal (s : State) (p : Nat) : s.begun.portRefusal p = if 48 ≤ p then some .badValue else if (s.port p).role = .pairOdd then some .wrongPort else none := by
  unfold State.portRefusal
  simp [Config.portCount, State.begun, State.port]; rfl

/-! ### The rows that are events of their own -/

/-- The effect of a row that is an event of its own: every row but the host's commands, FRAME_RECEIVED and the reset input. -/
def eventOf? : Instr → Option (State → State)
  | .transmitComplete => some State.transmitDone
  | .clockStartDecision edgesSeen => some (·.decideClock edgesSeen)
  | .storeInitComplete => some State.finishInit
  | .referenceLost => some State.loseReference
  | .referenceReturned => some State.regainReference
  | .pacerTick => some State.pacerTick
  | .grantTimerExpiry slot position number => some (·.expireGrant slot position number)
  | .deadlineExpiry slot => some (·.takeDeadline slot)
  | .idleExpiry slot => some (·.takeIdle slot)
  | .lingerExpiry slot => some (·.takeLinger slot)
  | .framingError lane => some (·.framingError lane.val)
  | .damagedWord blocks typeCode ofPacket => some (·.damagedWord blocks typeCode ofPacket)
  | .alignmentWord lanes => some (·.alignmentWord lanes)
  | .laneMarkerWord lanes => some (·.laneMarkerWord lanes)
  | .parameterBlock linkId laneCount portCount maxLength checksum =>
    some (·.takeWord (·.takeParams ⟨linkId.toNat, laneCount.toNat, portCount.toNat, maxLength.toNat⟩ checksum) State.rejectWord)
  | .packetDescriptor port flags length dest src tag grant =>
    some (·.takeWord id (·.takeDescriptor ⟨port.toNat, flags, length.toNat, dest, src, tag, grant⟩))
  | .payloadWord last count data => some (·.takeWord id (·.takePayload last count data))
  | .sighting port requester tag n e cls report =>
    some (·.takeWord id (·.sightingWord port.toNat (announcement requester tag n e cls report)))
  | .divertStarted port => some (·.takeWord id (·.markerWord port.toNat State.started))
  | .divertStopped port => some (·.takeWord id (·.markerWord port.toNat State.stopped))
  | .statusWord full => some (·.takeWord id (·.setEgress full))
  | .holdReturn => some (·.takeWord id (·.setHold true))
  | .resumeReturn => some (·.takeWord id (·.setHold false))
  | .idleWord => some (·.takeWord id id)
  | .storeWriteComplete => some State.finishWrite
  | .releaseReadComplete corrected uncorrectable => some (·.finishRead corrected uncorrectable)
  | .captureReadComplete corrected uncorrectable => some (·.finishCapture corrected uncorrectable)
  | .returnItemComplete => some State.finishItem
  | .unknownTypeWord marker => some (·.takeWord id (·.unknownWord marker))
  | _ => none

/-- Such a row is that event. -/
theorem exec_event (i : Instr) (s : State) (effect : State → State) (h : eventOf? i = some effect) :
    exec i s = eventOutcome s effect := by
  cases i <;> first | (cases h; rfl) | cases h

/-- A property to which the management link, the queue and the outputs do not matter is kept by every step, if the commands'
effects, the events' effects, the consequences and the resets keep it. -/
theorem step_inv {P : State → Prop} (hq : ∀ s q, P s → P { s with pending := q }) (hm : ∀ s m, P s → P { s with mgmt := m })
    (ho : ∀ s o, P s → P { s with out := o }) (hv : ∀ s v, P s → P { s with evThresholds := v })
    (hc : ∀ s w, P s → P (s.consequences w)) (he : ∀ f s t b, performed f s = .ok t b → P s → P t)
    (hx : ∀ i effect, eventOf? i = some effect → ∀ s, P s → P (effect s))
    (h0 : ∀ s, P s → P s.assertReset ∧ P s.releaseReset) (s t : State) (h : step s = .next t) (hs : P s) : P t := by
  have hg : ∀ s, P s → P s.give := give_inv hm he
  have hse : ∀ s w, P s → P (s.settle w) := settle_inv hg hc hm ho hv
  have hb : ∀ bytes (s t : State), bytesOutcome bytes s = .next t → P s → P t := by
    intro bytes s t h hs
    unfold bytesOutcome at h
    cases h
    split
    · exact hs
    · exact receiveBytes_inv hg hse hm _ _ (hv { s with out := [] } [] (ho s [] hs))
  unfold step at h
  split at h
  · cases h; exact hs
  · rename_i i rest _
    have hs' := hq s rest hs
    generalize ({ s with pending := rest } : State) = u at h hs'
    cases hi : eventOf? i with
    | some effect =>
      rw [exec_event i u effect hi] at h
      cases h
      exact event_inv hse ho hv effect (hx i effect hi) u hs'
    | none =>
      cases hf : frameOf? i with
      | some f => rw [exec_host i u f hf] at h; exact hb _ _ _ h hs'
      | none =>
        cases i <;> first | (cases hi; done) | (cases hf; done) | skip
        · exact hb _ _ _ h hs'
        · cases h; exact (h0 u hs').1
        · cases h; exact (h0 u hs').2

/-! ### When nothing follows -/

theorem completeDrains_quiet (s : State) (h : ∀ g, (s.port g).state ≠ .drainOut) : s.completeDrains = s := by
  unfold State.completeDrains
  apply foldl_id
  intro g _
  unfold State.completeDrain State.drainComplete
  rw [if_neg (by simp [h g])]

theorem beginItem_quiet (s : State) (h : s.link.state ≠ .up) : s.beginItem = s := by
  unfold State.beginItem State.linkUp
  rw [if_neg (by simp [h])]

theorem beginReleases_quiet (s : State) (h : s.link.state ≠ .up) : s.beginReleases = s := by
  unfold State.beginReleases
  apply foldl_id
  intro g _
  unfold State.beginRelease State.releaseChoice? State.mayRelease State.linkUp
  simp [h]

theorem decisions_quiet (s : State) (n : Nat) (h : ∀ g, (s.port g).state ≠ .active) : State.decisions n s = s := by
  have : s.readyDecisions = [] := by
    unfold State.readyDecisions
    rw [List.filterMap_eq_nil_iff]
    intro g _
    unfold State.decision? State.mayGrant
    simp [h g]
  cases n with
  | zero => rfl
  | succ n => unfold State.decisions; simp [this]

theorem storeArbiter_quiet (s : State) (b : Bool) (h1 : s.store.initialising = true) (h2 : s.captureWaiting? = none) :
    s.storeArbiter b = s := by
  have w : s.writerWaits = false := by unfold State.writerWaits; split <;> simp [h1]
  have r : s.readerGroup? = none := by unfold State.readerGroup?; simp [h1]
  unfold State.storeArbiter State.requesters
  simp only [w, r, h2]
  have : ∀ n, State.arbitrate n s = s := by
    intro n
    cases n with
    | zero => rfl
    | succ n =>
      unfold State.arbitrate State.arbiterPick arbiterChoice
      simp [w, r, h2]
  simp [this]

theorem serve_quiet (s : State) (w : Bool) (n : Nat) (h : s.mgmt.wantsPlace = false) : State.serve w n s = s := by
  cases n with
  | zero => rfl
  | succ n => unfold State.serve; simp [h]

/-! ### The replies of an event -/

theorem grantDram_replies (s : State) (r : Requester) : ∃ l, (s.grantDram r).mgmt.replies = s.mgmt.replies ++ l := by
  cases r <;> simp only [State.grantDram]
  · exact ⟨[], by simp⟩
  · exact ⟨[], by simp⟩
  · unfold State.grantCapture
    split
    · exact ⟨[], by simp⟩
    · dsimp only
      split
      · exact ⟨[_], rfl⟩
      · split
        · exact ⟨[_], rfl⟩
        · exact ⟨[], by simp⟩

theorem arbitrate_replies (n : Nat) (s : State) : ∃ l, (State.arbitrate n s).mgmt.replies = s.mgmt.replies ++ l := by
  induction n generalizing s with
  | zero => exact ⟨[], by simp [State.arbitrate]⟩
  | succ n ih =>
    unfold State.arbitrate
    split
    · split
      · exact ⟨[], by simp⟩
      · obtain ⟨l, h⟩ := ih (s.grantDram ‹_›)
        obtain ⟨l2, h2⟩ := grantDram_replies s ‹_›
        exact ⟨l2 ++ l, by rw [h, h2]; simp⟩
    · exact ⟨[], by simp⟩

theorem storeArbiter_replies (s : State) (b : Bool) : ∃ l, (s.storeArbiter b).mgmt.replies = s.mgmt.replies ++ l := by
  unfold State.storeArbiter
  dsimp only
  split
  · obtain ⟨l, h⟩ := arbitrate_replies 2 (State.grantDram { s with choices := s.choices + 1 } (s.requesters.getD (Config.choice s.choices % s.requesters.length) .writer))
    obtain ⟨l2, h2⟩ := grantDram_replies { s with choices := s.choices + 1 } (s.requesters.getD (Config.choice s.choices % s.requesters.length) .writer)
    exact ⟨l2 ++ l, by rw [h, h2]; simp⟩
  · exact arbitrate_replies 2 s

/-- The replies that wait stay where they are in the consequences of a change. -/
theorem consequences_replies (s : State) (w : Bool) : ∃ l, (s.consequences w).mgmt.replies = s.mgmt.replies ++ l := by
  unfold State.consequences
  extract_lets a b c d e f
  obtain ⟨l, hl⟩ := storeArbiter_replies c w
  refine ⟨l, ?_⟩
  have : d.mgmt.replies = s.mgmt.replies ++ l := by
    rw [show d.mgmt.replies = c.mgmt.replies ++ l from hl]; simp [c, b, a]
  simp [f, e, this]

theorem serve_replies (w : Bool) (n : Nat) (s : State) : ∃ l, (State.serve w n s).mgmt.replies = s.mgmt.replies ++ l := by
  induction n generalizing s with
  | zero => exact ⟨[], by simp [State.serve]⟩
  | succ n ih =>
    unfold State.serve
    split
    · obtain ⟨a, ha⟩ := give_replies s
      obtain ⟨b, hb⟩ := consequences_replies s.give w
      obtain ⟨c, hc⟩ := ih (s.give.consequences w)
      exact ⟨a ++ (b ++ c), by rw [hc, hb, ha]; simp⟩
    · exact ⟨[], by simp⟩

theorem consequences_sending (s : State) (w : Bool) : (s.consequences w).mgmt.sending = s.mgmt.sending := by
  unfold State.consequences
  simp

/-- The frame being sent goes on while places are given. -/
theorem give_sending (s : State) : s.give.mgmt.sending = s.mgmt.sending := by
  unfold State.give State.take State.perform Mgmt.giveFramer State.reply Mgmt.makeReply
  dsimp only
  (repeat' split) <;> first | rfl | (rename_i h2; exact (performed_mgmt h2).2.2.2.2.2.2.2.1)

theorem serve_sending (w : Bool) (n : Nat) (s : State) : (State.serve w n s).mgmt.sending = s.mgmt.sending := by
  induction n generalizing s with
  | zero => rfl
  | succ n ih =>
    unfold State.serve
    split
    · rw [ih, consequences_sending, give_sending]
    · rfl

/-- The transmitter leaves a reply that waits, or begins it. -/
theorem transmit_reply (s : State) (r : Reply) (h : r ∈ s.mgmt.replies) :
    r ∈ s.transmit.mgmt.replies ∨ s.transmit.mgmt.sending = some (.reply r) := by
  unfold State.transmit Mgmt.nextFrame?
  cases hs : s.mgmt.sending with
  | some y => simp [h]
  | none =>
    cases hx : s.mgmt.replies with
    | nil => rw [hx] at h; simp at h
    | cons z zs =>
      rw [hx] at h
      simp only [Mgmt.beginFrame, State.emit, hx]
      simp at h
      rcases h with rfl | h
      · right; rfl
      · left; simpa using h

/-- A reply that waits after an event's effect waits at the event's end, or is being sent. -/
theorem settle_reply (s : State) (w : Bool) (r : Reply) (hr : r ∈ s.mgmt.replies) :
    r ∈ (s.settle w).mgmt.replies ∨ (s.settle w).mgmt.sending = some (.reply r) := by
  have ha : r ∈ (State.serve w 16 (s.consequences w)).refreshThresholds.mgmt.replies := by
    obtain ⟨l, hl⟩ := consequences_replies s w
    obtain ⟨k, hk⟩ := serve_replies w 16 (s.consequences w)
    have e : ∀ x : State, x.refreshThresholds.mgmt.replies = x.mgmt.replies := fun _ => rfl
    rw [e, hk, hl]; simp [hr]
  have hb := transmit_reply _ r ha
  unfold State.settle
  dsimp only
  generalize (State.serve w 16 (s.consequences w)).refreshThresholds.transmit = b at hb ⊢
  have e : ∀ x : State, x.refreshThresholds.mgmt.replies = x.mgmt.replies ∧ x.refreshThresholds.mgmt.sending = x.mgmt.sending :=
    fun _ => ⟨rfl, rfl⟩
  rw [(e _).1, (e _).2]
  obtain ⟨k, hk⟩ := serve_replies w 16 b
  rw [hk, serve_sending w 16 b]
  rcases hb with h | h
  · left; simp [h]
  · right; exact h

end Sys2Proof.Machine
end

