-- ==== Sys2Proof/Laws/Turns.lean ====
section
/-! SUPPORT. Searches in ring order (R64, R65, R86, R108): the order of `ringAfter`, and what a search finds first. What it holds
is `mem_ringAfter` (Laws/State.lean). -/

namespace Sys2Proof.Machine

/-- A list in ascending order of places is searched in ring order after the cursor. -/
theorem ringAfter_pairwise {α : Type} (place : α → Nat) (cursor : Option Nat) (l : List α)
    (h : l.Pairwise (fun a b => place a < place b)) :
    (ringAfter place cursor l).Pairwise (fun a b => RingBefore cursor (place a) (place b)) := by
  unfold ringAfter
  cases cursor with
  | none => exact h
  | some c =>
    simp only [RingBefore]
    rw [List.pairwise_append]
    refine ⟨?_, ?_, ?_⟩
    · refine List.Pairwise.imp_of_mem ?_ (h.filter _)
      intro a b ha _ hab
      rw [if_pos (by simpa using (List.mem_filter.1 ha).2)]
      exact Or.inr hab
    · refine List.Pairwise.imp_of_mem ?_ (h.filter _)
      intro a b ha hb hab
      have ha := (List.mem_filter.1 ha).2
      have hb := (List.mem_filter.1 hb).2
      simp only [decide_eq_true_eq] at ha hb
      rw [if_neg (by omega)]
      exact ⟨hb, hab⟩
    · intro a ha b hb
      have ha := (List.mem_filter.1 ha).2
      have hb := (List.mem_filter.1 hb).2
      simp only [decide_eq_true_eq] at ha hb
      rw [if_pos ha]
      exact Or.inl hb

/-- A search finds an element that answers, and every other element that answers comes after it. -/
theorem findSome?_first {α β : Type} (r : α → α → Prop) (f : α → Option β) (l : List α) (hl : l.Pairwise r) (b : β)
    (h : l.findSome? f = some b) : ∃ a ∈ l, f a = some b ∧ ∀ x ∈ l, (f x).isSome = true → x = a ∨ r a x := by
  induction l with
  | nil => cases h
  | cons y ys ih =>
    rw [List.pairwise_cons] at hl
    rw [List.findSome?_cons] at h
    cases hy : f y with
    | some c =>
      rw [hy] at h
      refine ⟨y, List.mem_cons_self, hy.trans h, fun x hx _ => ?_⟩
      rcases List.mem_cons.1 hx with rfl | hx
      · exact Or.inl rfl
      · exact Or.inr (hl.1 x hx)
    | none =>
      rw [hy] at h
      obtain ⟨a, ha, hab, hr⟩ := ih hl.2 h
      refine ⟨a, List.mem_cons_of_mem _ ha, hab, fun x hx hs => ?_⟩
      rcases List.mem_cons.1 hx with rfl | hx
      · rw [hy] at hs; cases hs
      · exact hr x hx hs

/-- A search whose list holds an element that answers finds one. -/
theorem findSome?_isSome {α β : Type} (f : α → Option β) (l : List α) (x : α) (hx : x ∈ l) (hs : (f x).isSome = true) :
    (l.findSome? f).isSome = true := by
  rw [List.findSome?_isSome_iff]
  exact ⟨x, hx, hs⟩

end Sys2Proof.Machine
end

