-- ==== Sys2Proof/Laws/Unpacing.lean ====
section
/-! SUPPORT. What a production of UNPACE frames does (R34, R69): for one episode, for a drain group, and that nothing is left
to unpace after it; what a count that orders a stand-down does to the port (R133, R163). -/

namespace Sys2Proof.Machine

@[simp] theorem Responder.unpace_wants (r : Responder) : r.unpace.wantsUnpace = false := by
  simp [Responder.unpace, Responder.wantsUnpace]

/-- After UNPACE nothing of the episode is left to unpace (R69). -/
@[simp] theorem Episode.unpace_frames (e : Episode) : e.unpace.unpaceFrames = [] := by
  unfold Episode.unpace Episode.unpaceFrames
  cases h : e.origin == .sighted with
  | false => simp [h]
  | true =>
    simp only [if_true]
    rw [show e.origin == Origin.sighted from h, if_pos rfl, List.map_eq_nil_iff, List.filter_eq_nil_iff]
    intro r hr
    obtain ⟨x, _, rfl⟩ := List.mem_map.1 hr
    split <;> simp_all

/-- Responders in the same place that want UNPACE or not alike leave an episode without UNPACE frames without them. -/
theorem Episode.frames_nil_of {e x : Episode} (h : e.unpaceFrames = []) (ho : x.origin = e.origin)
    (hr : ∀ r ∈ x.roster, ∃ y ∈ e.roster, y.wantsUnpace = r.wantsUnpace) : x.unpaceFrames = [] := by
  unfold Episode.unpaceFrames at *
  rw [ho]
  split at h
  case isFalse hh => rw [if_neg hh]
  case isTrue hh =>
    rw [if_pos hh]
    rw [List.map_eq_nil_iff, List.filter_eq_nil_iff] at h ⊢
    intro r hr'
    obtain ⟨y, hy, hw⟩ := hr r hr'
    rw [← hw]; exact h y hy

theorem ep?_some {s : State} {slot : Nat} {e : Episode} (h : s.ep? slot = some e) : e ∈ s.table.episodes ∧ e.slot = slot := by
  unfold State.ep? at h
  exact ⟨List.mem_of_find?_eq_some h, by simpa using List.find?_some h⟩

/-- With distinct slots, each record is found by its slot. -/
theorem ep?_of_mem {s : State} (hd : s.SlotsDistinct) {e : Episode} (h : e ∈ s.table.episodes) : s.ep? e.slot = some e := by
  unfold State.ep?
  unfold State.SlotsDistinct at hd
  generalize s.table.episodes = l at hd h
  induction l with
  | nil => cases h
  | cons x xs ih =>
    rw [List.map_cons, List.nodup_cons] at hd
    rw [List.find?_cons]
    rcases List.mem_cons.1 h with rfl | h
    · simp
    · have : x.slot ≠ e.slot := fun q => hd.1 (q ▸ List.mem_map_of_mem h)
      simp only [beq_eq_false_iff_ne.2 this]
      exact ih hd.2 h

/-- UNPACE for one record, of a table with distinct slots. -/
theorem unpaceEpisode_eq {s : State} (hd : s.SlotsDistinct) {e : Episode} (h : e ∈ s.table.episodes) :
    s.unpaceEpisode e.slot = { s.updEp e.slot Episode.unpace with sched := e.unpaceFrames.foldl Scheduler.join s.sched } := by
  unfold State.unpaceEpisode
  rw [ep?_of_mem hd h]

theorem Episode.unpace_slot (e : Episode) : e.unpace.slot = e.slot := by unfold Episode.unpace; split <;> rfl

theorem Episode.unpace_group (e : Episode) : e.unpace.key = e.key := by unfold Episode.unpace; split <;> rfl

/-- A fold of UNPACE over records of a table with distinct slots: each record named is unpaced, and the frames join record by
record. -/
theorem foldl_unpaceEpisode (l : List Episode) (s : State) (hd : s.SlotsDistinct) (hl : (l.map (fun e => e.slot)).Nodup)
    (hm : ∀ e ∈ l, e ∈ s.table.episodes) :
    (l.map (fun e => e.slot)).foldl State.unpaceEpisode s =
      { s with table := { s.table with episodes := s.table.episodes.map (fun x =>
                 if x.slot ∈ l.map (fun e => e.slot) then x.unpace else x) },
               sched := (l.flatMap Episode.unpaceFrames).foldl Scheduler.join s.sched } := by
  induction l generalizing s with
  | nil => simp
  | cons e l ih =>
    rw [List.map_cons, List.nodup_cons] at hl
    rw [List.map_cons, List.foldl_cons, unpaceEpisode_eq hd (hm e List.mem_cons_self)]
    have hslots : ∀ (t : State), t.table.episodes = (s.updEp e.slot Episode.unpace).table.episodes →
        t.table.episodes.map (fun x => x.slot) = s.table.episodes.map (fun x => x.slot) := by
      intro t ht
      rw [ht]
      simp only [State.updEp, List.map_map]
      refine List.map_congr_left (fun x _ => ?_)
      simp only [Function.comp]
      split <;> simp [Episode.unpace_slot]
    rw [ih]
    · simp only [State.updEp, List.map_map, List.flatMap_cons, List.foldl_append]
      congr 2
      refine List.map_congr_left (fun x hx => ?_)
      simp only [Function.comp]
      by_cases h : x.slot = e.slot
      · have hn : x.slot ∉ l.map (fun e => e.slot) := h ▸ hl.1
        simp [h, Episode.unpace_slot]
        intro a ha haq
        exact absurd (List.mem_map.2 ⟨a, ha, haq⟩) hl.1
      · simp [h]
    · exact (congrArg List.Nodup (hslots _ rfl)).mpr hd
    · exact hl.2
    · intro x hx
      have hne : x.slot ≠ e.slot := fun q => hl.1 (q ▸ List.mem_map_of_mem hx)
      simp only [State.updEp]
      exact List.mem_map.2 ⟨x, hm x (List.mem_cons_of_mem _ hx), by simp [hne]⟩

/-- UNPACE for a drain group, of a table with distinct slots: every episode of the group is unpaced, and the frames join
episode by episode in the order of the table (R69). -/
theorem unpaceGroup_eq (s : State) (g : Nat) (hd : s.SlotsDistinct) :
    s.unpaceGroup g =
      { s with table := { s.table with episodes := s.table.episodes.map (fun x =>
                 if x.key.group = g then x.unpace else x) },
               sched := ((s.table.episodes.filter (fun x => x.key.group == g)).flatMap Episode.unpaceFrames).foldl
                 Scheduler.join s.sched } := by
  unfold State.unpaceGroup State.groupEpisodes
  rw [foldl_unpaceEpisode _ _ hd]
  · refine congrArg (fun l => ({ s with table := { s.table with episodes := l }, sched := _ } : State)) ?_
    refine List.map_congr_left (fun x hx => ?_)
    by_cases h : x.key.group = g
    · rw [if_pos h, if_pos (List.mem_map_of_mem (List.mem_filter.2 ⟨hx, by simpa using h⟩))]
    · rw [if_neg h, if_neg]
      intro hm
      obtain ⟨y, hy, hs⟩ := List.mem_map.1 hm
      rw [List.mem_filter] at hy
      have h1 := ep?_of_mem hd hx
      rw [← hs, ep?_of_mem hd hy.1, Option.some.injEq] at h1
      exact h (h1 ▸ by simpa using hy.2)
  · exact List.Nodup.sublist (List.Sublist.map _ List.filter_sublist) hd
  · intro e he
    exact (List.mem_filter.1 he).1

/-- Slots are distinct and nothing of a drain group's episodes is left to unpace. -/
def State.Unpaced (s : State) (g : Nat) : Prop :=
  s.SlotsDistinct ∧ ∀ x ∈ s.table.episodes, x.key.group = g → x.unpaceFrames = []

theorem unpaced_of_table {s t : State} {g : Nat} (h : s.Unpaced g) (ht : t.table = s.table) : t.Unpaced g := by
  unfold State.Unpaced State.SlotsDistinct at *; rw [ht]; exact h

theorem unpaceGroup_unpaced (s : State) (g : Nat) (hd : s.SlotsDistinct) : (s.unpaceGroup g).Unpaced g := by
  rw [unpaceGroup_eq s g hd]
  refine ⟨?_, ?_⟩
  · unfold State.SlotsDistinct at *
    simp only [List.map_map]
    refine (congrArg List.Nodup (List.map_congr_left (fun x _ => ?_))).mpr hd
    simp only [Function.comp]
    split <;> simp [Episode.unpace_slot]
  · intro x hx hg
    obtain ⟨y, _, rfl⟩ := List.mem_map.1 hx
    by_cases hy : y.key.group = g
    · rw [if_pos hy]; exact Episode.unpace_frames y
    · rw [if_neg hy] at hg; exact absurd hg hy

/-- A production for a group that has nothing left to unpace makes no frame (R69). -/
theorem unpaceGroup_sched {s : State} {g : Nat} (h : s.Unpaced g) : (s.unpaceGroup g).sched = s.sched := by
  rw [unpaceGroup_eq s g h.1]
  have : (s.table.episodes.filter (fun x => x.key.group == g)).flatMap Episode.unpaceFrames = [] := by
    rw [List.flatMap_eq_nil_iff]
    intro x hx
    rw [List.mem_filter] at hx
    exact h.2 x hx.1 (by simpa using hx.2)
  simp only [this, List.foldl_nil]

/-- A record rewritten so that it keeps its slot, its key and its want of UNPACE leaves the group unpaced. -/
theorem updEp_unpaced {s : State} {g slot : Nat} {f : Episode → Episode} (h : s.Unpaced g)
    (hs : ∀ x, (f x).slot = x.slot ∧ (f x).key = x.key) (hf : ∀ x, x.unpaceFrames = [] → (f x).unpaceFrames = []) :
    (s.updEp slot f).Unpaced g := by
  refine ⟨?_, ?_⟩
  · have := h.1
    unfold State.SlotsDistinct at *
    simp only [State.updEp, List.map_map]
    refine (congrArg List.Nodup (List.map_congr_left (fun x _ => ?_))).mpr this
    simp only [Function.comp]
    split <;> simp [(hs x).1]
  · intro x hx hg
    simp only [State.updEp] at hx
    obtain ⟨y, hy, rfl⟩ := List.mem_map.1 hx
    by_cases hq : (y.slot == slot) = true
    · rw [if_pos hq] at hg ⊢
      rw [(hs y).2] at hg
      exact hf y (h.2 y hy hg)
    · rw [if_neg hq] at hg ⊢
      exact h.2 y hy hg

theorem closeIfEmpty_unpaced {s : State} {g : Nat} (slot : Nat) (h : s.Unpaced g) : (s.closeIfEmpty slot).Unpaced g := by
  unfold State.closeIfEmpty
  split
  · exact h
  · split
    · unfold State.closeEpisode
      split
      · exact h
      · rename_i e _
        exact unpaced_of_table
          (updEp_unpaced (slot := slot) (f := fun x => { x with linger := some ⟨(s.policy e.key.group).linger, false⟩ }) h
            (fun x => ⟨rfl, rfl⟩) (fun x hx => hx)) (by simp)
    · exact h

theorem afterEmptying_unpaced {s : State} {g : Nat} (slot : Nat) (h : s.Unpaced g) : (s.afterEmptying slot).Unpaced g := by
  unfold State.afterEmptying
  split
  · exact h
  · split
    · exact closeIfEmpty_unpaced _ (updEp_unpaced h (fun x => ⟨rfl, rfl⟩) (fun x hx => hx))
    · exact closeIfEmpty_unpaced _ h

theorem Episode.discard_parts (e : Episode) (p : HeldPacket) :
    (e.discard p).slot = e.slot ∧ (e.discard p).key = e.key ∧ (e.discard p).origin = e.origin ∧
      (e.discard p).roster = e.roster := by
  unfold Episode.discard Episode.uncharge
  cases p.kind <;> exact ⟨rfl, rfl, rfl, rfl⟩

theorem Episode.discardHeld_parts (e : Episode) :
    e.discardHeld.slot = e.slot ∧ e.discardHeld.key = e.key ∧ e.discardHeld.origin = e.origin ∧
      e.discardHeld.roster = e.roster := by
  unfold Episode.discardHeld
  simp only
  generalize e.holdQueue = l
  induction l generalizing e with
  | nil => exact ⟨rfl, rfl, rfl, rfl⟩
  | cons p l ih =>
    rw [List.foldl_cons]
    obtain ⟨a, b, c, d⟩ := e.discard_parts p
    obtain ⟨a', b', c', d'⟩ := ih (e.discard p)
    exact ⟨a'.trans a, b'.trans b, c'.trans c, d'.trans d⟩

/-- A teardown in a group with nothing left to unpace makes no frame and leaves nothing to unpace. -/
theorem teardown_unpaced {s : State} {g slot : Nat} {e : Episode} (discards : Bool) (h : s.Unpaced g)
    (he : s.ep? slot = some e) (hg : e.key.group = g) :
    (s.teardown slot discards).Unpaced g ∧ (s.teardown slot discards).sched = s.sched := by
  obtain ⟨hm, rfl⟩ := ep?_some he
  have hw : (s.unpaceEpisode e.slot).Unpaced g ∧ (s.unpaceEpisode e.slot).sched = s.sched := by
    rw [unpaceEpisode_eq h.1 hm, h.2 e hm hg]
    refine ⟨unpaced_of_table (s := s.updEp e.slot Episode.unpace) ?_ rfl, rfl⟩
    exact updEp_unpaced h (fun x => ⟨Episode.unpace_slot x, Episode.unpace_group x⟩) (fun x _ => Episode.unpace_frames x)
  have hwd : ((s.unpaceEpisode e.slot).updEp e.slot Episode.withdrawAll).Unpaced g := by
    refine updEp_unpaced hw.1 (fun x => ⟨rfl, rfl⟩) (fun x hx => ?_)
    refine Episode.frames_nil_of hx rfl (fun r hr => ?_)
    obtain ⟨y, hy, rfl⟩ := List.mem_map.1 hr
    refine ⟨y, hy, ?_⟩
    unfold Responder.withdraw Responder.wantsUnpace Responder.isFinal
    cases y.state <;> rfl
  unfold State.teardown
  cases discards with
  | false => exact ⟨hwd, hw.2⟩
  | true =>
    refine ⟨updEp_unpaced hwd (fun x => ⟨x.discardHeld_parts.1, x.discardHeld_parts.2.1⟩) (fun x hx => ?_), hw.2⟩
    exact Episode.frames_nil_of hx x.discardHeld_parts.2.2.1 (fun r hr => ⟨r, x.discardHeld_parts.2.2.2 ▸ hr, rfl⟩)

/-- A count in a group with nothing left to unpace makes no frame, whatever it orders (R69, R163). -/
theorem count_sched {s : State} {g : Nat} (type : EvType) (h : s.Unpaced g) : (s.count g type).sched = s.sched := by
  have hd : ∀ t : State, t.table = s.table → t.sched = s.sched → (t.standDown g).sched = s.sched := by
    intro t ht hs
    unfold State.standDown
    split
    · unfold State.enterDrainOut
      simp only [raisePortState_keeps]
      rw [unpaceGroup_sched (unpaced_of_table h (by simp [ht]))]
      simp [hs]
    · exact hs
  have hr : ∀ t : State, t.table = s.table → t.sched = s.sched → ∀ n, (t.reached g type n).sched = s.sched := by
    intro t ht hs n
    unfold State.reached
    dsimp only
    split <;> split
    · exact hd _ (by simp [ht]) (by simp [hs])
    · simp [hs]
    · exact hd _ (by simp [ht]) (by simp [hs])
    · simp [hs]
  unfold State.count
  dsimp only
  split
  · exact hr _ (by simp) (by simp) _
  · simp

theorem updMembers_portState (s : State) (g q : Nat) (f : Port → Port) (h : ∀ x, (f x).state = x.state) :
    ((s.updMembers g f).port q).state = (s.port q).state := by
  unfold State.updMembers
  refine foldl_keeps (fun t : State => (t.port q).state) _ ?_ _ _
  intro t m
  simp only [port_updPort]
  split
  · exact h _
  · rfl

theorem handStop_portState (s : State) (g q : Nat) : ((s.handStop g).port q).state = (s.port q).state := by
  unfold State.handStop
  split
  · refine foldl_keeps (fun t : State => (t.port q).state) _ ?_ _ _
    intro t m
    unfold State.port
    simp
  · exact updMembers_portState _ _ _ _ (fun _ => rfl)

theorem enterDrainOut_portState (s : State) (g : Nat) (cause : DrainCause) (hg : g < 48) :
    ((s.enterDrainOut g cause).port g).state = .drainOut := by
  unfold State.enterDrainOut
  dsimp only
  generalize hw : s.updPort g (fun p => { p with state := .drainOut, drainCause := some cause }) = w
  have h : ∀ t : State, ((t.unpaceGroup g).port g).state = (t.port g).state := by
    intro t; unfold State.port; rw [(unpaceGroup_keeps t g).2.2.2.2.2.2.2.2.2.1]
  rw [h, handStop_portState]
  refine (updMembers_portState w g g (fun p => { p with stoppedSeen := false }) (fun _ => rfl)).trans ?_
  rw [← hw, port_updPort, if_pos ⟨rfl, hg⟩]

/-- An ACTIVE group that stands down is in DRAIN_OUT; any other is left in its state (R133). -/
theorem standDown_portState (s : State) (g : Nat) (hg : g < 48) :
    ((s.standDown g).port g).state = if (s.port g).state = .active then .drainOut else (s.port g).state := by
  unfold State.standDown
  by_cases ha : (s.port g).state = .active
  · rw [if_pos (by simpa using ha), if_pos ha]
    have hports : ∀ t u : State, t.ports = u.ports → (t.port g).state = (u.port g).state := by
      intro t u h; unfold State.port; rw [h]
    rw [hports _ (s.enterDrainOut g .standDown) (by simp only [raisePortState_keeps])]
    exact enterDrainOut_portState s g .standDown hg
  · rw [if_neg (by simpa using ha), if_neg ha]

/-- One more event of a type takes the group into DRAIN_OUT where `State.standsDownAt` says so, and otherwise leaves its port's
state (R133, R163). -/
theorem count_portState (s : State) (g : Nat) (type : EvType) (hg : g < 48) :
    ((s.count g type).port g).state = if s.standsDownAt g type then .drainOut else (s.port g).state := by
  have hports : ∀ t : State, t.ports = s.ports → (t.port g).state = (s.port g).state ∧ t.policy g = s.policy g := by
    intro t h; unfold State.policy State.port; rw [h]; exact ⟨rfl, rfl⟩
  have hr : ∀ t : State, t.ports = s.ports → ∀ n, ((t.reached g type n).port g).state =
      if protects (s.policy g).protect type && (s.port g).state == .active then .drainOut else (s.port g).state := by
    intro t ht n
    have hu : ∀ u : State, u.ports = s.ports →
        ((if protects (u.policy g).protect type then u.standDown g else u).port g).state =
          if protects (s.policy g).protect type && (s.port g).state == .active then .drainOut else (s.port g).state := by
      intro u h
      obtain ⟨h1, h2⟩ := hports u h
      rw [h2]
      cases protects (s.policy g).protect type
      · simpa using h1
      · simp only [if_true, standDown_portState u g hg, h1, Bool.true_and, beq_iff_eq]
    unfold State.reached
    dsimp only
    split
    · exact hu _ (by simp [ht])
    · exact hu _ (by simp [ht])
  unfold State.count State.standsDownAt
  dsimp only
  cases hq : reachesThreshold (s.policy g).mode (vget (s.counterSet g).counts type.index 0) s.counters.threshold with
  | true =>
    rw [if_pos rfl, hr _ (by simp)]
    rw [Bool.and_true, Bool.and_comm]
  | false =>
    simp only [Bool.and_false, Bool.false_eq_true, if_false]
    exact (hports _ (by simp)).1

end Sys2Proof.Machine
end

