-- ==== Sys2Proof/Tests/Slice0.lean ====
section
/-! SUPPORT. Tests of the model: well-formedness with an ill-formed term for each check, the tests of the commands in their
order at the ends of their ranges, the worked examples of the manual, and a state that meets the hypotheses of each statement. -/

open Sys2Proof Sys2Proof.Machine

namespace Sys2Proof.Tests

set_option Elab.async false

/-! ### Well-formed commands -/

theorem test_wellFormed_bytes :
    Instr.wellFormed (.frameReceived []) = false ∧ Instr.wellFormed (.frameReceived [0x5A]) = true := by decide

theorem test_wellFormed_commitRate : Instr.wellFormed (.commitRate 0 (List.replicate 49 12)) = false ∧
    Instr.wellFormed (.commitRate 0 (List.replicate 48 12)) = true := by decide

theorem test_wellFormed_grantExpiry_slot :
    Instr.wellFormed (.grantTimerExpiry 1024 0 1) = false ∧ Instr.wellFormed (.grantTimerExpiry 1023 63 65535) = true := by decide

theorem test_wellFormed_grantExpiry_position : Instr.wellFormed (.grantTimerExpiry 0 64 1) = false := by decide

theorem test_wellFormed_grantExpiry_number :
    Instr.wellFormed (.grantTimerExpiry 0 0 0) = false ∧ Instr.wellFormed (.grantTimerExpiry 0 0 65536) = false := by decide

theorem test_wellFormed_deadline :
    Instr.wellFormed (.deadlineExpiry 1024) = false ∧ Instr.wellFormed (.deadlineExpiry 1023) = true := by decide

theorem test_wellFormed_idle :
    Instr.wellFormed (.idleExpiry 1024) = false ∧ Instr.wellFormed (.idleExpiry 0) = true := by decide

theorem test_wellFormed_linger :
    Instr.wellFormed (.lingerExpiry 1024) = false ∧ Instr.wellFormed (.lingerExpiry 0) = true := by decide

theorem test_wellFormed_alignment :
    Instr.wellFormed (.alignmentWord 0) = false ∧ Instr.wellFormed (.alignmentWord 8) = true := by decide

theorem test_wellFormed_marker :
    Instr.wellFormed (.laneMarkerWord 0) = false ∧ Instr.wellFormed (.laneMarkerWord 1) = true := by decide

theorem test_wellFormed_payload :
    Instr.wellFormed (.payloadWord true 1 (List.replicate 27 0)) = false ∧
      Instr.wellFormed (.payloadWord true 1 (List.replicate 28 0)) = true := by decide

theorem test_wellFormed_releaseRead :
    Instr.wellFormed (.releaseReadComplete 290 false) = false ∧ Instr.wellFormed (.releaseReadComplete 289 true) = true := by decide

theorem test_wellFormed_captureRead :
    Instr.wellFormed (.captureReadComplete 290 false) = false ∧ Instr.wellFormed (.captureReadComplete 0 true) = true := by decide

/-! ### Small states -/

/-- The part after store initialisation, its READY notice sent. -/
def readyPart : State :=
  { State.reset with store := Store.powerOn false, mgmt := { Mgmt.powerOn with ready := true } }

/-- The same with the link UP and no egress-full flag set. -/
def upPart : State :=
  { readyPart with link := { readyPart.link with state := .up, established := some ⟨7, 4, 40, 9216⟩, egressFull := 0 } }

/-- A port put in a state. -/
def portIn (p : Nat) (state : PortState) (s : State) : State := s.updPort p (fun x => { x with state := state })

/-- A SIGHTED episode of port 12 in a slot and a state, as creation leaves it (R6). -/
def episodeIn (slot : Nat) (state : EpState) : Episode :=
  { slot := slot, key := ⟨12, 7, 9⟩, origin := .sighted, state := state, halted := false, expired := false, damaged := false,
    closeReason := none, cls := 1, report := true, n := some 4, e := none, reservation := 256, heldOwn := 0, borrowed := 0,
    holdQueue := [], inFlight := false, roster := [], rosterCursor := none, unlisted := ⟨0, 0⟩, finished := 0,
    deadline := some ⟨40, 40, false⟩, idle := none, linger := none, arrived := ⟨0, 0⟩, released := ⟨0, 0⟩,
    trimmed := ⟨0, 0⟩, discarded := ⟨0, 0⟩ }

/-- The part with these episodes and no other. -/
def holdingEpisodes (l : List Episode) (s : State) : State := { s with table := { s.table with episodes := l } }

/-- A held packet of 1,024 bytes of the episode in a slot, of generation 0. -/
def packetOf (slot : Nat) : HeldPacket := ⟨⟨slot, 0⟩, 3, 1024, 1, .own, [], [0, 1, 2, 3]⟩

/-- The next state of a command, if it answers one. -/
def next (c : Instr) (s : State) : Option State :=
  match exec c s with
  | .next t => some t
  | .fault _ => none
  | .refused _ => none

/-- The refusal of an effect, or none if the command is accepted. -/
def refused : Performed → Option Status
  | .refuse status => some status
  | .ok _ _ => none
  | .held => none
  | .accepted => none

/-- The state an effect leaves, if it accepts the command. -/
def left : Performed → Option State
  | .refuse _ => none
  | .ok s _ => some s
  | .held => none
  | .accepted => none

/-- What an effect answers beside OK, if it accepts the command. -/
def answered : Performed → Option ReplyBody
  | .refuse _ => none
  | .ok _ b => some b
  | .held => none
  | .accepted => none

/-! ### Hypotheses that are met: the engine, the queue, the reset input -/

/-- A part before READY takes a command, a ready one performs every command. -/
theorem test_serves_met : TakesCommand State.reset ∧ State.reset.mgmt.ready = false ∧ Serves readyPart := by decide +kernel

/-- The frames of the two DISABLE_PORT rows and of SET_THRESHOLD (Table 11-2), and a mode that is not defined. -/
theorem test_frames_of_rows :
    frameOf? (.disablePortDrain 0x5C 12) = some ⟨5, 0x5C, [12, 0]⟩ ∧ frameOf? (.disablePortFlush 0x5C 12) = some ⟨5, 0x5C, [12, 1]⟩ ∧
    frameOf? (.setThreshold 1 3) = some ⟨21, 1, [3]⟩ ∧ (2 : Byte) ≠ 0 ∧ (2 : Byte) ≠ 1 := by decide

/-- A row of the host is taken, performed and answered in its own event (R173). -/
theorem test_row_performs : (next (.setThreshold 0x5C 3) readyPart).map (fun t => (t.counters.threshold, t.mgmt.sending)) =
    some (3, some (.reply ⟨0x5C, kindSetThreshold, .ok, .number 255⟩)) := by decide +kernel

theorem test_emptyQueue : State.reset.pending = [] ∧ Runs State.reset := ⟨rfl, rfl⟩

theorem test_heldInReset : (State.powerOn true).inReset = true ∧ (Instr.pacerTick ≠ .resetInputAssert ∧
    Instr.pacerTick ≠ .resetInputRelease) := ⟨rfl, by decide⟩

theorem test_step_takesTheFront : step { State.reset with pending := [.idleWord, .relink 0] } =
    exec .idleWord { State.reset with pending := [.relink 0] } := rfl

theorem test_resetInputAssert : (next .resetInputAssert upPart).map (fun t => (t.inReset, t.link.state)) = some (true, .down) := by
  decide +kernel

theorem test_resetInputRelease : (next .resetInputRelease (State.powerOn true)).map (fun t => (t.inReset, t.link.state,
    t.store.initialising)) = some (false, .aligning, true) := by decide +kernel

/-- The part whose ACCEPTED reply is being sent, a command waiting. -/
def resettingPart : State := { readyPart with mgmt := { readyPart.mgmt with
  engine := .resetting, sending := some (.reply ⟨1, kindResetPart, .accepted, .nothing⟩), commands := [⟨kindRelink, 2, []⟩] } }

theorem test_resetEvent_met : Runs resettingPart ∧ resettingPart.mgmt.engine = .resetting ∧
    resettingPart.mgmt.sending = some (.reply ⟨1, kindResetPart, .accepted, .nothing⟩) ∧
    resettingPart.mgmt.replies.length + resettingPart.mgmt.owed.length + resettingPart.mgmt.commands.length ≤ 16 :=
  ⟨rfl, rfl, rfl, by decide⟩

theorem test_resetEvent_answers : (next .transmitComplete resettingPart).map (fun t => (t.mgmt.sending, t.mgmt.commands, t.link.state)) =
    some (some (.reply ⟨2, kindRelink, .notReady, .nothing⟩), [], .aligning) := by decide +kernel

theorem test_quiet_met : (∀ g, (State.reset.port g).state ≠ .drainOut ∧ (State.reset.port g).state ≠ .active) ∧
    State.reset.link.state ≠ .up ∧ State.reset.store.initialising = true ∧ State.reset.mgmt.engine = .idle ∧
    State.reset.mgmt.commands = [] ∧ State.reset.mgmt.owed = [] ∧ State.reset.mgmt.pendingErrors = 0 ∧
    State.reset.mgmt.busyBacklog = [] ∧ State.reset.mgmt.replies = [] ∧ State.reset.mgmt.notices = [] ∧
    State.reset.evThresholds = [] := by
  refine ⟨fun g => ?_, by decide, rfl, rfl, rfl, rfl, rfl, rfl, rfl, rfl, rfl⟩
  have : (State.reset.port g).state = .disabled := by
    show (vget (Vector.replicate 48 Port.powerOn) g Port.powerOn).state = _
    unfold vget
    split <;> simp [Port.powerOn]
  simp [this]

/-! ### The management link -/

/-- The frame of SET_THRESHOLD(3) with tag 1 is taken whole and queued; with a wrong CRC it is discarded. -/
theorem test_framer_takesAFrame :
    (scanFrames 8 (Frame.encode ⟨kindSetThreshold, 1, [3]⟩)).found = [some ⟨kindSetThreshold, 1, [3]⟩] ∧
      (scanFrames 8 [0x5A, 0x15, 1, 0, 1, 3, 0, 0]).found = [none] := by decide +kernel

/-- CRC-16 with all ones at the start, polynomial x^16 + x^12 + x^5 + 1: the check value of "123456789" is 29B1h. -/
theorem test_crc : crc16 [0x31, 0x32, 0x33, 0x34, 0x35, 0x36, 0x37, 0x38, 0x39] = 0x29B1 := by decide +kernel

/-- The bytes after a discarded frame's start byte are taken again: a whole frame among them is accepted (R169). -/
theorem test_framer_rescans :
    (scanFrames 20 ([0x5A, 0x1A, 1, 0, 7] ++ Frame.encode ⟨kindRelink, 2, []⟩ ++ [0, 0])).found =
      [none, some ⟨kindRelink, 2, []⟩] := by decide +kernel

theorem test_frameReceived_met : Runs readyPart ∧ readyPart.mgmt.framer = [] ∧
    (⟨kindRelink, 0, []⟩ : Frame).body.length ≤ 1024 ∧ ((0x01 : Byte) ≠ 0x5A ∧ (0x04 : Byte) ≠ 0x5A) ∧
    1024 < (0x04 : Byte).toNat * 256 + (0x01 : Byte).toNat ∧
    (0 : Byte).toNat * 256 + (0 : Byte).toNat ≠ (crc16 ([0x15, 1] ++ toBe 2 ([3] : List Byte).length ++ [3])).toNat ∧
    6 < (Frame.encode ⟨kindRelink, 0, []⟩).length := by decide +kernel

/-- A frame joins the queue at 7 commands and is refused with BUSY at 8; the head is of no effect on it (R171). -/
theorem test_frame_queue_ends :
    let f : Frame := ⟨kindRelink, 3, []⟩
    let m (n : Nat) := ({ Mgmt.powerOn with commands := List.replicate n ⟨kindIdentify, 1, []⟩ }).acceptFrame f
    ((m 7).commands.length, (m 7).busyCount, (m 8).commands.length, (m 8).busyCount, (m 8).busyBacklog) =
      (8, 0, 8, 1, [⟨3, kindRelink, 1⟩]) := by decide +kernel

/-- A part that is not ready, with 15 replies waiting and one command. -/
def oneCommand (kind : Byte) (body : List Byte) : State :=
  { State.reset with mgmt := { Mgmt.powerOn with replies := List.replicate 15 ⟨0, 0, .ok, .nothing⟩, commands := [⟨kind, 1, body⟩] } }

/-- The engine's outcomes in the order of the checks: kinds 0 and 27, a wrong length, not ready, performed (R173). -/
theorem test_engine_outcomes :
    let status (kind : Byte) (body : List Byte) := (oneCommand kind body).give.mgmt.replies.getLast?.map (fun r => r.status)
    status 0 [] = some .badKind ∧ status 27 [] = some .badKind ∧ status kindSetPool [0, 0] = some .badLength ∧
    status kindSetPool [0, 0, 0] = some .notReady ∧ status kindRelink [] = some .ok ∧
    (oneCommand kindRelink []).give.mgmt.commands = [] := by decide +kernel

theorem test_give_met :
    (oneCommand 0 []).mgmt.engine = .idle ∧ (oneCommand 0 []).mgmt.owed = [] ∧ (oneCommand 0 []).mgmt.replies.length < 16 ∧
    (resettingPart.mgmt.engine ≠ .idle ∨ resettingPart.mgmt.commands = []) ∧
    resettingPart.mgmt.replies.length + resettingPart.mgmt.reserved < 16 := by decide +kernel

theorem test_transmit_met : let s := { readyPart with mgmt := { readyPart.mgmt with
      sending := some (.notice (.tableFull .table) false), replies := [⟨1, kindRelink, .ok, .nothing⟩] } }
    Runs s ∧ s.mgmt.sending = some (.notice (.tableFull .table) false) ∧ s.mgmt.engine ≠ .resetting := by decide +kernel

/-- While RESET_PART waits for its ACCEPTED reply, a notice and an earlier reply are completed as ever (R177, R180). -/
theorem test_transmit_met_resetting :
    let accepted : Reply := ⟨1, kindResetPart, .accepted, .nothing⟩
    let waiting (x : TxFrame) : State := { resettingPart with mgmt := { resettingPart.mgmt with sending := some x, replies := [accepted] } }
    let ends (x : TxFrame) := (next .transmitComplete (waiting x)).map (fun t => (t.mgmt.sending, t.mgmt.engine == .resetting))
    (Runs (waiting (.notice (.tableFull .table) false)) ∧ resettingPart.mgmt.engine = .resetting) ∧
    ends (.notice (.tableFull .table) false) = some (some (.reply accepted), true) ∧
    ends (.reply ⟨2, kindRelink, .ok, .nothing⟩) = some (some (.reply accepted), true) := by
  refine ⟨⟨rfl, rfl⟩, ?_⟩
  decide +kernel

/-- A notice is begun with its notices-dropped flag, and the overflow mark is cleared (R179, R180). -/
theorem test_transmit_notice :
    let t := { readyPart with mgmt := { readyPart.mgmt with notices := [.tableFull .table], overflow := true } }.transmit
    t.mgmt.sending = some (.notice (.tableFull .table) true) ∧ t.mgmt.overflow = false ∧ t.mgmt.notices = [] := by decide +kernel

/-- A BUSY refusal of a new tag, and of one in the backlog (R171). -/
theorem test_busyBacklog :
    addBusy ⟨6, 2, []⟩ [⟨1, 4, 1⟩] = [⟨1, 4, 1⟩, ⟨2, 6, 1⟩] ∧
    addBusy ⟨6, 2, []⟩ [⟨1, 4, 1⟩, ⟨2, 5, 3⟩, ⟨3, 4, 1⟩] = [⟨1, 4, 1⟩, ⟨2, 6, 4⟩, ⟨3, 4, 1⟩] := by decide +kernel

/-- The three ways of a raised notice: in place, at the tail, and dropped at a queue of 256. -/
theorem test_notice_ways :
    let other : Notice := .clockState .fallback
    let old : Notice := .tableFull .table
    let full := List.replicate 256 other
    ({ Mgmt.powerOn with notices := [old, other] }.raise (.tableFull .store)).notices = [.tableFull .store, other] ∧
    ({ Mgmt.powerOn with notices := List.replicate 255 other }.raise old).notices.length = 256 ∧
    ({ Mgmt.powerOn with notices := full }.raise old).overflow = true := by decide +kernel

/-! ### Ports -/

/-- The 18 bytes of the default policy record (Table 6-2, Table 11-3). -/
def defaultRecord : List Byte :=
  [0, 0x10, 0x00, 2, 4, 0x04, 0x00, 0x10, 0x00, 40, 25, 8, 4, 0, 1, 1, 0, 0]

theorem test_policyRecord : Policy.default.encode = defaultRecord ∧ policyAt (12 :: defaultRecord) 1 = some Policy.default := by
  decide +kernel

/-- One field of the default record outside Table 6-2, one undefined code, and mask bits 6 and 7 (R124, R183). -/
theorem test_policyRecord_bounds :
    let answers (i : Nat) (b : Byte) := (policyAt (defaultRecord.set i b) 0).isSome
    ([(0, 2), (1, 0), (1, 0x25), (3, 0), (3, 16), (4, 65), (5, 0x41), (9, 0), (12, 0), (13, 2), (14, 3), (15, 2), (16, 2), (17, 64),
      (17, 128)] : List (Nat × Byte)).all (fun x => !answers x.1 x.2) = true ∧
    ([(1, 1), (1, 0x24), (3, 15), (4, 64), (5, 0x40), (9, 255), (14, 2), (17, 63)] : List (Nat × Byte)).all
      (fun x => answers x.1 x.2) = true := by decide +kernel

theorem test_setPort_order :
    refused (setPortEffect (48 :: defaultRecord) readyPart) = some .badValue ∧
    refused (setPortEffect (47 :: defaultRecord) readyPart) = none ∧
    refused (setPortEffect (12 :: defaultRecord) (portIn 12 .starting readyPart)) = some .wrongState ∧
    refused (setPortEffect (12 :: 2 :: defaultRecord.drop 1) readyPart) = some .badValue ∧
    refused (setPortEffect (13 :: 1 :: defaultRecord.drop 1) readyPart) = some .badValue ∧
    refused (setPortEffect (12 :: 1 :: defaultRecord.drop 1) (portIn 13 .active readyPart)) = some .wrongState := by
  decide +kernel

/-- A bond is formed and dissolved; its odd port is refused while it stands (R125). -/
theorem test_setPort_bond :
    let formed := (left (setPortEffect (12 :: 1 :: defaultRecord.drop 1) readyPart)).getD readyPart
    (formed.port 12).role = .pairEven ∧ (formed.port 13).role = .pairOdd ∧ formed.members 12 = [12, 13] ∧
    refused (setPortEffect (13 :: defaultRecord) formed) = some .wrongPort ∧
    (left (setPortEffect (12 :: defaultRecord) formed)).map (fun t => ((t.port 12).role, (t.port 13).role)) =
      some (.single, .single) := by decide +kernel

/-- The rate that lets a port be enabled. -/
def rated (p : Nat) (s : State) : State := s.updPacer p (fun x => { x with rate := ⟨24, 3, 8⟩ })

theorem test_enablePort_order :
    refused (enablePortEffect [48] readyPart) = some .badValue ∧
    refused (enablePortEffect [12] (portIn 12 .active readyPart)) = some .wrongState ∧
    refused (enablePortEffect [12] (portIn 12 .faulted readyPart)) = some .faultPending ∧
    refused (enablePortEffect [12] readyPart) = some .noRate ∧
    refused (enablePortEffect [12] (rated 12 readyPart)) = none := by decide +kernel

theorem test_enablePort_hands : (left (enablePortEffect [12] (rated 12 upPart))).map (fun t =>
    ((t.port 12).state, t.link.control)) = some (.starting, [⟨true, 12⟩]) := by decide +kernel

theorem test_controlWords_met : upPart.link.state = .up ∧ upPart.members 47 = [47] ∧ upPart.link.control.Nodup ∧
    readyPart.link.state ≠ .up := by decide +kernel

/-- Words handed join the tail behind those already queued, and one already there is not queued again (R153). -/
theorem test_controlWords_tail :
    let pair := upPart.updPort 12 (fun p => { p with role := .pairEven })
    let queued : State := { pair with link := { pair.link with control := [⟨true, 3⟩, ⟨true, 13⟩] } }
    (queued.handStart 12).link.control = [⟨true, 3⟩, ⟨true, 13⟩, ⟨true, 12⟩] ∧
    (queued.handStop 12).link.control = [⟨true, 3⟩, ⟨true, 13⟩, ⟨false, 12⟩, ⟨false, 13⟩] := by decide +kernel

theorem test_disableDrain_order :
    refused (disableDrainEffect [12, 2] (portIn 12 .active upPart)) = some .badValue ∧
    refused (disableDrainEffect [13, 2] (upPart.updPort 13 (fun p => { p with role := .pairOdd }))) = some .wrongPort ∧
    refused (disableDrainEffect [12, 0] upPart) = some .wrongState ∧
    refused (disableDrainEffect [12, 0] (portIn 12 .drainOut upPart)) = some .wrongState ∧
    (left (disableDrainEffect [12, 0] (portIn 12 .active upPart))).map (fun t => ((t.port 12).drainCause, t.link.control)) =
      some (some .host, [⟨false, 12⟩]) := by decide +kernel

theorem test_disableFlush_aborts :
    (left (disableFlushEffect [12, 1] (holdingEpisodes [episodeIn 0 .active] (portIn 12 .drainOut upPart)))).map (fun t =>
      ((t.port 12).drainCause, t.table.episodes.map (fun e => (e.state, e.closeReason, e.linger)))) =
      some (some .flush, [(.linger, some .aborted, some ⟨8, false⟩)]) := by decide +kernel

theorem test_resumePort : (answered (resumePortEffect [12] (readyPart.updPort 12 (fun x => { x with suspended := true })))) =
    some (.flag true) ∧ refused (resumePortEffect [48] readyPart) = some .badValue := by decide +kernel

theorem test_portStatus_readsAFault : (left (portStatusEffect [12] (portIn 12 .faulted readyPart))).map (fun t =>
    (t.port 12).clearing) = some .statusRead ∧ refused (portStatusEffect [48] readyPart) = some .badValue := by decide +kernel

/-! ### Rates -/

theorem test_setRate_order :
    refused (setRateEffect [12, 24, 0, 3, 0, 8, 0, 0x40, 0, 0, 0] readyPart) = none ∧
    refused (setRateEffect [12, 24, 0, 0, 0, 0, 0, 0x40, 0, 0, 0] readyPart) = some .badValue ∧
    refused (setRateEffect [12, 24, 0, 8, 0, 8, 0, 0x40, 0, 0, 0] readyPart) = some .badValue ∧
    refused (setRateEffect [12, 24, 0, 3, 0, 8, 0x03, 0xFF, 0xFF, 2, 1] readyPart) = none ∧
    refused (setRateEffect [12, 24, 0, 3, 0, 8, 0x04, 0x00, 0x00, 0, 0] readyPart) = some .badValue ∧
    refused (setRateEffect [12, 24, 0, 3, 0, 8, 0, 0x40, 0, 3, 0] readyPart) = some .badValue ∧
    refused (setRateEffect [12, 24, 0, 3, 0, 8, 0, 0x40, 0, 0, 2] readyPart) = some .badValue := by decide +kernel

theorem test_commitRate :
    let waiting := readyPart.updPacer 12 (fun x => { x with pending := some ⟨⟨1, 0, 1⟩, 16384, .onCommit, .keep⟩ })
    refused (commitRateEffect [] waiting) = some .badValue ∧ refused (commitRateEffect [12, 48] waiting) = some .badValue ∧
    refused (commitRateEffect [11] waiting) = some .wrongState ∧
    answered (commitRateEffect [12, 11, 12] waiting) = some (.ports [12]) := by decide +kernel

theorem test_rateStatus : refused (rateStatusEffect [48] readyPart) = some .badValue ∧
    refused (rateStatusEffect [47] { readyPart with time := ⟨some .reference, 0⟩ }) = none := by decide +kernel

/-- Table 5-2: the remainders of eight ticks at 24 + 3/8 bytes per tick, and the 195 bytes they add. -/
theorem test_pacer_eightTicks :
    let p := { Pacer.powerOn with rate := ⟨24, 3, 8⟩ }
    let ticks := (List.range 9).map (fun n => (List.replicate n ()).foldl (fun p _ => Pacer.accrue p) p)
    ticks.map (fun p => p.remainder) = [0, 3, 6, 1, 4, 7, 2, 5, 0] ∧
    ticks.map (fun p => p.releaseCredit) = [0, 24, 48, 73, 97, 121, 146, 170, 195] := by decide +kernel

/-- Section 5.10: SET_RATE with KEEP, its application and the accrual of the same tick. -/
theorem test_pacer_keep :
    let r : PendingRate := ⟨⟨30, 1, 4⟩, 8192, .now, .keep⟩
    let p := { Pacer.powerOn with rate := ⟨24, 3, 8⟩, pending := some r, releaseCredit := 9000, grantCredit := -3000, remainder := 5 }
    let applied := p.applyRate r
    (applied.releaseCredit, applied.grantCredit, applied.remainder) = (8192, -3000, 0) ∧
    (applied.accrue.releaseCredit, applied.accrue.grantCredit, applied.accrue.remainder) = (8192, -2970, 1) := by decide +kernel

/-- The same under RESET. -/
theorem test_pacer_reset :
    let r : PendingRate := ⟨⟨30, 1, 4⟩, 8192, .now, .reset⟩
    let p := { Pacer.powerOn with rate := ⟨24, 3, 8⟩, pending := some r, releaseCredit := 9000, grantCredit := -3000, remainder := 5 }
    ((p.applyRate r).accrue.releaseCredit, (p.applyRate r).accrue.grantCredit, (p.applyRate r).accrue.remainder) =
      (30, 30, 1) := by decide +kernel

theorem test_pacerTick_met : let s := { readyPart with time := ⟨some .fallback, 31999⟩ }
    Runs s ∧ s.time.clock.isSome = true ∧ (s.time.ticks + 1) % 2000 = 0 ∧ (s.time.ticks + 1) % 32000 = 0 := by decide +kernel

theorem test_clock_met : readyPart.time.clock = none ∧ Runs State.reset ∧ State.reset.packetsWithCells = [] ∧ State.reset.store.initialising = true ∧
    ({ readyPart with time := ⟨some .reference, 0⟩ } : State).time.clock = some .reference := by decide +kernel

theorem test_rateApplication_met :
    let r : PendingRate := ⟨⟨30, 1, 4⟩, 8192, .now, .keep⟩
    let s := readyPart.updPacer 47 (fun x => { x with pending := some r, releaseCredit := -9215, grantCredit := -589823 })
    (s.pacer 47).pending = some r ∧ -9215 ≤ (s.pacer 47).releaseCredit ∧ -589823 ≤ (s.pacer 47).grantCredit := by decide +kernel

/-- Nothing is counted and no rate applies before the start decision (R121). -/
theorem test_pacerTick_before : (next .pacerTick readyPart).map (fun t => t.time.ticks) = some 0 := by decide +kernel

theorem test_clockStartDecision : (next (.clockStartDecision false) State.reset).map (fun t => (t.time.clock, t.mgmt.sending)) =
    some (some .fallback, some (.notice (.clockState .fallback) false)) := by decide +kernel

/-! ### Episodes -/

theorem test_listEpisodes :
    let s := holdingEpisodes [episodeIn 3 .active, episodeIn 7 .linger] readyPart
    answered (listEpisodesEffect [12, 0, 4] s) = some (.handles [⟨7, 0⟩] 1024) ∧
    answered (listEpisodesEffect [12, 0x04, 0x00] s) = some (.handles [] 1024) ∧
    refused (listEpisodesEffect [12, 0x04, 0x01] s) = some .badValue := by decide +kernel

/-- 32 handles and the slot after the last; a handle is slot and generation, and another generation is stale (R2, R29). -/
theorem test_handles :
    let many := holdingEpisodes ((List.range 33).map (fun n => episodeIn n .linger)) readyPart
    (answered (listEpisodesEffect [12, 0, 0] many)).map (fun r => match r with | .handles l n => (l.length, n) | _ => (0, 0)) =
      some (32, 32) ∧
    handleAt (Handle.encode ⟨1023, 63⟩) 0 = ⟨1023, 63⟩ ∧ (many.live? ⟨5, 0⟩).isSome = true ∧ (many.live? ⟨5, 1⟩).isSome = false := by
  decide +kernel

theorem test_episodeStatus : refused (episodeStatusEffect [0, 0] readyPart) = some .staleHandle ∧
    refused (episodeStatusEffect [0, 0] (holdingEpisodes [episodeIn 0 .linger] readyPart)) = none := by decide +kernel

theorem test_halt : refused (haltEffect true [0, 0] (holdingEpisodes [episodeIn 0 .linger] readyPart)) = some .wrongState ∧
    (left (haltEffect true [0, 0] (holdingEpisodes [episodeIn 0 .draining] readyPart))).map (fun t =>
      t.table.episodes.map (fun e => e.halted)) = some [true] := by decide +kernel

theorem test_resume : (left (haltEffect false [0, 0] (holdingEpisodes [{ episodeIn 0 .armed with halted := true }] readyPart))).map
    (fun t => t.table.episodes.map (fun e => e.halted)) = some [false] := by decide +kernel

theorem test_abort : (left (abortEffect [0, 0] (holdingEpisodes [{ episodeIn 0 .active with
      holdQueue := [packetOf 0], heldOwn := 4 }] readyPart))).map (fun t =>
    t.table.episodes.map (fun e => (e.state, e.heldOwn, e.discarded, e.linger))) =
    some [(.linger, 0, ⟨1, 1024⟩, some ⟨8, false⟩)] := by decide +kernel

theorem test_extendDeadline :
    let counting (v : Nat) := holdingEpisodes [{ episodeIn 0 .armed with deadline := some ⟨v, 41, false⟩ }] readyPart
    refused (extendEffect [0, 0, 0] (counting 20)) = some .badValue ∧ refused (extendEffect [0, 0, 5] (counting 21)) = some .early ∧
    answered (extendEffect [0, 0, 5] (counting 20)) = some (.number 5) ∧
    refused (extendEffect [0, 0, 5] (holdingEpisodes [episodeIn 0 .draining] readyPart)) = some .wrongState := by decide +kernel

theorem test_addReservation :
    let s := holdingEpisodes [episodeIn 0 .active] readyPart
    refused (addReservationEffect [0, 0, 0, 0] s) = some .badValue ∧
    refused (addReservationEffect [0, 0, 0x40, 0x01] s) = some .badValue ∧
    answered (addReservationEffect [0, 0, 0x40, 0x00] s) = some (.number 16640) ∧
    refused (addReservationEffect [0, 0, 0, 1] (s.setFloor 2097152)) = some .noSpace ∧
    (let near := holdingEpisodes [{ episodeIn 0 .active with reservation := 65534 }] readyPart
     answered (addReservationEffect [0, 0, 0, 1] near) = some (.number 65535) ∧
     refused (addReservationEffect [0, 0, 0, 2] near) = some .badValue) := by decide +kernel

theorem test_discard_met : (episodeIn 0 .active).discarded.packets ≤ 4294967295 := by decide

/-- The staging fill with each place that holds room, an open packet without room apart (R150). -/
theorem test_stagingFill :
    let o (staged : Bool) : Option OpenPacket := some ⟨⟨12, 1, 1000, 7, 3, 9, 1⟩, staged, 0, []⟩
    let p (length : Nat) : PassPacket := ⟨⟨12, 1, length, 7, 3, 9, 1⟩, []⟩
    let s (staged : Bool) : State := { upPart with
      link := { upPart.link with openPacket := o staged, sending := some (.passed (p 200)), passList := [p 300, p 64] }
      store := { upPart.store with writeList := [packetOf 0], transfer := .write (packetOf 1) } }
    (s true).stagingFill = 1000 + 200 + 364 + 1024 + 1024 ∧ (s false).stagingFill = 200 + 364 + 1024 + 1024 := by decide +kernel

/-- A sighting at the ends of N and of the ports, of a group that is not ACTIVE, with tag 0, and a duplicate (R5, R8, R148). -/
theorem test_sighting_ways :
    let s := portIn 12 .active upPart
    let seen (port n : Nat) (tag : Half) (u : State) :=
      let t := u.sightingWord port ⟨⟨0, 7, tag⟩, n, none, 1, true⟩
      (t.table.episodes.length, t.link.ignoredSightings)
    seen 12 64 9 s = (1, 0) ∧ seen 12 65 9 s = (0, 1) ∧ seen 12 0 9 s = (0, 1) ∧ seen 12 1 0 s = (0, 1) ∧
    seen 11 1 9 s = (0, 1) ∧ seen 40 1 9 s = (0, 1) ∧ seen 12 1 9 (holdingEpisodes [episodeIn 0 .armed] s) = (1, 1) ∧
    seen 12 1 9 (holdingEpisodes [episodeIn 0 .linger] s) = (1, 0) := by decide +kernel

theorem test_sighting_met : Runs upPart ∧ upPart.link.state = .up ∧ upPart.link.openPacket = none := ⟨rfl, rfl, rfl⟩

/-- The slot of a new record: the lowest FREE one, before, between and behind the slots in use (R6). -/
theorem test_freeSlot :
    let free (slots : List Nat) := (holdingEpisodes (slots.map (fun n => episodeIn n .armed)) upPart).freeSlot?
    free [] = some 0 ∧ free [0, 1, 1023] = some 2 ∧ free [1, 2] = some 0 := by decide +kernel

/-- With every slot in use there is none (R6). -/
theorem test_freeSlot_none :
    (holdingEpisodes ((List.range 1024).map (fun n => episodeIn n .armed)) upPart).freeSlot? = none := by
  simp [State.freeSlot?, State.ep?, holdingEpisodes, episodeIn, Config.slotCount]

/-- The claim: the policy's reservation, less when the room is smaller but at least 16 cells, refused below (R6, R7). -/
theorem test_sighting_claim :
    let a : Announcement := ⟨⟨12, 7, 9⟩, 4, none, 1, true⟩
    let claims (floor : Nat) := ((upPart.setFloor floor).createSighted a).table
    (claims 524288).episodes.map (fun e => e.reservation) = [1024] ∧
    (claims (2097152 - 16)).episodes.map (fun e => e.reservation) = [16] ∧
    ((claims (2097152 - 15)).episodes.length, (claims (2097152 - 15)).refusing) = (0, true) := by decide +kernel

theorem test_deadline_met :
    let e (st : EpState) := { episodeIn 0 st with deadline := some ⟨1, 40, true⟩ }
    let s (st : EpState) := holdingEpisodes [e st] readyPart
    Runs (s .armed) ∧ DeadlineDue (s .armed) 0 (e .armed) ∧ DeadlineDue (s .active) 0 (e .active) := by decide +kernel

theorem test_deadlineExpiry : ((holdingEpisodes [{ episodeIn 0 .active with deadline := some ⟨1, 40, true⟩ }] readyPart).takeDeadline
    0).table.episodes.map (fun e => (e.state, e.expired, e.deadline.isNone)) = [(.linger, true, true)] := by decide +kernel

/-- An ARMED expiry, and an ACTIVE one under DISCARD, whose held packet is discarded (R18, R21). -/
theorem test_deadlineExpiry_discards :
    let due (st : EpState) : Episode := { episodeIn 0 st with deadline := some ⟨1, 40, true⟩, heldOwn := 4, holdQueue := [packetOf 0] }
    let s (e : Episode) := (holdingEpisodes [e] readyPart).updPort 12 (fun p => { p with policy := { p.policy with expiry := .discard } })
    ((s (due .active)).takeDeadline 0).table.episodes.map (fun e => (e.state, e.heldOwn, e.discarded, e.closeReason)) =
      [(.linger, 0, ⟨1, 1024⟩, some .expired)] ∧
    ((s { due .armed with heldOwn := 0, holdQueue := [] }).takeDeadline 0).table.episodes.map (fun e => (e.state, e.linger)) =
      [(.linger, some ⟨8, false⟩)] ∧
    vget (((s (due .active)).takeDeadline 0).counterSet 12).counts 5 0 = 1 := by decide +kernel

/-- An episode completes at its N: DRAINING with a packet held, LINGER and closed without (R11, R13). -/
theorem test_completion :
    let done (held : Nat) := (holdingEpisodes [{ episodeIn 0 .active with finished := 4, heldOwn := held }] readyPart).testCompletion 0
    (done 1).table.episodes.map (fun e => (e.state, e.deadline, e.linger)) = [(.draining, none, none)] ∧
    (done 0).table.episodes.map (fun e => (e.state, e.closeReason, e.linger)) = [(.linger, some .completed, some ⟨8, false⟩)] ∧
    (done 0).mgmt.notices.length = 1 := by decide +kernel

theorem test_idle_linger_met :
    let a := { episodeIn 0 .active with idle := some ⟨1, true⟩ }
    let l := { episodeIn 0 .linger with linger := some ⟨1, true⟩ }
    (holdingEpisodes [a] readyPart).ep? 0 = some a ∧ (holdingEpisodes [l] readyPart).ep? 0 = some l := by decide +kernel

theorem test_idleExpiry : ((holdingEpisodes [{ episodeIn 0 .active with idle := some ⟨1, true⟩, heldOwn := 1 }] readyPart).takeIdle
    0).table.episodes.map (fun e => (e.state, e.idle)) = [(.draining, none)] := by decide +kernel

theorem test_lingerExpiry :
    let t := (holdingEpisodes [{ episodeIn 0 .linger with linger := some ⟨1, true⟩ }] readyPart).takeLinger 0
    t.table.episodes = [] ∧ t.generation 0 = 1 ∧ t.generation 1 = 0 := by decide +kernel

/-- Two ACTIVE episodes of port 12 with a responder each, of which the one in slot 5 has its deadline due, and EXPIRE protected
with T at 1. -/
def standingDown (action : ExpiryAction) : State :=
  let r (n : Endpoint) : Responder := ⟨n, .waiting, 0, [], 1, 0, false, 0⟩
  let s := (portIn 12 .active upPart).updPort 12 (fun p => { p with policy := { p.policy with protect := 32, expiry := action } })
  { holdingEpisodes [{ episodeIn 2 .active with key := ⟨12, 8, 9⟩, roster := [r 4] },
      { episodeIn 5 .active with deadline := some ⟨1, 40, true⟩, roster := [r 3] }] s with
    counters := { s.counters with threshold := 1 } }

/-- The expiry's EXPIRE count stands the port down, and the frames of the event are in slot order, one a responder (R69, R163). -/
theorem test_deadlineExpiry_framesInSlotOrder :
    let t (action : ExpiryAction) := (standingDown action).takeDeadline 5
    (t .drain).sched.queue = [⟨4, 8, 9, 1, 0⟩, ⟨3, 7, 9, 1, 0⟩] ∧ (t .discard).sched.queue = [⟨4, 8, 9, 1, 0⟩, ⟨3, 7, 9, 1, 0⟩] ∧
    ((t .drain).port 12).state = .drainOut ∧ (t .drain).table.episodes.map (fun e => e.state) = [.active, .linger] := by
  decide +kernel

theorem test_standsDown_met : (standingDown .drain).SlotsDistinct ∧ ((standingDown .drain).port 12).state = .active ∧
    protects ((standingDown .drain).policy 12).protect .expire = true ∧
    reachesThreshold ((standingDown .drain).policy 12).mode (vget ((standingDown .drain).counterSet 12).counts 5 0)
      (standingDown .drain).counters.threshold = true ∧
    ((standingDown .drain).ep? 5).map (fun e => (e.state, e.key.group)) = some (.active, 12) := by
  unfold State.SlotsDistinct
  decide +kernel

/-- A due deadline that was reloaded to 2 or more lowers the new value (R22); at 1 it expires. -/
theorem test_deadlineExpiry_reloaded :
    let t (value : Nat) := ((holdingEpisodes [{ episodeIn 0 .active with deadline := some ⟨value, 40, true⟩ }] readyPart).takeDeadline
      0).table.episodes.map (fun e => (e.state, e.deadline))
    t 2 = [(.active, some ⟨1, 40, false⟩)] ∧ t 1 = [(.linger, none)] := by decide +kernel

/-! ### Grants: the decisions of section 3.9 -/

/-- A responder that waits for a grant. -/
def waiting (endpoint : Endpoint) : Responder := ⟨endpoint, .waiting, 0, [], 1, 0, false, 0⟩

/-- Episode H of section 3.9, class 0. -/
def episodeH : Episode := { episodeIn 12 .active with
  key := ⟨30, 1, 1⟩, cls := 0, reservation := 64, heldOwn := 48, roster := [waiting 0xD] }

/-- Episode P of section 3.9, class 1. -/
def episodeP : Episode := { episodeIn 5 .active with
  key := ⟨30, 2, 1⟩, cls := 1, reservation := 256, heldOwn := 32, roster := [waiting 0xA, waiting 0xB] }

/-- Episode Q of section 3.9, class 1. -/
def episodeQ : Episode := { episodeIn 9 .active with
  key := ⟨30, 3, 1⟩, cls := 1, reservation := 128, heldOwn := 40, e := some 10,
  roster := [{ waiting 0xC with packetsArrived := 8 }] }

/-- The drain group of section 3.9. -/
def group30 : State :=
  (holdingEpisodes [episodeP, episodeQ, episodeH] ((portIn 30 .active readyPart).updPort 30 (fun p =>
    { p with policy := { p.policy with mtu := 1024 } }))).updPacer 30 (fun p => { p with rate := ⟨12, 0, 1⟩, grantCredit := 10000 })

/-- The decision ready for port 30, made. -/
def decided (s : State) : State := ((s.decision? 30).map (fun c => s.makeGrant 30 c)).getD s

/-- Table 3-3: the first three decisions and the credit that each leaves. -/
theorem test_grants_firstThree :
    group30.decision? 30 = some ⟨12, 0, 4⟩ ∧ (decided group30).decision? 30 = some ⟨5, 0, 4⟩ ∧
    (decided (decided group30)).decision? 30 = some ⟨9, 0, 2⟩ ∧
    ((decided (decided (decided group30))).pacer 30).grantCredit = -240 ∧
    (decided (decided (decided group30))).decision? 30 = none := by decide +kernel

/-- Table 3-4: decisions 4 and 5, at the credits the ticks have brought. -/
theorem test_grants_laterTwo :
    let credited (n : Int) (s : State) := s.updPacer 30 (fun p => { p with grantCredit := n })
    let four := credited 12 (decided (decided (decided group30)))
    let five := credited 8 (decided four)
    four.decision? 30 = some ⟨5, 1, 4⟩ ∧ ((decided four).pacer 30).grantCredit = -4084 ∧
    five.decision? 30 = some ⟨5, 0, 4⟩ ∧ (decided five).sched.queue.map (fun f => (f.responder, f.number, f.count)) =
      [(0xD, 1, 4), (0xA, 1, 4), (0xC, 1, 2), (0xB, 1, 4), (0xA, 2, 4)] := by decide +kernel

/-- The turns at their ends: after the cursor, wrapping, and the cursor's own place last (R64, R65, R108). -/
theorem test_ringBefore_ends : RingBefore none 0 1 ∧ RingBefore (some 5) 9 5 ∧ RingBefore (some 5) 6 0 ∧ RingBefore (some 5) 0 5 ∧
    ¬ RingBefore (some 5) 5 0 ∧ ¬ RingBefore (some 5) 5 6 := by
  unfold RingBefore
  decide

/-- The records of group 30 stand in slot order, its conditions hold, and it has a candidate of class 0. -/
theorem test_decision_met : group30.SlotOrder ∧ (group30.port 30).state = .active ∧ 0 < (group30.pacer 30).grantCredit ∧
    group30.sched.backlog = [] ∧ group30.sched.queue.length < 512 ∧ (group30.decision? 30).isSome = true ∧
    episodeH.heldOwn + group30.k 30 * (episodeH.granted + 4) ≤ episodeH.reservation ∧ episodeH.cls = 0 := by decide +kernel

/-- With the class cursor at slot 5 the turn is slot 9's; with it at 9, slot 5's again (R64). -/
theorem test_grants_turn :
    let turn (c : Nat) := ({ holdingEpisodes [episodeP, episodeQ] group30 with sched := { group30.sched with
      classCursors := vupd group30.sched.classCursors 30 (fun v => vupd v 1 (fun _ => some c)) } }).decision? 30
    turn 4 = some ⟨5, 0, 4⟩ ∧ turn 5 = some ⟨9, 0, 2⟩ ∧ turn 9 = some ⟨5, 0, 4⟩ := by decide +kernel

theorem test_grant_recorded_met : group30.ep? 12 = some episodeH ∧ episodeH.roster[0]? = some (waiting 0xD) := by decide +kernel

/-- Table 2-4, steps 8 to 10: an expired grant leaves a strike, the third retires. -/
theorem test_grantTimerExpiry :
    let r (strikes : Nat) : Responder := ⟨3, .granted, 0, [⟨3, 4, 1, true⟩], 4, strikes, false, 4⟩
    let s (strikes : Nat) := holdingEpisodes [{ episodeIn 0 .active with roster := [r strikes] }] readyPart
    let after (strikes : Nat) := ((s strikes).expireGrant 0 0 3).table.episodes.map (fun e =>
      (e.roster.map (fun x => (x.state, x.strikes, x.grants.length)), e.finished))
    after 1 = [([(.waiting, 2, 0)], 0)] ∧ after 2 = [([(.retired, 3, 0)], 1)] ∧
    vget (((s 2).expireGrant 0 0 3).counterSet 12).counts 4 0 = 1 := by decide +kernel

theorem test_grantDue_met :
    let r : Responder := ⟨3, .granted, 0, [⟨3, 4, 1, true⟩], 4, 2, false, 4⟩
    let e := { episodeIn 0 .active with roster := [r] }
    GrantDue (holdingEpisodes [e] readyPart) 0 0 3 e r := by decide +kernel

/-- The grant queue's last place, the backlog, and the frame that moves up (R70). -/
theorem test_unpace_order :
    let f (n : Nat) : GrantFrame := ⟨1, 2, 3, n, 0⟩
    let c : Scheduler := { Scheduler.powerOn with queue := List.replicate 511 (f 1) }
    (c.join (f 2)).queue.length = 512 ∧ ((c.join (f 2)).join (f 3)).backlog = [f 3] ∧
    ((c.join (f 2)).join (f 3)).sendHead.backlog = [] ∧ (((c.join (f 2)).join (f 3)).sendHead.queue.getLast?) = some (f 3) := by
  decide +kernel

/-- UNPACE is produced for the responders that wait, with their next grant number and the count 0 (R34, R69). -/
theorem test_unpace_produced :
    let e : Episode := { episodeIn 0 .active with roster := [{ waiting 1 with nextNumber := 6, grants := [⟨5, 4, 9, false⟩], state := .granted },
      { waiting 2 with state := .finished }, { waiting 3 with unpaced := true }] }
    let t := (holdingEpisodes [e, { episodeIn 1 .active with origin := .adopted, roster := [waiting 4] }] readyPart).unpaceGroup 12
    t.sched.queue = [⟨1, 7, 9, 6, 0⟩] ∧
    t.table.episodes.map (fun x => x.roster.map (fun r => (r.unpaced, r.grants.length))) =
      [[(true, 0), (false, 0), (true, 0)], [(false, 0)]] := by decide +kernel

/-! ### Packets -/

/-- A packet of the episode's key for port 12, of 1,024 bytes, from endpoint 3, with a pace header. -/
def arrivalOf (length : Nat) (grant : Half) : Arrival := ⟨⟨12, 1, length, 7, 3, 9, grant⟩, [], 12⟩

theorem test_descriptor_ends :
    let d (length port : Nat) : Descriptor := ⟨port, 0, length, 7, 3, 0, 0⟩
    let staged (x : Descriptor) (u : State) := (u.takeDescriptor x).link.openPacket.map (fun o => o.staged)
    let filled (n : Nat) : State := { upPart with link := { upPart.link with passList := [⟨d n 12, []⟩] } }
    staged (d 64 39) upPart = some true ∧ staged (d 63 12) upPart = some false ∧ staged (d 9216 12) upPart = some true ∧
    staged (d 9217 12) upPart = some false ∧ staged (d 64 40) upPart = some false ∧
    staged (d 64 12) (filled (196608 - 64)) = some true ∧ staged (d 64 12) (filled (196608 - 63)) = some false ∧
    ((filled (147456 - 64)).takeDescriptor (d 64 12)).link.paused = true ∧
    ((filled (147456 - 65)).takeDescriptor (d 64 12)).link.paused = false := by decide +kernel

/-- Payload words: none open, a count beyond 28, the total short of and at the length (R149, R185). -/
theorem test_payload_ways :
    let o : OpenPacket := ⟨⟨12, 0, 64, 7, 3, 0, 0⟩, true, 56, []⟩
    let s := { upPart with link := { upPart.link with openPacket := some o } }
    let data : List Byte := List.replicate 28 0
    (upPart.takePayload true 8 data).link.rejectedWords = 1 ∧
    (s.takePayload true 29 data).link.discards = 1 ∧ (s.takePayload true 7 data).link.discards = 1 ∧
    (s.takePayload true 7 data).link.openPacket.isNone = true ∧
    (s.takePayload false 29 data).link.openPacket.map (fun x => x.staged) = some false ∧
    (s.takePayload false 8 data).link.openPacket.map (fun x => x.received) = some 64 ∧
    (s.takePayload true 8 data).link.openPacket.isNone = true := by decide +kernel

/-- A port that expects no diverts is faulted; one that does passes an unmatched packet or adopts it (R9, R129, R134). -/
theorem test_dispatch_ways :
    let d : Descriptor := ⟨12, 0, 64, 7, 3, 0, 0⟩
    ((upPart.arrive d []).port 12).state = .faulted ∧ (upPart.arrive d []).link.passList.length = 1 ∧
    ((portIn 12 .active upPart).arrive d []).table.episodes.map (fun e => (e.origin, e.state)) = [(.adopted, .active)] ∧
    ((portIn 12 .drainOut upPart).arrive d []).table.episodes = [] := by decide +kernel

/-- The part resumes the switch at 49,152 bytes and not above (R151). -/
theorem test_resume_ends :
    let paused (n : Nat) : State := { upPart with link := { upPart.link with paused := true, passList := [⟨⟨12, 0, n, 7, 3, 0, 0⟩, []⟩] } }
    (paused 49152).resumeCheck.out = [.resume] ∧ (paused 49152).resumeCheck.link.paused = false ∧
    (paused 49153).resumeCheck.out = [] ∧ (paused 49153).resumeCheck.link.paused = true := by decide +kernel

/-- A responder is entered while fewer than N stand in the roster; in DRAIN_OUT it is entered unpaced with its frame (R36, R38). -/
theorem test_enter_ways :
    let e : Episode := { episodeIn 0 .active with n := some 2, roster := [waiting 1] }
    let rosterOf (s : State) := s.table.episodes.map (fun x => x.roster.map (fun r => (r.endpoint, r.state, r.unpaced)))
    let s (st : PortState) := holdingEpisodes [e] (portIn 12 st upPart)
    rosterOf ((s .active).enter 0 (arrivalOf 64 0)) = [[(1, .waiting, false), (3, .opening, false)]] ∧
    rosterOf ((s .drainOut).enter 0 (arrivalOf 64 0)) = [[(1, .waiting, false), (3, .waiting, true)]] ∧
    ((s .drainOut).enter 0 (arrivalOf 64 0)).sched.queue = [⟨3, 7, 9, 1, 0⟩] ∧
    rosterOf ((holdingEpisodes [{ e with n := some 1 }] upPart).enter 0 (arrivalOf 64 0)) = [[(1, .waiting, false)]] := by
  decide +kernel

/-- An arrival makes an ARMED episode ACTIVE, and its last flag finishes the sender and at N = 1 the episode (R10, R47, R11). -/
theorem test_arrival_completes :
    let s := holdingEpisodes [{ episodeIn 0 .armed with n := some 1 }] (portIn 12 .active upPart)
    let t (flags : Byte) := (s.arriveSighted 0 ⟨⟨12, flags, 64, 7, 3, 9, 0⟩, [], 12⟩).table.episodes.map (fun e => (e.state, e.finished, e.heldOwn))
    t 1 = [(.active, 0, 1)] ∧ t 3 = [(.draining, 1, 1)] := by decide +kernel

theorem test_notes_met : (∀ r ∈ (episodeIn 0 .active).roster, r.endpoint ≠ (3 : Endpoint)) ∧
    (episodeIn 0 .active).unlisted.packets < 4294967295 ∧ (episodeIn 0 .active).unlisted.bytes + 9216 < 4294967296 := by decide

theorem test_judgement_order :
    let r : Responder := { waiting 3 with grants := [⟨5, 4, 9, false⟩], state := .granted, allowance := 1 }
    judge r 4096 4097 5 = .overrun ∧ judge { r with state := .finished } 4096 4096 5 = .overrun ∧
    judge { r with unpaced := true } 4096 4096 5 = .unpaced ∧ judge r 4096 4096 0 = .opening ∧
    judge { r with allowance := 0 } 4096 4096 0 = .overAllowance ∧ judge r 4096 4096 5 = .cited 5 ∧
    judge r 4096 4096 6 = .stray := by decide

/-- Borrowed at the cap, trimmed past it (R49, R50). -/
theorem test_borrowOrTrim_ends :
    let s (borrowed : Nat) := holdingEpisodes [{ episodeIn 0 .active with borrowed := borrowed }] upPart
    let kept (borrowed : Nat) := ((s borrowed).borrowOrTrim 0 (arrivalOf 1024 0) true)
    (kept 4092).store.writeList.length = 1 ∧ (kept 4092).link.stubs.length = 0 ∧
    (kept 4093).store.writeList.length = 0 ∧ (kept 4093).link.stubs.length = 1 ∧
    vget ((kept 4093).counterSet 12).counts 2 0 = 1 := by decide +kernel

theorem test_borrowOrTrim_met : (holdingEpisodes [episodeIn 0 .active] upPart).ep? 0 = some (episodeIn 0 .active) := by
  decide +kernel

/-! ### The store -/

/-- A CAPTURE is refused for a stale handle; an empty hold queue is answered at its grant, in the same event (R95, R96). -/
theorem test_capture :
    (next (.capture 0x5C 0) readyPart).map (fun t => t.mgmt.sending) =
      some (some (.reply ⟨0x5C, kindCapture, .staleHandle, .nothing⟩)) ∧
    (next (.capture 0x5C 0) (holdingEpisodes [episodeIn 0 .linger] readyPart)).map (fun t => t.mgmt.sending) =
      some (some (.reply ⟨0x5C, kindCapture, .empty, .nothing⟩)) := by decide +kernel

theorem test_captureRead_met :
    let s := { readyPart with store := { readyPart.store with transfer := .capture ⟨packetOf 0, 1⟩ },
                              mgmt := { readyPart.mgmt with engine := .capturing 9 ⟨0, 0⟩ } }
    Runs s ∧ s.store.transfer = .capture ⟨packetOf 0, 1⟩ ∧ s.mgmt.engine = .capturing 9 ⟨0, 0⟩ := ⟨rfl, rfl, rfl⟩

/-- DATA_ERROR leaves the corrected count as it was, OK raises it (R92, R96). -/
theorem test_captureRead_counts :
    let s := { readyPart with store := { readyPart.store with transfer := .capture ⟨packetOf 0, 1⟩ },
                              mgmt := { readyPart.mgmt with engine := .capturing 9 ⟨0, 0⟩ } }
    (next (.captureReadComplete 2 true) s).map (fun t => t.store.corrected) = some 0 ∧
    (next (.captureReadComplete 2 false) s).map (fun t => t.store.corrected) = some 2 := by decide +kernel

/-- A write's grant chains the cells of its packet, none of them in use (R73, R80). -/
theorem test_grantWrite :
    let used : Episode := { episodeIn 0 .active with holdQueue := [packetOf 0] }
    let s := holdingEpisodes [used] { readyPart with store := { readyPart.store with writeList := [{ packetOf 0 with chain := [] }] } }
    s.writerWaits = true ∧ s.usedCells = [0, 1, 2, 3] ∧ s.store.writeList = [{ packetOf 0 with chain := [] }] ∧
    ∀ x ∈ s.packetsWithCells, x.chain.length = cellsOf x.length := by decide +kernel

/-- The reader serves the group after its cursor, and the released-packet queue must have a place (R86). -/
theorem test_readerGroup :
    let s := (upPart.setRelease 12 (some ⟨packetOf 0, false⟩)).setRelease 47 (some ⟨packetOf 0, false⟩)
    let at' (c : Option Nat) (n : Nat) : State := { s with store := { s.store with
      groupCursor := c, released := List.replicate n ⟨12, 1, 2, 64, []⟩ } }
    (at' none 15).readerGroup? = some 12 ∧ (at' (some 12) 0).readerGroup? = some 47 ∧ (at' (some 47) 0).readerGroup? = some 12 ∧
    (at' none 16).readerGroup? = none := by decide +kernel

theorem test_setPool : answered (setPoolEffect [0x20, 0x00, 0x00] readyPart) = some (.pool 2097152 0) ∧
    refused (setPoolEffect [0x20, 0x00, 0x01] readyPart) = some .badValue := by decide +kernel

theorem test_storeStatus : (answered (storeStatusEffect [] readyPart)).map (fun r => match r with
    | .store x => (x.freeCells, x.claimableRoom, x.freeEntries)
    | _ => (0, 0, 0)) = some (2097152, 1572864, 16384) := by decide +kernel

/-- The cases of R85 at their limits. -/
theorem test_storeArbiter_cases :
    arbiterChoice true true true 16 0 none = some .capture ∧ arbiterChoice true true true 15 98304 (some .writer) = some .writer ∧
    arbiterChoice true true false 0 98303 (some .writer) = some .reader ∧ arbiterChoice true true false 0 0 none = some .writer ∧
    arbiterChoice false false true 0 0 none = some .capture ∧ arbiterChoice false false false 16 0 none = none := by decide

/-- The arbiter at the end of an event: nothing under a transfer or with nobody waiting, the choice of R85 at a transfer's end,
and one of those that have come to wait together at an idle DRAM (R84). -/
theorem test_storeArbiter_grants :
    let waiting : Store := { readyPart.store with writeList := [{ packetOf 0 with chain := [] }] }
    let writer : State := { readyPart with store := waiting }
    let both : State := { writer with store := { waiting with
      lastServed := some .writer, releases := vupd waiting.releases 12 (fun _ => some ⟨packetOf 0, false⟩) } }
    let busy : State := { writer with store := { waiting with transfer := .release 12 } }
    busy.store.transfer ≠ .none ∧ (busy.storeArbiter false).store.writeList.length = 1 ∧
    readyPart.store.transfer = .none ∧ readyPart.requesters = [] ∧ (readyPart.storeArbiter true).store.transfer = .none ∧
    writer.store.transfer = .none ∧ writer.requesters = [.writer] ∧ (writer.storeArbiter true).store.lastServed = some .writer ∧
    both.store.transfer = .none ∧ both.requesters = [.writer, .reader] ∧
    (both.storeArbiter false).store.lastServed = some .reader := by decide +kernel

/-- A write completes: held, discarded, or orphaned (R81). -/
theorem test_storeWriteComplete :
    let s (l : List Episode) := holdingEpisodes l { readyPart with store := { readyPart.store with transfer := .write (packetOf 0) } }
    (s [episodeIn 0 .active]).finishWrite.table.episodes.map (fun e => e.holdQueue.length) = [1] ∧
    (s [{ episodeIn 0 .linger with heldOwn := 4 }]).finishWrite.table.episodes.map (fun e => (e.heldOwn, e.linger)) =
      [(0, some ⟨8, false⟩)] ∧
    (s []).finishWrite.store.transfer = .none := by decide +kernel

/-- A group with a release in flight whose read the DRAM does. -/
def releasing (l : List Episode) : State :=
  holdingEpisodes l { (upPart.setRelease 12 (some ⟨packetOf 0, true⟩)) with
    store := { (upPart.setRelease 12 (some ⟨packetOf 0, true⟩)).store with transfer := .release 12 } }

/-- A release read completes: released, discarded with an uncorrectable error, orphaned (R89, R93). -/
theorem test_releaseReadComplete :
    let e := { episodeIn 0 .active with inFlight := true, heldOwn := 4 }
    ((releasing [e]).finishRead 2 false).store.released.length = 1 ∧ ((releasing [e]).finishRead 2 false).store.corrected = 2 ∧
    (((releasing [e]).finishRead 0 true).port 12).suspended = true ∧
    ((releasing [e]).finishRead 0 true).table.episodes.map (fun x => (x.heldOwn, x.damaged, x.discarded.packets)) = [(0, true, 1)] ∧
    ((releasing []).finishRead 0 false).store.released.length = 0 := by decide +kernel

theorem test_releaseRead_met : Runs (releasing []) ∧ (releasing []).store.transfer = .release 12 ∧
    (releasing []).release? 12 = some ⟨packetOf 0, true⟩ := by decide +kernel

theorem test_storeWrite_met : let s := { readyPart with store := { readyPart.store with transfer := .write (packetOf 0) } }
    Runs s ∧ s.store.transfer = .write (packetOf 0) := ⟨rfl, rfl⟩

/-- A suspension is told once (R93, R136). -/
theorem test_suspend : (upPart.suspend 12).mgmt.notices.map Notice.key = [.portState 12] ∧
    ((upPart.suspend 12).suspend 12).mgmt.notices.length = 1 ∧ ((upPart.suspend 12).port 12).suspended = true := by decide +kernel

/-- A release begins at a credit of 1 and leaves −1,023; none begins at 0 (R104, R107). -/
theorem test_release_begins :
    let s (credit : Int) := holdingEpisodes [{ episodeIn 0 .active with holdQueue := [packetOf 0] }]
      (upPart.updPacer 12 (fun p => { p with releaseCredit := credit }))
    ((s 1).beginRelease 12).release? 12 = some ⟨packetOf 0, false⟩ ∧ (((s 1).beginRelease 12).pacer 12).releaseCredit = -1023 ∧
    ((s 0).beginRelease 12).release? 12 = none ∧ (s 1).release? 12 = none := by decide +kernel

/-- The head leaves the hold queue, the in-flight flag and the class's release cursor are set, and the next slot has the next
turn (R88, R108). -/
theorem test_release_turns :
    let s := holdingEpisodes [{ episodeIn 0 .active with holdQueue := [packetOf 0, packetOf 0] },
        { episodeIn 3 .draining with holdQueue := [packetOf 3] }] (upPart.updPacer 12 (fun p => { p with releaseCredit := 9000 }))
    let t := s.beginRelease 12
    s.SlotOrder ∧ (s.releaseChoice? 12).map (fun e => e.slot) = some 0 ∧
    t.table.episodes.map (fun e => (e.holdQueue.length, e.inFlight)) = [(1, true), (1, false)] ∧
    vget (t.pacer 12).cursors 1 none = some 0 ∧ t.releaseChoice? 12 = none ∧
    ((t.setRelease 12 none).releaseChoice? 12).map (fun e => e.slot) = some 3 := by decide +kernel

theorem test_storeInitComplete : (next .storeInitComplete State.reset).map (fun t => (t.mgmt.ready, t.store.initialising,
    t.freeCells)) = some (true, false, 2097152) := by decide +kernel

/-! ### The counters -/

/-- The part with one count of port 12 at a value, T at a value and a mode. -/
def counted (n threshold : Nat) (mode : CounterMode) (protect : BitVec 6) : State :=
  let s := (portIn 12 .active readyPart).updPort 12 (fun p => { p with policy := { p.policy with mode := mode, protect := protect } })
  { s.updCounters 12 (fun c => { c with counts := vupd c.counts 1 (fun _ => n) }) with
    counters := { (s.updCounters 12 (fun c => { c with counts := vupd c.counts 1 (fun _ => n) })).counters with threshold := threshold } }

theorem test_counts_atTheTop :
    let old (s : State) := vget (s.counterSet 12).counts 1 0
    old ((counted 254 255 .hold 0).count 12 .stray) = 255 ∧ old ((counted 255 255 .hold 0).count 12 .stray) = 255 ∧
    old ((counted 255 255 .wrap 0).count 12 .stray) = 0 ∧ old ((counted 254 9 .wrap 0).count 12 .stray) = 255 ∧
    ((counted 255 255 .hold 0).count 12 .stray).mgmt.notices = [] := by decide +kernel

/-- Section 8.7, step 3: the third STRAY tells and stands the port down. -/
theorem test_counts_threshold :
    let t := (counted 2 3 .hold 2).count 12 .stray
    vget (t.counterSet 12).marks 1 false = true ∧ (t.port 12).state = .drainOut ∧ (t.port 12).drainCause = some .standDown ∧
    t.mgmt.notices.map Notice.key = [.threshold 12 .stray, .portState 12] ∧
    ((counted 1 3 .hold 2).count 12 .stray).mgmt.notices = [] := by decide +kernel

/-- The stand-down's DRAIN_OUT: with the link UP its STOP_DIVERT is handed and awaited, and else the marker counts as seen; the
suspended flag is told as it stands (R126, R133, R140). -/
theorem test_standDown_notice :
    let stands (link : LinkState) : State :=
      let s := (counted 2 3 .hold 2).updPort 12 (fun p => { p with suspended := true, stoppedSeen := true })
      { s with link := { s.link with state := link } }.count 12 .stray
    ((stands .up).link.control, ((stands .up).port 12).stoppedSeen, (stands .up).mgmt.notices.getLast?) =
      ([⟨false, 12⟩], false, some (.portState ⟨12, .standDown, .drainOut, true, true, none⟩)) ∧
    ((stands .aligning).link.control, ((stands .aligning).port 12).stoppedSeen, (stands .aligning).mgmt.notices.getLast?) =
      ([], true, some (.portState ⟨12, .standDown, .drainOut, true, false, none⟩)) := by decide +kernel

theorem test_counterCommands :
    refused (readCountersEffect [48] readyPart) = some .badValue ∧ refused (readCountersEffect [47] readyPart) = none ∧
    (left (clearCountersEffect [12] (counted 7 9 .hold 0))).map (fun t => (t.counterSet 12, t.counters.threshold)) =
      some (CounterSet.zero, 9) ∧
    refused (setThresholdEffect [0] readyPart) = some .badValue ∧
    answered (setThresholdEffect [1] readyPart) = some (.number 255) := by decide +kernel

/-- Rows that can be, on a part between frames with no command waiting, answer; and a COMMIT_RATE of more than 48 ports cannot be. -/
theorem test_otherCommands_met : readyPart.mgmt.framer = [] ∧ readyPart.mgmt.commands = [] ∧
    (∀ i ∈ [Instr.setRate 1 12 0 0 1 1 0 0, .commitRate 1 (List.replicate 48 12), .relink 1, .pacerTick, .idleWord],
      i.wellFormed = true ∧ (next i readyPart).isSome = true) ∧
    Instr.wellFormed (.commitRate 1 (List.replicate 1025 12)) = false := by
  refine ⟨rfl, rfl, ?_, by decide +kernel⟩
  decide +kernel

/-! ### The divert link -/

/-- The word of section 7.7's parameter block: type 08h, identifier 7, 4 lanes, 40 ports, 9,216 bytes, checksum 33h. -/
theorem test_word_parameterBlock :
    commandOfWord ([0x08, 0x00, 0x07, 0x04, 0x28, 0x24, 0x00, 0x33] ++ List.replicate 24 0) = .parameterBlock 7 4 40 9216 0x33 := by
  decide +kernel

theorem test_word_packet :
    commandOfWord ([0x01, 12, 0x03, 0x04, 0x00, 0, 0, 0, 7, 0, 0, 0, 3, 0, 9, 0, 5] ++ List.replicate 15 0) =
      .packetDescriptor 12 3 1024 7 3 9 5 := by decide +kernel

theorem test_word_sighting :
    commandOfWord ([0x03, 12, 0, 0, 0, 7, 0, 9, 4, 0, 10, 0x05] ++ List.replicate 20 0) = .sighting 12 7 9 4 10 1 true := by
  decide +kernel

theorem test_word_status :
    commandOfWord ([0x05, 0, 0x10, 0, 0, 0, 0x80] ++ List.replicate 25 0) = .statusWord (BitVec.ofNat 48 (2 ^ 12 + 2 ^ 47)) := by
  decide +kernel

theorem test_word_marker :
    commandOfWord ([0x04, 0x01, 12] ++ List.replicate 29 0) = .divertStarted 12 ∧
      commandOfWord ([0x04, 0x03, 12] ++ List.replicate 29 0) = .unknownTypeWord true ∧
      commandOfWord (0x09 :: List.replicate 31 0) = .unknownTypeWord false := by decide +kernel

/-- The part in a link state with every lane's counts given. -/
def lanesAt (state : LinkState) (lane : Lane) : State :=
  { readyPart with link := { readyPart.link with state := state, lanes := Vector.replicate 4 lane } }

theorem test_laneStates_met : Runs (lanesAt .aligning Lane.zero) ∧ (lanesAt .deskew Lane.zero).link.state = .deskew ∧
    Runs (lanesAt .params Lane.zero) ∧ Runs (lanesAt .up ⟨0, 3, 0, none⟩) ∧ (lanesAt .down Lane.zero).link.state = .down :=
  ⟨rfl, rfl, rfl, rfl, rfl⟩

/-- Alignment runs of 15 reach DESKEW with the next word on all lanes, and not with three (R143). -/
theorem test_alignmentWord :
    ((lanesAt .aligning ⟨15, 0, 0, none⟩).alignmentWord 15).link.state = .deskew ∧
    ((lanesAt .aligning ⟨15, 0, 0, none⟩).alignmentWord 7).link.state = .aligning := by decide +kernel

/-- The last marker within the skew brings PARAMS; a fifth word after a marker returns to ALIGNING (R144). -/
theorem test_laneMarkerWord :
    let s (n : Nat) : State := { readyPart with link := { readyPart.link with
      state := .deskew, lanes := #v[⟨16, 0, 0, some n⟩, ⟨16, 0, 0, some n⟩, ⟨16, 0, 0, some n⟩, ⟨16, 0, 0, none⟩] } }
    ((s 4).laneMarkerWord 8).link.state = .params ∧ ((s 4).laneMarkerWord 7).link.state = .aligning ∧
    ((s 3).laneMarkerWord 7).link.state = .deskew := by decide +kernel

/-- The fourth framing error in a row on a lane takes the link to ALIGNING, from UP as a loss (R142, R147). -/
theorem test_framingError :
    ((lanesAt .up ⟨0, 2, 0, none⟩).framingError 3).link.state = .up ∧
    ((lanesAt .up ⟨0, 3, 0, none⟩).framingError 3).link.state = .aligning ∧
    ((lanesAt .up ⟨0, 3, 0, none⟩).framingError 3).link.loss = true ∧
    ((lanesAt .params ⟨0, 3, 0, none⟩).framingError 0).link.loss = false ∧
    ((lanesAt .aligning ⟨9, 0, 0, none⟩).framingError 0).link.lanes[0].alignRun = 0 := by decide +kernel

theorem test_damagedWord :
    let blocks : Vector BlockCheck 4 := #v[.code, .good, .good, .good]
    ((lanesAt .up ⟨0, 2, 255, none⟩).damagedWord blocks 0 false).link.lanes[0].codeErrors = 255 ∧
    ((lanesAt .up ⟨0, 2, 254, none⟩).damagedWord blocks 0 false).link.rejectedWords = 1 ∧
    ((lanesAt .params ⟨0, 0, 0, none⟩).damagedWord blocks 0x08 false).link.state = .aligning ∧
    ((lanesAt .params ⟨0, 0, 0, none⟩).damagedWord blocks 0x07 false).link.state = .params := by decide +kernel

/-- A block with a bad sync header and a failed line-code check counts as a code error and keeps the framing run (R142). -/
theorem test_damagedWord_both :
    let blocks : Vector BlockCheck 4 := #v[.both, .framing, .code, .good]
    ((lanesAt .up ⟨0, 2, 7, none⟩).damagedWord blocks 0 false).link.lanes.toList.map (fun l => (l.framingRun, l.codeErrors)) =
      [(2, 8), (2, 7), (0, 8), (0, 7)] ∧
    ((lanesAt .params ⟨0, 2, 7, none⟩).damagedWord blocks 0 false).link.lanes.toList.map (fun l => (l.framingRun, l.codeErrors)) =
      [(2, 7), (2, 7), (0, 7), (0, 7)] ∧
    ((lanesAt .aligning ⟨9, 0, 0, none⟩).damagedWord blocks 0 false).link.lanes.toList.map (fun l => l.alignRun) = [0, 0, 0, 0] := by
  decide +kernel

/-- Outside UP a word acts on the lane counts alone (R143 to R145, R147). -/
theorem test_words_outsideUp :
    let runs (state : LinkState) (i : Instr) := (next i (lanesAt state ⟨9, 2, 0, none⟩)).map (fun t =>
      t.link.lanes.toList.map (fun l => (l.alignRun, l.framingRun)))
    let flags (state : LinkState) (i : Instr) := (next i (lanesAt state ⟨9, 2, 0, none⟩)).map (fun t =>
      (t.link.hold, t.link.rejectedWords))
    runs .down .holdReturn = some (List.replicate 4 (9, 2)) ∧ runs .aligning .holdReturn = some (List.replicate 4 (0, 2)) ∧
    runs .deskew (.unknownTypeWord true) = some (List.replicate 4 (9, 0)) ∧
    runs .params .holdReturn = some (List.replicate 4 (9, 0)) ∧
    flags .down .holdReturn = some (false, 0) ∧ flags .aligning .holdReturn = some (false, 0) ∧
    flags .deskew (.unknownTypeWord true) = some (false, 0) ∧ flags .params .holdReturn = some (false, 0) := by decide +kernel

theorem test_damagedWord_breaks :
    let o : OpenPacket := ⟨⟨12, 0, 64, 7, 3, 0, 0⟩, true, 28, []⟩
    let s := { upPart with link := { upPart.link with openPacket := some o } }
    (s.damagedWord #v[.good, .code, .good, .good] 2 true).link.discards = 1 ∧
    (s.damagedWord #v[.good, .code, .good, .good] 2 true).link.rejectedWords = 0 := by decide +kernel

/-- Section 7.7, steps 4 to 7: the mismatch is told once, and SET_LINK_PARAMS brings the link UP. -/
theorem test_linkParams :
    let s := { lanesAt .params Lane.zero with link := { (lanesAt .params Lane.zero).link with expected := ⟨7, 4, 48, 9216⟩ } }
    let t := s.takeParams ⟨7, 4, 40, 9216⟩ 51
    t.link.mismatch = true ∧ t.mgmt.notices.length = 1 ∧ (s.takeParams ⟨7, 4, 40, 9216⟩ 50).link.state = .aligning ∧
    (left (setLinkParamsEffect [0, 7, 4, 40, 0x24, 0x00] t)).map (fun u => (u.link.state, u.link.established)) =
      some (.up, some ⟨7, 4, 40, 9216⟩) := by decide +kernel

theorem test_setLinkParams_ends :
    refused (setLinkParamsEffect [0, 0, 4, 0, 0x24, 0x00] readyPart) = some .badValue ∧
    refused (setLinkParamsEffect [0, 0, 4, 48, 0x24, 0x00] readyPart) = none ∧
    refused (setLinkParamsEffect [0, 0, 4, 49, 0x24, 0x00] readyPart) = some .badValue ∧
    refused (setLinkParamsEffect [0, 0, 3, 48, 0x24, 0x00] readyPart) = some .badValue ∧
    refused (setLinkParamsEffect [0, 0, 4, 48, 0x00, 0x40] readyPart) = none ∧
    refused (setLinkParamsEffect [0, 0, 4, 48, 0x00, 0x3F] readyPart) = some .badValue ∧
    refused (setLinkParamsEffect [0, 0, 4, 48, 0x24, 0x01] readyPart) = some .badValue := by decide +kernel

theorem test_relink : (left (relinkEffect [] upPart)).map (fun t => (t.link.state, t.link.loss)) = some (.aligning, true) ∧
    (left (relinkEffect [] (lanesAt .params Lane.zero))).map (fun t => (t.link.state, t.link.loss)) = some (.aligning, false) := by
  decide +kernel

theorem test_linkStatus : (left (linkStatusEffect [] { upPart with link := { upPart.link with loss := true, mismatch := true } })).map
    (fun t => (t.link.loss, t.link.mismatch)) = some (false, false) := by decide +kernel

/-- The loss of the link: ACTIVE goes to STARTING, a drain-out counts its stop as seen, DISABLED stays (R138). -/
theorem test_linkLoss :
    let s := portIn 14 .drainOut (portIn 12 .active upPart)
    let t := s.loseLink .relink
    (t.port 12).state = .starting ∧ (t.port 14).state = .drainOut ∧ (t.port 14).stoppedSeen = true ∧
    (t.port 13).state = .disabled ∧ (t.port 13).stoppedSeen = false ∧ t.mgmt.notices = [.linkState .relink] := by decide +kernel

/-- The loss counts the open packet, and the item being sent; a passed-through one is a discard too (R147). -/
theorem test_linkLoss_counts :
    let d : Descriptor := ⟨12, 0, 64, 7, 3, 0, 0⟩
    let s := { upPart with link := { upPart.link with openPacket := some ⟨d, true, 0, []⟩, sending := some (.passed ⟨d, []⟩) } }
    ((s.loseLink .relink).link.discards, (s.loseLink .relink).link.returnLosses) = (2, 1) := by decide +kernel

/-- The loss clears the paused flag, without a word, when it releases room of staging and little is left (log entry 37). -/
theorem test_linkLoss_paused :
    let d : Descriptor := ⟨12, 0, 64, 7, 3, 0, 0⟩
    let paused (sending : Option OutItem) : State := { upPart with link := { upPart.link with paused := true, sending := sending } }
    let after (sending : Option OutItem) := ((paused sending).loseLink .relink).link.paused
    after none = true ∧ after (some (.control ⟨true, 12⟩)) = true ∧ after (some (.passed ⟨d, []⟩)) = false ∧
    ((paused (some (.passed ⟨d, []⟩))).loseLink .relink).out = [] := by decide +kernel

/-- The loss keeps a port's suspended flag, clearing progress and fault record (R138). -/
theorem test_linkLoss_keeps :
    let record : FaultRecord := ⟨.active, 14, 3, 7, 64⟩
    let s := (portIn 12 .active upPart).updPort 12 (fun p => { p with suspended := true })
    let u := s.updPort 14 (fun p => { p with state := .faulted, suspended := true, clearing := .statusRead, fault := some record })
    let t := u.loseLink .framing
    (u.port 12).state = .active ∧ (u.port 14).state = .faulted ∧ (u.port 13).state = .disabled ∧
    t.port 12 = { u.port 12 with state := .starting } ∧ t.port 14 = { u.port 14 with stoppedSeen := true } := by decide +kernel

theorem test_linkLoss_met : (∀ g ∈ upPart.groups, ∀ h ∈ upPart.groups, h ≠ g → ∀ m ∈ upPart.members h, m ∉ upPart.members g) := by
  decide +kernel

/-- The last DIVERT_STARTED makes the group ACTIVE; a marker not awaited is stray; a port beyond the link's is rejected
(R126, R128, R148). -/
theorem test_markers :
    let s := portIn 12 .starting upPart
    ((s.markerWord 12 State.started).port 12).state = .active ∧ ((s.markerWord 11 State.started).port 11).strayMarkers = 1 ∧
    (s.markerWord 40 State.started).link.rejectedWords = 1 ∧
    (((portIn 12 .drainOut upPart).markerWord 12 State.stopped).port 12).stoppedSeen = true := by decide +kernel

/-- A MARKER of no code is rejected and changes no port, whether or not it breaks the open packet (R148, log entry 15). -/
theorem test_unknownMarker :
    let d : Descriptor := ⟨12, 0, 64, 7, 3, 0, 0⟩
    let s := { upPart with link := { upPart.link with openPacket := some ⟨d, true, 28, []⟩ } }
    Runs s ∧ s.link.state = .up ∧ (s.unknownWord true).link.rejectedWords = 1 := by
  refine ⟨rfl, rfl, ?_⟩
  unfold State.unknownWord
  cases Config.badMarkerBreaks <;> decide +kernel

theorem test_drainOut :
    let s := (portIn 12 .drainOut upPart).updPort 12 (fun p => { p with stoppedSeen := true })
    let closed := { episodeIn 0 .linger with linger := some ⟨8, false⟩ }
    ((holdingEpisodes [closed] s).completeDrain 12).table.episodes = [] ∧
    (((holdingEpisodes [closed] s).completeDrain 12).port 12).state = .disabled ∧
    (((holdingEpisodes [episodeIn 0 .linger] s).completeDrain 12).port 12).state = .drainOut ∧
    ((holdingEpisodes [closed] s).completeDrain 12).mgmt.notices.map Notice.key = [.portState 12] ∧
    ((holdingEpisodes [closed] s).completeDrain 12).generation 0 = 1 := by decide +kernel

theorem test_statusWord : (next (.statusWord (BitVec.ofNat 48 4096)) upPart).map (fun t => t.link.egressFull) =
    some (BitVec.ofNat 48 4096) := by decide +kernel

/-- Table 7-4: the order of the five sources. -/
theorem test_returnArbiter_order :
    let w : ControlWord := ⟨true, 12⟩
    let f : GrantFrame := ⟨1, 2, 3, 4, 5⟩
    let x : Stub := ⟨1, 2, 3, 4, 64⟩
    let p : PassPacket := ⟨⟨12, 0, 64, 7, 3, 0, 0⟩, []⟩
    let s (c : List ControlWord) (q : List GrantFrame) (st : List Stub) (ps : List PassPacket) : State :=
      { upPart with link := { upPart.link with control := c, stubs := st, passList := ps },
                    sched := { upPart.sched with queue := q } }
    (s [w] [f] [x] [p]).nextItem? = some (.control w) ∧ (s [] [f] [x] [p]).nextItem? = some (.grant f) ∧
    (s [] [] [x] [p]).nextItem? = some (.stub x) ∧ (s [] [] [] [p]).nextItem? = some (.passed p) ∧
    (s [] [] [] []).nextItem? = none := by decide +kernel

theorem test_returnItemComplete :
    let s := { upPart with link := { upPart.link with sending := some (.control ⟨true, 12⟩) } }
    Runs s ∧ s.link.sending = some (.control ⟨true, 12⟩) ∧ s.finishItem.link.sending = none := by decide +kernel

/-- A grant frame leaves its queue, and the backlog's head takes its place there (R70, R153). -/
theorem test_beginItem_leaves :
    let f (n : Nat) : GrantFrame := ⟨1, 2, 3, n, 0⟩
    let s := { upPart with sched := { Scheduler.powerOn with queue := [f 1, f 2], backlog := [f 3, f 4] } }
    s.beginItem.link.sending = some (.grant (f 1)) ∧ s.beginItem.sched.queue = [f 2, f 3] ∧ s.beginItem.sched.backlog = [f 4] ∧
    s.beginItem.out = [.item (.grant (f 1))] := by decide +kernel

theorem test_beginItem_met : upPart.link.state = .up ∧ upPart.link.sending = none ∧ upPart.link.hold = false := ⟨rfl, rfl, rfl⟩

/-- The pattern of a lane: sixteen alignment words, then its lane-marker word, again and again (R143). -/
theorem test_pattern :
    (List.range 17).map (LinkState.aligning.patternBlock 2) =
      List.replicate 16 (some ⟨0b10, List.replicate 8 0x0F⟩) ++ [some ⟨0b10, [0xE1, 2, 0, 0, 0, 0, 0, 0]⟩] ∧
    LinkState.params.patternBlock 2 33 = LinkState.deskew.patternBlock 2 16 ∧ LinkState.up.patternBlock 2 0 = none := by
  decide +kernel

/-- A field that is present is sent after 1, an absent one as 0 and zeroed bytes (R184). -/
theorem test_presence : presented 2 (toBe 2) (some 0x1234) = [1, 0x12, 0x34] ∧ presented 2 (toBe 2) none = [0, 0, 0] := by decide

/-! ### The invariants on a state that is not the reset state -/

/-- One ACTIVE episode with a grant of 4 packets on the ACTIVE port 12. -/
def oneEpisode : State :=
  holdingEpisodes [{ episodeIn 0 .active with
    heldOwn := 100, roster := [{ waiting 3 with state := .granted, grants := [⟨1, 4, 25, false⟩] }] }] (portIn 12 .active upPart)

theorem test_queues_met : oneEpisode.mgmt.NoticesSound ∧ oneEpisode.mgmt.PlacesSound := by
  refine ⟨⟨by decide, by decide⟩, by decide, by decide⟩

theorem test_counts_met : oneEpisode.counters.Sound ∧ oneEpisode.link.LanesSound := by
  refine ⟨⟨by decide, by decide, by decide +kernel⟩, by unfold Link.LanesSound; decide +kernel⟩

theorem test_keys_met : oneEpisode.KeysUnique ∧ oneEpisode.StoreBound := by
  have h : oneEpisode.SlotsDistinct := by unfold State.SlotsDistinct; decide +kernel
  exact ⟨⟨h, by decide +kernel⟩, h, by decide +kernel⟩

theorem test_oneEpisode_ports (p : Nat) : (oneEpisode.port p).role = .single ∧ (oneEpisode.policy p).bond = .none ∧
    (oneEpisode.policy p).mtu ≤ 9216 ∧ (oneEpisode.policy p).grantSize ≤ 64 ∧ (oneEpisode.pacer p).InRange := by
  show (vget (vupd (Vector.replicate 48 Port.powerOn) 12 _) p Port.powerOn).role = _ ∧
    (vget (vupd (Vector.replicate 48 Port.powerOn) 12 _) p Port.powerOn).policy.bond = _ ∧
    (vget (vupd (Vector.replicate 48 Port.powerOn) 12 _) p Port.powerOn).policy.mtu ≤ _ ∧
    (vget (vupd (Vector.replicate 48 Port.powerOn) 12 _) p Port.powerOn).policy.grantSize ≤ _ ∧
    (vget (Vector.replicate 48 Pacer.powerOn) p Pacer.powerOn).InRange
  unfold vget vupd
  by_cases h : p < 48 <;> by_cases h' : 12 = p <;> simp [h, h', Port.powerOn, Policy.default, Pacer.powerOn, Pacer.InRange]

theorem test_reservation_met : oneEpisode.ReservationLaw := by
  refine ⟨by unfold State.SlotsDistinct; decide +kernel, fun p h => ?_, fun p h => ?_, by decide +kernel⟩
  · rw [(test_oneEpisode_ports p).2.1] at h; cases h
  · rw [(test_oneEpisode_ports p).1] at h; cases h

theorem test_transferQueues_met : oneEpisode.QueuesSound := by
  refine ⟨by decide +kernel, by decide +kernel, by decide +kernel, by decide +kernel, by decide +kernel, by decide +kernel,
    by decide +kernel, by decide +kernel, fun p h => ?_,
    by decide, by decide +kernel, fun o h => by cases h⟩
  rw [(test_oneEpisode_ports p).1] at h; cases h

theorem test_rosters_met : oneEpisode.RosterLaw := by
  refine ⟨by decide, by decide, by decide, by decide +kernel⟩

theorem test_chains_met : let s := holdingEpisodes [{ episodeIn 0 .active with holdQueue := [packetOf 0], heldOwn := 4 }] readyPart
    s.ChainLaw := by
  refine ⟨by unfold State.SlotsDistinct; decide, by decide +kernel, by decide +kernel, by decide +kernel⟩

theorem test_credits_met : oneEpisode.CreditLaw := by
  refine ⟨fun p => (test_oneEpisode_ports p).2.2.2.2, fun p => ⟨(test_oneEpisode_ports p).2.2.1, (test_oneEpisode_ports p).2.2.2.1⟩,
    fun o h => ?_, by decide +kernel, fun x h => ?_, by decide +kernel⟩
  · cases (show (none : Option OpenPacket) = some o from h)
  · cases (show Transfer.none = .write x from h)

theorem test_policy_met : 256 ≤ Policy.default.mtu ∧ Policy.default.mtu ≤ 9216 ∧ Policy.default.borrowCap ≤ 65535 ∧
    Policy.default.allowance ≤ 15 ∧ Policy.default.grantSize ≤ 64 ∧ 16 ≤ Policy.default.reservation := by decide

/-! ### The words and frames of the part (Table 11-8, section 11.1) -/

theorem test_word_grant : (OutItem.words (.grant ⟨0x0A, 7, 9, 2, 4⟩)) =
    [[0x12, 0, 0, 0, 0x0A, 0, 0, 0, 7, 0, 9, 0, 2, 4] ++ List.replicate 18 0] := by decide +kernel

theorem test_frame_reply : (TxFrame.reply ⟨0x5C, kindRelink, .ok, .nothing⟩).bytes? =
    some (frameBytes 0x80 0x5C [0x1A, 0x00]) := by decide +kernel

end Sys2Proof.Tests
end

-- ==== Proofs: the records of the Episode Table ====
section
/-! SUPPORT. How the records of the Episode Table are found, rewritten, placed and freed, and what a rewriting of a record that
takes no room, frees no reservation and enters nobody keeps (`Episode.Revises`). -/

namespace Sys2Proof.Machine

/-! ### Finding and rewriting records -/

theorem updEp_episodes (s : State) (slot : Nat) (f : Episode → Episode) :
    (s.updEp slot f).table.episodes = s.table.episodes.map (fun e => if e.slot == slot then f e else e) := rfl

theorem ep?_eq_none {s : State} {slot : Nat} : s.ep? slot = none ↔ ∀ e ∈ s.table.episodes, e.slot ≠ slot := by
  simp [State.ep?]

/-- A record written to a FREE slot is written nowhere. -/
theorem updEp_of_none {s : State} {slot : Nat} (h : s.ep? slot = none) (f : Episode → Episode) : s.updEp slot f = s := by
  have hmap : s.table.episodes.map (fun e => if e.slot == slot then f e else e) = s.table.episodes := by
    conv_rhs => rw [← List.map_id s.table.episodes]
    refine List.map_congr_left (fun e he => ?_)
    rw [if_neg (by simpa using ep?_eq_none.1 h e he)]; rfl
  unfold State.updEp
  rw [hmap]

/-- With distinct slots a slot has one record. -/
theorem eq_of_slot {s : State} {slot : Nat} {e x : Episode} (hd : s.SlotsDistinct) (he : s.ep? slot = some e)
    (hx : x ∈ s.table.episodes) (hs : x.slot = slot) : x = e := by
  have := ep?_of_mem hd hx
  rw [hs, he] at this
  exact (Option.some.inj this).symm

theorem live?_ep? {s : State} {h : Handle} {e : Episode} (he : s.live? h = some e) : s.ep? e.slot = some e := by
  unfold State.live? at he
  split at he
  · rw [(ep?_some he).2]; exact he
  · cases he

theorem freeSlot?_eq_some {s : State} {n : Nat} : s.freeSlot? = some n ↔
    n < 1024 ∧ (∀ e ∈ s.table.episodes, e.slot ≠ n) ∧ ∀ m, m < n → ∃ e ∈ s.table.episodes, e.slot = m := by
  unfold State.freeSlot?
  rw [List.find?_range_eq_some]
  simp only [Option.isNone_iff_eq_none, ep?_eq_none, List.mem_range, Config.slotCount]
  constructor
  · rintro ⟨hf, hn, hl⟩
    refine ⟨hn, hf, fun m hm => ?_⟩
    simpa [State.ep?] using hl m hm
  · rintro ⟨hn, hf, hl⟩
    refine ⟨hf, hn, fun m hm => ?_⟩
    simpa [State.ep?] using hl m hm

theorem freeSlot?_eq_none {s : State} : s.freeSlot? = none ↔ ∀ n, n < 1024 → ∃ e ∈ s.table.episodes, e.slot = n := by
  unfold State.freeSlot?
  rw [List.find?_eq_none]
  simp [State.ep?, Config.slotCount]

theorem lookup_eq_none {s : State} {k : Key} : s.lookup k = none ↔ ∀ e ∈ s.table.episodes, e.key ≠ k := by
  simp [State.lookup]

theorem lookup_eq_some {s : State} {k : Key} {e : Episode} (h : s.lookup k = some e) :
    e ∈ s.table.episodes ∧ e.key = k := by
  unfold State.lookup at h
  exact ⟨List.mem_of_find?_eq_some h, by simpa using List.find?_some h⟩

/-! ### Placing a record -/

theorem insertEpisode_perm (e : Episode) (l : List Episode) : (insertEpisode e l).Perm (e :: l) := by
  induction l with
  | nil => exact List.Perm.refl _
  | cons x rest ih =>
    unfold insertEpisode
    split
    · exact List.Perm.refl _
    · exact (ih.cons x).trans (List.Perm.swap e x rest)

/-- A record of a slot that no other has goes to its place in slot order. -/
theorem insertEpisode_sorted {e : Episode} {l : List Episode} (h : (l.map (fun x => x.slot)).Pairwise (fun a b => a < b))
    (hfree : ∀ x ∈ l, x.slot ≠ e.slot) :
    ((insertEpisode e l).map (fun x => x.slot)).Pairwise (fun a b => a < b) := by
  induction l with
  | nil => simp [insertEpisode]
  | cons x rest ih =>
    rw [List.map_cons, List.pairwise_cons] at h
    obtain ⟨hx, hrest⟩ := h
    have hne := hfree x List.mem_cons_self
    unfold insertEpisode
    split
    · rename_i hlt
      rw [List.map_cons, List.pairwise_cons, List.map_cons, List.pairwise_cons]
      refine ⟨fun b hb => ?_, hx, hrest⟩
      rcases List.mem_cons.1 hb with rfl | hb
      · exact hlt
      · exact lt_trans hlt (hx b hb)
    · rename_i hge
      rw [List.map_cons, List.pairwise_cons]
      refine ⟨fun b hb => ?_, ih hrest (fun y hy => hfree y (List.mem_cons_of_mem _ hy))⟩
      rw [((insertEpisode_perm e rest).map _).mem_iff, List.map_cons, List.mem_cons] at hb
      rcases hb with rfl | hb
      · omega
      · exact hx b hb

/-- A record keeps its slot and key when its episode closes. -/
theorem closeEpisode_mem {s : State} (slot : Nat) {e : Episode} (he : e ∈ s.table.episodes) :
    ∃ x ∈ (s.closeEpisode slot).table.episodes, x.key = e.key ∧ x.slot = e.slot := by
  unfold State.closeEpisode
  split
  · exact ⟨e, he, rfl, rfl⟩
  · simp only [raiseClosed_keeps, updEp_episodes]
    refine ⟨_, List.mem_map_of_mem he, ?_⟩
    split <;> exact ⟨rfl, rfl⟩

/-- A decision's candidate is an eligible responder of a record (R60, R64, R65). -/
theorem decision?_eligible {s : State} {g : Nat} {c : Candidate} (h : s.decision? g = some c) :
    ∃ e ∈ s.table.episodes, e.slot = c.slot ∧ ∃ r, e.roster[c.position]? = some r ∧ r.eligible = true := by
  unfold State.decision? at h
  split at h
  · obtain ⟨cls, -, hcls⟩ := List.exists_of_findSome?_eq_some h
    obtain ⟨e, he, hcand⟩ := List.exists_of_findSome?_eq_some hcls
    obtain ⟨⟨r, i⟩, hp, hat⟩ := List.exists_of_findSome?_eq_some hcand
    rw [mem_ringAfter] at he hp
    have hmem : e ∈ s.table.episodes := List.mem_of_mem_filter (List.mem_of_mem_filter he)
    simp only [candidateAt] at hat
    split at hat
    · rename_i hc
      simp only [Bool.and_eq_true] at hc
      cases hat
      exact ⟨e, hmem, rfl, r, List.mk_mem_zipIdx_iff_getElem?.1 hp, hc.1.1⟩
    · cases hat
  · cases h

/-! ### Responders -/

/-- A responder has at most two outstanding grants, and is GRANTED exactly while it has one (R37, Table 2-2). -/
def Responder.Lawful (r : Responder) : Prop := r.grants.length ≤ 2 ∧ (r.state = .granted ↔ r.grants ≠ [])

/-- Without grants a responder in any state but GRANTED is lawful. -/
theorem Responder.lawful_of_empty {r : Responder} (hg : r.grants = []) (hs : r.state ≠ .granted) : r.Lawful := by
  simp [Responder.Lawful, hg, hs]

theorem Responder.lawful_of_eq {r x : Responder} (hg : x.grants = r.grants) (hs : x.state = r.state) (h : r.Lawful) :
    x.Lawful := by
  unfold Responder.Lawful
  rw [hg, hs]
  exact h

theorem Responder.unpace_lawful (r : Responder) : r.unpace.Lawful := by
  refine Responder.lawful_of_empty rfl ?_
  cases h : r.state <;> simp [Responder.unpace, h]

theorem Responder.withdraw_lawful (r : Responder) : r.withdraw.Lawful := by
  refine Responder.lawful_of_empty rfl ?_
  cases h : r.state <;> simp [Responder.withdraw, h]

theorem Responder.finish_lawful (r : Responder) {state : RespState} (h : state ≠ .granted) : (r.finish state).Lawful :=
  Responder.lawful_of_empty rfl h

/-- Fewer grants, and the state that follows them (R37). -/
theorem Responder.followGrants_lawful {r : Responder} {gs : List Grant} (h : r.Lawful) (hl : gs.length ≤ r.grants.length)
    (x : Responder) (hg : x.grants = gs) (hs : x.state = r.state) : x.followGrants.Lawful := by
  obtain ⟨htwo, hiff⟩ := h
  have hnil : r.grants = [] → gs = [] := fun h => List.eq_nil_of_length_eq_zero (by simpa [h] using hl)
  unfold Responder.followGrants Responder.Lawful
  refine ⟨by rw [hg]; exact hl.trans htwo, ?_⟩
  rw [hs, hg]
  by_cases he : gs = []
  · by_cases hr : r.state = .granted <;> simp [he, hr]
  · have hr : r.state = .granted := hiff.2 (fun q => he (hnil q))
    simp [he, hr]

theorem Responder.strike_lawful {r : Responder} (number : Nat) (h : r.Lawful) : (r.strike number).Lawful :=
  Responder.followGrants_lawful h (List.length_filter_le _ _) _ rfl rfl

theorem Responder.useGrant_lawful {r : Responder} (number timeout : Nat) (h : r.Lawful) :
    (r.useGrant number timeout).Lawful :=
  Responder.followGrants_lawful h ((List.length_filter_le _ _).trans (by rw [List.length_map])) _ rfl rfl

theorem Responder.useAllowance_lawful {r : Responder} (h : r.Lawful) : r.useAllowance.Lawful := by
  obtain ⟨htwo, hiff⟩ := h
  refine ⟨htwo, ?_⟩
  by_cases ho : r.state = .opening
  · have hg : r.grants = [] := by simpa [ho] using hiff
    by_cases ha : r.allowance - 1 = 0 <;> simp [Responder.useAllowance, ho, ha, hg]
  · simpa [Responder.useAllowance, ho] using hiff

theorem Responder.tick_lawful {r : Responder} (h : r.Lawful) : Responder.Lawful { r with grants := r.grants.map Grant.tick } := by
  obtain ⟨htwo, hiff⟩ := h
  exact ⟨by simpa using htwo, by simpa using hiff⟩

/-- A grant to an eligible responder is at most its second (R37, R60). -/
theorem Responder.recordGrant_lawful {r : Responder} (size timeout : Nat) (h : r.Lawful) (he : r.eligible = true) :
    (r.recordGrant size timeout).Lawful := by
  obtain ⟨htwo, hiff⟩ := h
  have hone : r.grants.length < 2 := by
    simp only [Responder.eligible, Bool.and_eq_true, Bool.or_eq_true, beq_iff_eq, decide_eq_true_eq] at he
    obtain ⟨-, hw | ⟨-, hlt⟩⟩ := he
    · have : r.grants = [] := by simpa [hw] using hiff
      simp [this]
    · exact hlt
  refine ⟨?_, by simp [Responder.recordGrant]⟩
  simp [Responder.recordGrant]
  omega

/-! ### Revisions of a record -/

/-- A record rewritten without taking room of the store or of the Roster Pool, and not reopened: slot, key, roster limit and
reservation stay, the borrowed cells do not rise, and the roster keeps its endpoints and its law. -/
structure Episode.Revises (x y : Episode) : Prop where
  slot : y.slot = x.slot
  key : y.key = x.key
  limit : y.rosterLimit = x.rosterLimit
  stays : y.isOpen = true → x.isOpen = true
  reservation : y.reservation = x.reservation
  borrowed : y.borrowed ≤ x.borrowed
  endpoints : y.roster.map (fun r => r.endpoint) = x.roster.map (fun r => r.endpoint)
  lawful : (∀ r ∈ x.roster, r.Lawful) → ∀ r ∈ y.roster, r.Lawful

theorem Episode.Revises.refl (x : Episode) : x.Revises x := ⟨rfl, rfl, rfl, id, rfl, le_rfl, rfl, id⟩

theorem Episode.Revises.trans {x y z : Episode} (h : x.Revises y) (k : y.Revises z) : x.Revises z where
  slot := k.slot.trans h.slot
  key := k.key.trans h.key
  limit := k.limit.trans h.limit
  stays := h.stays ∘ k.stays
  reservation := k.reservation.trans h.reservation
  borrowed := k.borrowed.trans h.borrowed
  endpoints := k.endpoints.trans h.endpoints
  lawful := k.lawful ∘ h.lawful

/-- A revision keeps the roster's length. -/
theorem Episode.Revises.length {x y : Episode} (h : x.Revises y) : y.roster.length = x.roster.length := by
  simpa using congrArg List.length h.endpoints

/-- A rewriting of fields other than those of the accounting and of the roster. -/
theorem Episode.revises_of_eq {x y : Episode} (hslot : y.slot = x.slot) (hkey : y.key = x.key) (horigin : y.origin = x.origin)
    (hn : y.n = x.n) (hstays : y.isOpen = true → x.isOpen = true) (hr : y.reservation = x.reservation)
    (hb : y.borrowed = x.borrowed) (hroster : y.roster = x.roster) : x.Revises y where
  slot := hslot
  key := hkey
  limit := by unfold Episode.rosterLimit; rw [horigin, hn]
  stays := hstays
  reservation := hr
  borrowed := hb.le
  endpoints := by rw [hroster]
  lawful := by rw [hroster]; exact id

/-- A rewriting of the roster alone. -/
theorem Episode.revises_roster (x : Episode) {roster : List Responder}
    (he : roster.map (fun r => r.endpoint) = x.roster.map (fun r => r.endpoint))
    (hl : (∀ r ∈ x.roster, r.Lawful) → ∀ r ∈ roster, r.Lawful) : x.Revises { x with roster := roster } :=
  ⟨rfl, rfl, rfl, id, rfl, le_rfl, he, hl⟩

/-- Every responder rewritten, with its endpoint and its law. -/
theorem Episode.revises_mapRoster (x : Episode) {f : Responder → Responder} (he : ∀ r, (f r).endpoint = r.endpoint)
    (hl : ∀ r, r.Lawful → (f r).Lawful) : x.Revises { x with roster := x.roster.map f } := by
  refine x.revises_roster ?_ ?_
  · simp [Function.comp_def, he]
  · intro h r hr
    obtain ⟨y, hy, rfl⟩ := List.mem_map.1 hr
    exact hl y (h y hy)

theorem Episode.unpace_revises (x : Episode) : x.Revises x.unpace := by
  unfold Episode.unpace
  split
  · refine x.revises_mapRoster (fun r => ?_) (fun r h => ?_)
    · split <;> rfl
    · split
      · exact r.unpace_lawful
      · exact h
  · exact Episode.Revises.refl x

theorem Episode.withdrawAll_revises (x : Episode) : x.Revises x.withdrawAll :=
  x.revises_mapRoster (fun _ => rfl) (fun r _ => r.withdraw_lawful)

theorem Episode.updResponder_revises (x : Episode) (src : Endpoint) {f : Responder → Responder}
    (he : ∀ r, (f r).endpoint = r.endpoint) (hl : ∀ r, r.Lawful → (f r).Lawful) : x.Revises (x.updResponder src f) := by
  refine x.revises_mapRoster (fun r => ?_) (fun r h => ?_)
  · split
    · exact he r
    · rfl
  · split
    · exact hl r h
    · exact h

/-- An entry of a roster after the entry at one place was rewritten. -/
theorem mem_modify {α : Type} {l : List α} {i : Nat} {f : α → α} {x : α} (h : x ∈ l.modify i f) :
    x ∈ l ∨ ∃ y, l[i]? = some y ∧ x = f y := by
  obtain ⟨j, hj⟩ := List.mem_iff_getElem?.1 h
  rw [List.getElem?_modify] at hj
  cases hl : l[j]? with
  | none => simp [hl] at hj
  | some y =>
    by_cases hij : i = j
    · right
      subst hij
      exact ⟨y, hl, by simpa [hl] using hj.symm⟩
    · left
      have hxy : y = x := by simpa [hl, hij] using hj
      exact hxy ▸ List.mem_of_getElem? hl

/-- The responder at one place rewritten, with its endpoint and its law. -/
theorem Episode.revises_modifyRoster (x : Episode) (position : Nat) {f : Responder → Responder}
    (he : ∀ r, (f r).endpoint = r.endpoint) (hl : ∀ r, x.roster[position]? = some r → r.Lawful → (f r).Lawful) :
    x.Revises { x with roster := x.roster.modify position f } := by
  refine x.revises_roster ?_ ?_
  · apply List.ext_getElem?
    intro i
    simp only [List.getElem?_map, List.getElem?_modify]
    cases x.roster[i]? <;> simp
    split
    · exact he _
    · rfl
  · intro h r hr
    rcases mem_modify hr with hr | ⟨y, hy, rfl⟩
    · exact h r hr
    · exact hl y hy (h y (List.mem_of_getElem? hy))

theorem Episode.toLinger_revises (x : Episode) (reason : CloseReason) : x.Revises (x.toLinger reason) :=
  Episode.revises_of_eq rfl rfl rfl rfl (by simp [Episode.isOpen, Episode.toLinger]) rfl rfl rfl

theorem Episode.toDraining_revises {x : Episode} (h : x.isOpen = true) : x.Revises x.toDraining :=
  Episode.revises_of_eq rfl rfl rfl rfl (fun _ => h) rfl rfl rfl

theorem Episode.uncharge_revises (x : Episode) (p : HeldPacket) : x.Revises (x.uncharge p) := by
  unfold Episode.uncharge
  split
  · exact Episode.revises_of_eq rfl rfl rfl rfl id rfl rfl rfl
  · exact ⟨rfl, rfl, rfl, id, rfl, Nat.sub_le _ _, rfl, id⟩

theorem Episode.discard_revises (x : Episode) (p : HeldPacket) : x.Revises (x.discard p) :=
  (x.uncharge_revises p).trans (Episode.revises_of_eq rfl rfl rfl rfl id rfl rfl rfl)

theorem Episode.discardHeld_revises (x : Episode) : x.Revises x.discardHeld := by
  have hfold : ∀ (l : List HeldPacket) (y : Episode), x.Revises y → x.Revises (l.foldl Episode.discard y) := by
    intro l
    induction l with
    | nil => exact fun y h => h
    | cons p l ih => exact fun y h => ih _ (h.trans (y.discard_revises p))
  exact (hfold x.holdQueue x (Episode.Revises.refl x)).trans (Episode.revises_of_eq rfl rfl rfl rfl id rfl rfl rfl)

theorem Episode.noteSender_revises (x : Episode) (a : Arrival) : x.Revises (x.noteSender a) := by
  unfold Episode.noteSender
  split
  · exact x.updResponder_revises _ (fun _ => rfl) (fun _ h => Responder.lawful_of_eq rfl rfl h)
  · exact Episode.revises_of_eq rfl rfl rfl rfl id rfl rfl rfl

theorem Episode.grantTick_revises (x : Episode) : x.Revises x.grantTick :=
  x.revises_mapRoster (fun _ => rfl) (fun _ h => Responder.tick_lawful h)

/-- A grant to an eligible responder of the roster (R51, R60). -/
theorem Episode.recordGrant_revises {x : Episode} {position : Nat} {r : Responder} (size timeout : Nat)
    (hr : x.roster[position]? = some r) (he : r.eligible = true) : x.Revises (x.recordGrant position size timeout) := by
  refine Episode.Revises.trans
    (x.revises_modifyRoster position (f := fun r => r.recordGrant size timeout) (fun _ => rfl) ?_)
    (Episode.revises_of_eq rfl rfl rfl rfl id rfl rfl rfl)
  intro y hy h
  rw [hr] at hy
  cases hy
  exact Responder.recordGrant_lawful size timeout h he

end Sys2Proof.Machine
end

-- ==== Proofs: what keeps a property of the Episode Table ====
section
/-! SUPPORT. The changes of the Episode Table, said once (`TableInvariant`): records are revised, charged with cells, given a
responder, placed and freed, and nothing else befalls them. A property that keeps under these changes is kept by every
operation of the part, and so by every step (`TableInvariant.step`). -/

namespace Sys2Proof.Machine

/-- A key that a new record may take: no record has it, or the record that had it was freed just before (R1, R8). -/
def State.KeyFree (P : State → Prop) (s : State) (k : Key) : Prop :=
  s.lookup k = none ∨ ∃ u old, P u ∧ old ∈ u.table.episodes ∧ old.key = k ∧ s = u.freeEpisode old.slot

/-- A property of the Episode Table's records that no change of the table breaks. -/
structure TableInvariant (P : State → Prop) : Prop where
  frame : ∀ {s t : State}, P s → t.table.episodes = s.table.episodes → P t
  distinct : ∀ {s : State}, P s → s.SlotsDistinct
  empty : ∀ {s : State}, s.table.episodes = [] → P s
  reviseAll : ∀ {s : State} {f : Episode → Episode}, P s → (∀ e ∈ s.table.episodes, e.Revises (f e)) → P (s.updAll f)
  charge : ∀ {s : State} {slot : Nat} {e : Episode} (reserved borrowed : Nat), P s → s.ep? slot = some e →
    reserved + borrowed ≤ Config.cellCount - s.sumR - s.sumB →
    P (s.updEp slot (fun x => { x with reservation := x.reservation + reserved, borrowed := x.borrowed + borrowed }))
  enter : ∀ {s : State} {slot : Nat} {e : Episode} {r : Responder}, P s → s.ep? slot = some e → e.find? r.endpoint = none →
    e.roster.length < e.rosterLimit → 0 < s.freeEntries → r.Lawful →
    P (s.updEp slot (fun x => { x with roster := x.roster ++ [r] }))
  place : ∀ {s : State} {e : Episode}, P s → s.freeSlot? = some e.slot → s.KeyFree P e.key →
    e.reservation ≤ Config.cellCount - s.sumR - s.sumB → e.borrowed = 0 → e.roster = [] → e.rosterLimit ≤ 64 →
    P (s.placeEpisode e)
  free : ∀ {s : State} (slot : Nat), P s → P (s.freeEpisode slot)

namespace TableInvariant

variable {P : State → Prop} (hP : TableInvariant P)
include hP

/-! ### Revisions -/

/-- The record of a slot is revised. -/
theorem revise {s : State} {slot : Nat} {e : Episode} {f : Episode → Episode} (h : P s) (he : s.ep? slot = some e)
    (hf : e.Revises (f e)) : P (s.updEp slot f) := by
  refine hP.reviseAll (f := fun x => if x.slot == slot then f x else x) h (fun x hx => ?_)
  by_cases hs : x.slot = slot
  · rw [if_pos (by simpa using hs), eq_of_slot (hP.distinct h) he hx hs]
    exact hf
  · rw [if_neg (by simpa using hs)]
    exact Episode.Revises.refl x

/-- A rewriting that revises every record revises the record of a slot, if there is one. -/
theorem reviseAny {s : State} {slot : Nat} {f : Episode → Episode} (h : P s) (hf : ∀ x : Episode, x.Revises (f x)) :
    P (s.updEp slot f) := by
  cases he : s.ep? slot with
  | none => rw [updEp_of_none he]; exact h
  | some e => exact hP.revise h he (hf e)

/-- A rewriting of fields that none of the table's laws reads. -/
theorem rewrite {s : State} {slot : Nat} {f : Episode → Episode} (h : P s)
    (hf : ∀ x, (f x).slot = x.slot ∧ (f x).key = x.key ∧ (f x).origin = x.origin ∧ (f x).n = x.n ∧ (f x).state = x.state ∧
      (f x).reservation = x.reservation ∧ (f x).borrowed = x.borrowed ∧ (f x).roster = x.roster) : P (s.updEp slot f) := by
  refine hP.reviseAny h (fun x => ?_)
  obtain ⟨hslot, hkey, horigin, hn, hstate, hr, hb, hroster⟩ := hf x
  exact Episode.revises_of_eq hslot hkey horigin hn (by simp [Episode.isOpen, hstate]) hr hb hroster

/-! ### UNPACE, stand-down and counts -/

theorem unpaceEpisode (s : State) (slot : Nat) (h : P s) : P (s.unpaceEpisode slot) := by
  unfold State.unpaceEpisode
  split
  · exact h
  · rename_i e _
    exact hP.frame (s := s.updEp slot Episode.unpace) (hP.reviseAny h Episode.unpace_revises) rfl

theorem unpaceGroup (s : State) (g : Nat) (h : P s) : P (s.unpaceGroup g) :=
  foldl_inv P _ hP.unpaceEpisode _ _ h

theorem enterDrainOut (s : State) (g : Nat) (cause : DrainCause) (h : P s) : P (s.enterDrainOut g cause) :=
  hP.unpaceGroup _ g (hP.frame (s := s) h (by simp))

theorem standDown (s : State) (g : Nat) (h : P s) : P (s.standDown g) := by
  unfold State.standDown
  split
  · exact hP.frame (hP.enterDrainOut s g .standDown h) (by simp)
  · exact h

theorem reached (s : State) (g : Nat) (type : EvType) (n : Nat) (h : P s) : P (s.reached g type n) := by
  unfold State.reached
  dsimp only
  have hmarked : ∀ t : State, t.table.episodes = s.table.episodes →
      P (if protects (t.policy g).protect type then t.standDown g else t) := by
    intro t ht
    split
    · exact hP.standDown _ _ (hP.frame h ht)
    · exact hP.frame h ht
  split
  · exact hmarked _ (by simp)
  · exact hmarked _ (by simp)

theorem count (s : State) (g : Nat) (type : EvType) (h : P s) : P (s.count g type) := by
  unfold State.count
  dsimp only
  split
  · exact hP.reached _ _ _ _ (hP.frame h (by simp))
  · exact hP.frame h (by simp)

/-! ### Closing, completing, tearing down -/

theorem closeEpisode (s : State) (slot : Nat) (h : P s) : P (s.closeEpisode slot) := by
  unfold State.closeEpisode
  split
  · exact h
  · rename_i e _
    have hlinger := hP.rewrite (slot := slot)
      (f := fun x => { x with linger := some ⟨(s.policy e.key.group).linger, false⟩ }) h (by simp)
    exact hP.frame hlinger (by simp)

theorem closeIfEmpty (s : State) (slot : Nat) (h : P s) : P (s.closeIfEmpty slot) := by
  unfold State.closeIfEmpty
  split
  · exact h
  · split
    · exact hP.closeEpisode s slot h
    · exact h

theorem afterEmptying (s : State) (slot : Nat) (h : P s) : P (s.afterEmptying slot) := by
  unfold State.afterEmptying
  split
  · exact h
  · split
    · exact hP.closeIfEmpty _ _ (hP.reviseAny h (fun x => x.toLinger_revises _))
    · exact hP.closeIfEmpty _ _ h

theorem teardown (s : State) (slot : Nat) (discards : Bool) (h : P s) : P (s.teardown slot discards) := by
  have hw : P ((s.unpaceEpisode slot).updEp slot Episode.withdrawAll) :=
    hP.reviseAny (hP.unpaceEpisode s slot h) Episode.withdrawAll_revises
  unfold State.teardown
  dsimp only
  split
  · exact hP.reviseAny hw Episode.discardHeld_revises
  · exact hw

theorem abortEpisode (s : State) (slot : Nat) (h : P s) : P (s.abortEpisode slot) :=
  hP.closeIfEmpty _ _ (hP.teardown _ _ _ (hP.reviseAny h (fun x => x.toLinger_revises _)))

theorem testCompletion (s : State) (slot : Nat) (h : P s) : P (s.testCompletion slot) := by
  unfold State.testCompletion
  split
  · exact h
  · rename_i e he
    split
    · rename_i hc
      have hopen : e.isOpen = true := by
        simp only [Bool.and_eq_true, beq_iff_eq] at hc
        simp [Episode.isOpen, hc.1.2]
      exact hP.afterEmptying _ _ (hP.revise h he (e.withdrawAll_revises.trans (Episode.toDraining_revises (by exact hopen))))
    · exact h

/-! ### Sightings -/

theorem refuseSighting (s : State) (cause : FullCause) (h : P s) : P (s.refuseSighting cause) :=
  hP.frame h (by simp)

/-- A claim fits in the claimable room (R6). -/
theorem createSighted (s : State) (a : Announcement) (h : P s) (hk : s.KeyFree P a.key) (hn : a.n ≤ 64) :
    P (s.createSighted a) := by
  unfold State.createSighted
  split
  · exact hP.refuseSighting _ _ h
  · rename_i slot hslot
    split
    · exact hP.refuseSighting _ _ h
    · rename_i r hr
      have hroom : r ≤ s.claimableRoom := by
        unfold State.claim? at hr
        dsimp only at hr
        split at hr
        · cases hr; assumption
        · split at hr
          · cases hr; exact le_rfl
          · cases hr
      exact hP.place h hslot hk (hroom.trans (Nat.min_le_right _ _)) rfl rfl hn

theorem sightAgain (s : State) (a : Announcement) (e : Episode) (h : P s) (he : s.lookup a.key = some e) (hn : a.n ≤ 64) :
    P (s.sightAgain a e) := by
  obtain ⟨hmem, hkey⟩ := lookup_eq_some he
  have hfreed : ∀ u : State, P u → (∃ x ∈ u.table.episodes, x.key = e.key ∧ x.slot = e.slot) →
      P ((u.freeEpisode e.slot).createSighted a) := by
    rintro u hu ⟨x, hx, hxk, hxs⟩
    exact hP.createSighted _ a (hP.free _ hu) (Or.inr ⟨u, x, hu, hx, hxk.trans hkey, by rw [hxs]⟩) hn
  unfold State.sightAgain
  split
  · exact hP.frame h (by simp)
  · split
    · exact hfreed _ (hP.closeEpisode s _ h) (closeEpisode_mem _ hmem)
    · exact hfreed _ h ⟨e, hmem, rfl, rfl⟩

theorem takeSighting (s : State) (a : Announcement) (h : P s) : P (s.takeSighting a) := by
  unfold State.takeSighting
  split
  · rename_i hc
    have hn : a.n ≤ 64 := by
      simp only [inRange, Bool.and_eq_true, decide_eq_true_eq] at hc
      exact hc.2.2
    split
    · exact hP.createSighted s a h (Or.inl ‹_›) hn
    · exact hP.sightAgain s a _ h ‹_› hn
  · exact hP.frame h (by simp)

/-! ### Arriving packets -/

theorem holdOwn (s : State) (slot : Nat) (a : Arrival) (h : P s) : P (s.holdOwn slot a) := by
  unfold State.holdOwn
  split
  · exact h
  · have hheld := hP.rewrite (slot := slot) (f := fun x => { x with heldOwn := x.heldOwn + cellsOf a.desc.length }) h (by simp)
    exact hP.frame hheld (by simp)

theorem trim (s : State) (slot : Nat) (a : Arrival) (listed : Bool) (h : P s) : P (s.trim slot a listed) := by
  unfold State.trim
  split
  · exact h
  · rename_i e _
    have ht : P (s.updEp slot (fun x => { x with trimmed := x.trimmed.add a.desc.length })).resumeCheck :=
      hP.frame (hP.rewrite (slot := slot) (f := fun x => { x with trimmed := x.trimmed.add a.desc.length }) h (by simp)) (by simp)
    dsimp only
    split
    · exact hP.frame (hP.count _ e.key.group .trim ht) (by simp)
    · exact hP.frame ht (by simp)

/-- A borrowing is tested against the store (R49). -/
theorem borrowOrTrim (s : State) (slot : Nat) (a : Arrival) (listed : Bool) (h : P s) : P (s.borrowOrTrim slot a listed) := by
  unfold State.borrowOrTrim
  split
  · exact h
  · rename_i e he
    dsimp only
    split
    · rename_i hc
      simp only [Bool.and_eq_true, decide_eq_true_eq] at hc
      exact hP.frame (hP.charge 0 (cellsOf a.desc.length) h he (by omega)) (by simp)
    · exact hP.trim s slot a listed h

/-- A responder is entered only where it has no entry, below the roster's limit and with an entry of the pool free (R36). -/
theorem enterArrival (s : State) (slot : Nat) (a : Arrival) (h : P s) : P (s.enter slot a) := by
  unfold State.enter
  split
  · exact h
  · rename_i e he
    split
    · exact h
    · rename_i hnew
      split
      · rename_i hroom
        simp only [Bool.and_eq_true, decide_eq_true_eq] at hroom
        have hin : ∀ r : Responder, r.endpoint = a.desc.src → r.grants = [] → r.state ≠ .granted →
            P (s.updEp slot (fun x => { x with roster := x.roster ++ [r] })) := fun r hsrc hg hs =>
          hP.enter h he (by rw [hsrc]; simpa using hnew) hroom.1 hroom.2 (Responder.lawful_of_empty hg hs)
        dsimp only
        cases e.origin with
        | adopted => exact hin _ rfl rfl (by simp)
        | sighted =>
          have hsighted := hin (newResponder a.desc.src (s.policy e.key.group).allowance) rfl rfl (by simp [newResponder])
          split
          · exact hP.frame (hP.reviseAny (slot := slot) hsighted (fun x => x.updResponder_revises a.desc.src
              (f := Responder.unpace) (fun _ => rfl) (fun r _ => r.unpace_lawful))) rfl
          · exact hsighted
      · exact h

theorem judgeAndHold (s : State) (slot : Nat) (a : Arrival) (r : Responder) (h : P s) : P (s.judgeAndHold slot a r) := by
  unfold State.judgeAndHold
  dsimp only
  split
  · exact hP.borrowOrTrim _ _ _ _ (hP.count _ _ _ h)
  · exact hP.borrowOrTrim _ _ _ _ (hP.count _ _ _ h)
  · exact hP.borrowOrTrim _ _ _ _ (hP.count _ _ _ h)
  · exact hP.borrowOrTrim _ _ _ _ h
  · exact hP.holdOwn _ _ _ (hP.reviseAny h (fun x => x.updResponder_revises _ (fun _ => rfl)
      (fun _ hl => Responder.useGrant_lawful _ _ hl)))
  · have hu := hP.reviseAny (slot := slot) h (fun x => x.updResponder_revises r.endpoint (f := Responder.useAllowance)
      (fun _ => rfl) (fun _ hl => Responder.useAllowance_lawful hl))
    split
    · exact hu
    · split
      · exact hP.holdOwn _ _ _ hu
      · exact hP.borrowOrTrim _ _ _ _ hu

theorem applyLast (s : State) (slot : Nat) (a : Arrival) (r : Responder) (h : P s) : P (s.applyLast slot a r) := by
  unfold State.applyLast
  split
  · exact hP.reviseAny h (fun x => (x.updResponder_revises r.endpoint (f := fun y => y.finish .finished) (fun _ => rfl)
      (fun y _ => y.finish_lawful (by simp))).trans (Episode.revises_of_eq rfl rfl rfl rfl id rfl rfl rfl))
  · exact h

/-- An arrival is noted in the counts of its episode and of its sender. -/
theorem noteArrival (s : State) (slot : Nat) (a : Arrival) (h : P s) :
    P (s.updEp slot (fun x => { x.noteSender a with arrived := x.arrived.add a.desc.length })) :=
  hP.reviseAny h (fun x => (x.noteSender_revises a).trans (Episode.revises_of_eq rfl rfl rfl rfl id rfl rfl rfl))

theorem arriveSighted (s : State) (slot : Nat) (a : Arrival) (h : P s) : P (s.arriveSighted slot a) := by
  have hactive : P (if (s.ep? slot).any (fun e => e.state == .armed) then
      (s.updEp slot (fun x => { x with state := .active })).applyNextEpisode a.group else s) := by
    cases he : s.ep? slot with
    | none => exact h
    | some e =>
      by_cases ha : e.state = .armed
      · simp only [Option.any_some, ha, beq_self_eq_true, if_true]
        exact hP.frame (hP.revise (f := fun x => { x with state := .active }) h he
          (Episode.revises_of_eq rfl rfl rfl rfl (fun _ => by simp [Episode.isOpen, ha]) rfl rfl rfl)) (by simp)
      · simpa [ha] using h
  unfold State.arriveSighted
  dsimp only
  split
  · exact hP.borrowOrTrim _ _ _ _ (hP.noteArrival _ _ _ (hP.enterArrival _ _ _ hactive))
  · exact hP.testCompletion _ _ (hP.applyLast _ _ _ _ (hP.judgeAndHold _ _ _ _
      (hP.noteArrival _ _ _ (hP.enterArrival _ _ _ hactive))))

theorem arriveAdopted (s : State) (slot : Nat) (a : Arrival) (h : P s) : P (s.arriveAdopted slot a) :=
  hP.borrowOrTrim _ _ _ _ (hP.reviseAny (hP.enterArrival s slot a h)
    (fun x => (x.noteSender_revises a).trans (Episode.revises_of_eq rfl rfl rfl rfl id rfl rfl rfl)))

theorem arriveDraining (s : State) (slot : Nat) (a : Arrival) (h : P s) : P (s.arriveDraining slot a) :=
  hP.borrowOrTrim _ _ _ _ (hP.noteArrival _ _ _ (hP.count _ _ _ h))

theorem arriveUnmatched (s : State) (a : Arrival) (h : P s) (hk : s.lookup a.key = none) : P (s.arriveUnmatched a) := by
  unfold State.arriveUnmatched
  split
  · split
    · exact hP.frame h (by simp)
    · rename_i slot hslot
      refine hP.arriveAdopted _ _ _ (hP.frame (hP.place
        (e := { newEpisode slot a.key .adopted .active with idle := some ⟨(s.policy a.group).idle, false⟩ })
        h hslot (Or.inl hk) (Nat.zero_le _) rfl rfl le_rfl) (by simp))
  · exact hP.frame h (by simp)

theorem arriveMatched (s : State) (e : Episode) (a : Arrival) (h : P s) : P (s.arriveMatched e a) := by
  unfold State.arriveMatched
  split
  · exact hP.arriveDraining _ _ _ h
  · exact hP.frame (hP.count s a.group .late h) (by simp)
  · exact hP.arriveSighted _ _ _ h
  · split
    · exact hP.arriveSighted _ _ _ h
    · exact hP.arriveAdopted _ _ _ h

theorem portFault (s : State) (a : Arrival) (h : P s) : P (s.portFault a) := by
  unfold State.portFault
  dsimp only
  split
  · exact hP.frame h (by simp)
  · exact hP.unpaceGroup _ _ (hP.frame h (by simp))

theorem arrive (s : State) (desc : Descriptor) (data : List Byte) (h : P s) : P (s.arrive desc data) := by
  unfold State.arrive
  dsimp only
  split
  · split
    · exact hP.arriveUnmatched _ _ h ‹_›
    · exact hP.arriveMatched _ _ _ h
  · exact hP.portFault _ _ h

/-! ### Grants -/

theorem makeGrant (s : State) (g : Nat) (c : Candidate) (h : P s)
    (hc : ∃ e ∈ s.table.episodes, e.slot = c.slot ∧ ∃ r, e.roster[c.position]? = some r ∧ r.eligible = true) :
    P (s.makeGrant g c) := by
  obtain ⟨e, he, hs, r, hr, hel⟩ := hc
  have hep : s.ep? c.slot = some e := hs ▸ ep?_of_mem (hP.distinct h) he
  unfold State.makeGrant
  simp only [hep, hr]
  exact hP.frame (hP.revise (f := fun x => x.recordGrant c.position c.size (s.policy g).grantTimeout) h hep
    (Episode.recordGrant_revises _ _ hr hel)) rfl

theorem oneDecision (s : State) (h : P s) : P s.oneDecision := by
  have hready : ∀ d ∈ s.readyDecisions, ∃ e ∈ s.table.episodes, e.slot = d.2.slot ∧
      ∃ r, e.roster[d.2.position]? = some r ∧ r.eligible = true := by
    intro d hd
    obtain ⟨g, -, hg⟩ := List.mem_filterMap.1 hd
    obtain ⟨c, hc, rfl⟩ := Option.map_eq_some_iff.1 hg
    exact decision?_eligible hc
  unfold State.oneDecision
  split
  · exact h
  · rename_i g c hs
    exact hP.makeGrant _ _ _ h (hready (g, c) (by simp [hs]))
  · rename_i first rest _ hs
    refine hP.makeGrant _ _ _ (hP.frame h rfl) (hready _ ?_)
    rw [hs, List.getD_eq_getElem _ _ (Nat.mod_lt _ (by simp))]
    exact List.getElem_mem _

theorem decisions (n : Nat) (s : State) (h : P s) : P (State.decisions n s) := by
  induction n generalizing s with
  | zero => exact h
  | succ n ih =>
    unfold State.decisions
    split
    · exact h
    · exact ih _ (hP.oneDecision s h)

theorem retire (s : State) (slot position : Nat) (e : Episode) (h : P s) : P (s.retire slot position e) := by
  have hr := hP.reviseAny (slot := slot) h (fun x => x.revises_modifyRoster position
    (f := fun r => r.finish .retired) (fun _ => rfl) (fun r _ _ => r.finish_lawful (by simp)))
  exact hP.testCompletion _ _ (hP.rewrite (hP.count _ _ _ hr) (by simp))

theorem expireGrant (s : State) (slot position number : Nat) (h : P s) : P (s.expireGrant slot position number) := by
  unfold State.expireGrant
  split
  · exact h
  · split
    · exact h
    · split
      · have hs := hP.reviseAny (slot := slot) h (fun x => x.revises_modifyRoster position
          (f := fun r => r.strike number) (fun _ => rfl) (fun r _ hl => Responder.strike_lawful number hl))
        dsimp only
        split
        · exact hP.retire _ _ _ _ hs
        · exact hs
      · exact h

/-! ### Releases and store transfers -/

theorem beginRelease (s : State) (g : Nat) (h : P s) : P (s.beginRelease g) := by
  unfold State.beginRelease
  split
  · exact h
  · rename_i e _
    split
    · exact h
    · exact hP.frame (hP.rewrite (slot := e.slot)
        (f := fun x => { x with holdQueue := x.holdQueue.drop 1, inFlight := true }) h (by simp)) (by simp)

theorem finishWrite (s : State) (h : P s) : P s.finishWrite := by
  unfold State.finishWrite
  split
  · exact h
  · exact h
  · exact h
  · rename_i p _
    have hr : P { s with store := { s.store with transfer := .none } }.resumeCheck := hP.frame h (by simp)
    dsimp only
    split
    · exact hr
    · split
      · exact hP.rewrite hr (by simp)
      · exact hP.closeIfEmpty _ _ (hP.reviseAny hr (fun x => x.discard_revises p))

theorem finishRelease (s : State) (g : Nat) (p : HeldPacket) (uncorrectable : Bool) (h : P s) :
    P (s.finishRelease g p uncorrectable) := by
  unfold State.finishRelease
  dsimp only
  have h0 : P { s.setRelease g none with store := { (s.setRelease g none).store with transfer := .none } } :=
    hP.frame h (by simp)
  split
  · split
    · exact hP.frame h0 (by simp)
    · exact h0
  · rename_i e _
    have h1 := hP.rewrite (slot := e.slot) (f := fun x => { x with inFlight := false }) h0 (by simp)
    refine hP.afterEmptying _ _ ?_
    split
    · exact hP.frame (hP.reviseAny (slot := e.slot) (f := fun x => { x.discard p with damaged := true }) h1
        (fun x => (x.discard_revises p).trans (Episode.revises_of_eq rfl rfl rfl rfl id rfl rfl rfl))) (by simp)
    · split
      · exact hP.frame (hP.reviseAny (slot := e.slot)
          (f := fun x => { x.uncharge p with released := x.released.add p.length }) h1
          (fun x => (x.uncharge_revises p).trans (Episode.revises_of_eq rfl rfl rfl rfl id rfl rfl rfl))) (by simp)
      · exact hP.reviseAny h1 (fun x => x.discard_revises p)

theorem finishRead (s : State) (corrected : Nat) (uncorrectable : Bool) (h : P s) : P (s.finishRead corrected uncorrectable) := by
  unfold State.finishRead
  split
  · exact h
  · exact h
  · exact h
  · split
    · exact hP.frame h rfl
    · exact hP.finishRelease _ _ _ _ (hP.frame h (by simp))

/-! ### Words of the link -/

theorem takeWord (s : State) (inParams inUp : State → State) (hp : ∀ t, P t → P (inParams t)) (hu : ∀ t, P t → P (inUp t))
    (h : P s) : P (s.takeWord inParams inUp) := by
  unfold State.takeWord
  dsimp only
  split
  · exact h
  · exact hP.frame h (by simp)
  · exact hP.frame h (by simp)
  · exact hp _ (hP.frame h (by simp))
  · exact hu _ (hP.frame h (by simp))

theorem takePayload (s : State) (last : Bool) (count : Byte) (data : List Byte) (h : P s) :
    P (s.takePayload last count data) := by
  have hbreak : ∀ ended, P (s.breakOpen ended) := fun ended => hP.frame h (by simp)
  unfold State.takePayload
  split
  · exact hP.frame h (by simp)
  · dsimp only
    split
    · split
      · exact hbreak _
      · exact h
    · split
      · exact hbreak _
      · split
        · exact hP.frame h rfl
        · split
          · exact hP.arrive _ _ _ (hP.frame h rfl)
          · exact hbreak _

theorem sightingWord (s : State) (port : Nat) (a : Announcement) (h : P s) : P (s.sightingWord port a) := by
  unfold State.sightingWord
  dsimp only
  split
  · exact hP.frame h (by simp)
  · exact hP.takeSighting _ _ (hP.frame h (by simp))

theorem markerWord (s : State) (port : Nat) (taken : State → Nat → State)
    (ht : ∀ t, (taken t port).table.episodes = t.table.episodes) (h : P s) : P (s.markerWord port taken) := by
  unfold State.markerWord
  dsimp only
  split
  · exact hP.frame h (by simp)
  · exact hP.frame h (by simp [ht])

/-! ### Ticks and expiries -/

theorem pacerTick (s : State) (h : P s) : P s.pacerTick := by
  unfold State.pacerTick
  split
  · exact h
  · have h0 : P { s with time := ⟨s.time.clock, s.time.ticks + 1⟩ }.pacersTick := hP.frame h (by simp)
    have hgrant := hP.reviseAll (f := Episode.grantTick) h0 (fun e _ => e.grantTick_revises)
    have hdeadline : ∀ t : State, P t → P (t.updAll Episode.deadlineTick) := fun t ht =>
      hP.reviseAll ht (fun e _ => Episode.revises_of_eq rfl rfl rfl rfl id rfl rfl rfl)
    dsimp only
    split
    · split
      · exact hdeadline _ hgrant
      · exact hdeadline _ h0
    · split
      · exact hgrant
      · exact h0

theorem unpaceExpiry (s : State) (g : Nat) (h : P s) : P (s.unpaceExpiry g) := by
  unfold State.unpaceExpiry
  split
  · exact hP.unpaceGroup _ _ h
  · exact h

/-- A record that expires goes to LINGER (R19, R21). -/
theorem expireToLinger (s : State) (slot : Nat) (h : P s) :
    P (s.updEp slot (fun x => { x.toLinger .expired with expired := true })) :=
  hP.reviseAny h (fun x => (x.toLinger_revises .expired).trans (Episode.revises_of_eq rfl rfl rfl rfl id rfl rfl rfl))

theorem raiseExpired (s : State) (slot : Nat) (e : Episode) (action : Option ExpiryAction) (h : P s) :
    P (s.raiseExpired slot e action) := hP.frame h (by simp)

theorem expireArmed (s : State) (slot : Nat) (e : Episode) (h : P s) : P (s.expireArmed slot e) :=
  hP.raiseExpired _ _ _ _ (hP.count _ _ _ (hP.closeIfEmpty _ _ (hP.expireToLinger s slot h)))

theorem expireDrain (s : State) (slot : Nat) (e : Episode) (h : P s) (he : s.ep? slot = some e) (ho : e.isOpen = true) :
    P (s.expireDrain slot e) := by
  have hd : P (s.updEp slot (fun x => { x.toDraining with expired := true })) :=
    hP.revise h he ((Episode.toDraining_revises ho).trans (Episode.revises_of_eq rfl rfl rfl rfl id rfl rfl rfl))
  exact hP.raiseExpired _ _ _ _ (hP.count _ _ _ (hP.afterEmptying _ _ (hP.teardown _ _ _ (hP.unpaceExpiry _ _ hd))))

theorem expireDiscard (s : State) (slot : Nat) (e : Episode) (h : P s) : P (s.expireDiscard slot e) :=
  hP.raiseExpired _ _ _ _ (hP.count _ _ _ (hP.closeIfEmpty _ _ (hP.teardown _ _ _ (hP.unpaceExpiry _ _
    (hP.expireToLinger s slot h)))))

theorem expireDeadline (s : State) (slot : Nat) (e : Episode) (h : P s) (he : s.ep? slot = some e) :
    P (s.expireDeadline slot e) := by
  unfold State.expireDeadline
  split
  · exact hP.expireArmed _ _ _ h
  · rename_i hstate
    split
    · exact hP.expireDrain _ _ _ h he (by simp [Episode.isOpen, hstate])
    · exact hP.expireDiscard _ _ _ h
  · exact h
  · exact h

theorem takeDeadline (s : State) (slot : Nat) (h : P s) : P (s.takeDeadline slot) := by
  unfold State.takeDeadline
  split
  · exact h
  · split
    · exact h
    · split
      · split
        · exact hP.expireDeadline _ _ _ h ‹_›
        · exact hP.rewrite h (by simp)
      · exact h

theorem takeIdle (s : State) (slot : Nat) (h : P s) : P (s.takeIdle slot) := by
  unfold State.takeIdle
  split
  · exact h
  · rename_i e he
    split
    · rename_i hc
      simp only [Bool.and_eq_true, beq_iff_eq] at hc
      exact hP.afterEmptying _ _ (hP.revise h he (Episode.toDraining_revises (by simp [Episode.isOpen, hc.1])))
    · exact h

theorem takeLinger (s : State) (slot : Nat) (h : P s) : P (s.takeLinger slot) := by
  unfold State.takeLinger
  split
  · exact h
  · split
    · exact hP.free _ h
    · exact h

theorem transmitDone (s : State) (h : P s) : P s.transmitDone := by
  unfold State.transmitDone
  split
  · exact h
  · dsimp only
    split
    · exact hP.frame h rfl
    · split
      · exact hP.empty (by simp [State.resetPart])
      · exact hP.frame h rfl

/-! ### What follows an event -/

theorem completeDrain (s : State) (g : Nat) (h : P s) : P (s.completeDrain g) := by
  unfold State.completeDrain
  split
  · have hfreed := foldl_inv P State.freeEpisode (fun _ slot hs => hP.free slot hs)
      ((s.groupEpisodes g).map (fun e => e.slot)) s h
    exact hP.frame hfreed (by simp)
  · exact h

theorem consequences (s : State) (wasIdle : Bool) (h : P s) : P (s.consequences wasIdle) := by
  have hdrained : P s.completeDrains := foldl_inv P State.completeDrain hP.completeDrain s.groups s h
  have hbegun : P s.completeDrains.beginItem := hP.frame hdrained (by simp)
  have hreleased : P s.completeDrains.beginItem.beginReleases := foldl_inv P State.beginRelease hP.beginRelease _ _ hbegun
  have harbited : P (s.completeDrains.beginItem.beginReleases.storeArbiter wasIdle) := hP.frame hreleased (by simp)
  have hgranted := hP.decisions 512 _ harbited
  exact hP.decisions 512 _ (hP.frame (t := State.beginItem _) hgranted (by simp))

/-! ### The commands of the host -/

theorem abortGroup (s : State) (g : Nat) (h : P s) : P (s.abortGroup g) := foldl_inv P _ hP.abortEpisode _ _ h

theorem disableDrainEffect {body : List Byte} {s t : State} {b : ReplyBody} (h : disableDrainEffect body s = .ok t b)
    (hs : P s) : P t := by
  unfold Machine.disableDrainEffect at h
  dsimp only at h
  (repeat' split at h) <;> cases h
  · exact hP.enterDrainOut _ _ _ hs
  · exact hP.enterDrainOut _ _ _ hs
  · exact hP.frame hs (by simp)

theorem disableFlushEffect {body : List Byte} {s t : State} {b : ReplyBody} (h : disableFlushEffect body s = .ok t b)
    (hs : P s) : P t := by
  have ha := hP.abortGroup s (portAt body 0) hs
  unfold Machine.disableFlushEffect at h
  dsimp only at h
  (repeat' split at h) <;> cases h
  · exact hP.enterDrainOut _ _ _ ha
  · exact hP.enterDrainOut _ _ _ ha
  · exact hP.frame ha (by simp)
  · exact hP.frame ha (by simp)

theorem haltEffect {flag : Bool} {body : List Byte} {s t : State} {b : ReplyBody} (h : haltEffect flag body s = .ok t b)
    (hs : P s) : P t := by
  unfold Machine.haltEffect at h
  (repeat' split at h) <;> cases h
  exact hP.rewrite hs (by simp)

theorem abortEffect {body : List Byte} {s t : State} {b : ReplyBody} (h : abortEffect body s = .ok t b) (hs : P s) : P t := by
  unfold Machine.abortEffect at h
  (repeat' split at h) <;> cases h
  exact hP.abortEpisode _ _ hs

theorem extendEffect {body : List Byte} {s t : State} {b : ReplyBody} (h : extendEffect body s = .ok t b) (hs : P s) : P t := by
  unfold Machine.extendEffect at h
  dsimp only at h
  (repeat' split at h) <;> cases h
  exact hP.rewrite hs (by simp)

/-- ADD_RESERVATION takes its cells from the claimable room (R56). -/
theorem addReservationEffect {body : List Byte} {s t : State} {b : ReplyBody} (h : addReservationEffect body s = .ok t b)
    (hs : P s) : P t := by
  unfold Machine.addReservationEffect at h
  dsimp only at h
  (repeat' split at h) <;> cases h
  rename_i e he _ _ hroom
  exact hP.charge (fieldAt body 2 2) 0 hs (live?_ep? he) ((not_lt.1 hroom).trans (Nat.min_le_right _ _))

/-- The effect of every command of the host. -/
theorem performed {f : Frame} {s t : State} {b : ReplyBody} (h : performed f s = .ok t b) (hs : P s) : P t := by
  unfold Machine.performed at h
  split at h
  · rw [identifyEffect_keeps h]; exact hs
  · cases h
  · exact hP.frame hs (by simp [setPortEffect_keeps h])
  · exact hP.frame hs (by simp [enablePortEffect_keeps h])
  · unfold disablePortEffect at h
    split at h
    · exact hP.disableFlushEffect h hs
    · exact hP.disableDrainEffect h hs
  · exact hP.frame hs (by simp [resumePortEffect_keeps h])
  · exact hP.frame hs (by simp [portStatusEffect_keeps h])
  · exact hP.frame hs (by simp [setRateEffect_keeps h])
  · exact hP.frame hs (by simp [commitRateEffect_keeps h])
  · rw [rateStatusEffect_keeps h]; exact hs
  · rw [listEpisodesEffect_keeps h]; exact hs
  · rw [episodeStatusEffect_keeps h]; exact hs
  · exact hP.haltEffect h hs
  · exact hP.haltEffect h hs
  · exact hP.abortEffect h hs
  · exact hP.extendEffect h hs
  · exact hP.addReservationEffect h hs
  · unfold captureEffect at h; split at h <;> cases h
  · rw [readCountersEffect_keeps h]; exact hs
  · exact hP.frame hs (by simp [clearCountersEffect_keeps h])
  · exact hP.frame hs (by simp [setThresholdEffect_keeps h])
  · rw [storeStatusEffect_keeps h]; exact hs
  · exact hP.frame hs (by simp [setPoolEffect_keeps h])
  · exact hP.frame hs (by simp [linkStatusEffect_keeps h])
  · exact hP.frame hs (by simp [setLinkParamsEffect_keeps h])
  · exact hP.frame hs (by simp [relinkEffect_keeps h])
  · cases h

/-! ### Steps -/

/-- The effect of every row that is an event of its own. -/
theorem eventOf {i : Instr} {effect : State → State} (hi : eventOf? i = some effect) (s : State) (h : P s) : P (effect s) := by
  cases i with
  | transmitComplete => cases hi; exact hP.transmitDone s h
  | pacerTick => cases hi; exact hP.pacerTick s h
  | grantTimerExpiry slot position number => cases hi; exact hP.expireGrant s slot position number h
  | deadlineExpiry slot => cases hi; exact hP.takeDeadline s slot h
  | idleExpiry slot => cases hi; exact hP.takeIdle s slot h
  | lingerExpiry slot => cases hi; exact hP.takeLinger s slot h
  | payloadWord last count data =>
    cases hi; exact hP.takeWord s _ _ (fun _ => id) (fun t => hP.takePayload t last count data) h
  | sighting port requester tag n e cls report =>
    cases hi; exact hP.takeWord s _ _ (fun _ => id) (fun t => hP.sightingWord t _ _) h
  | storeWriteComplete => cases hi; exact hP.finishWrite s h
  | releaseReadComplete corrected uncorrectable => cases hi; exact hP.finishRead s corrected uncorrectable h
  | parameterBlock linkId laneCount portCount maxLength checksum =>
    cases hi
    exact hP.takeWord s _ _ (fun t ht => hP.frame ht (by simp)) (fun t ht => hP.frame ht (by simp)) h
  | packetDescriptor port flags length dest src tag grant =>
    cases hi; exact hP.takeWord s _ _ (fun _ => id) (fun t ht => hP.frame ht (by simp)) h
  | divertStarted port =>
    cases hi
    exact hP.takeWord s _ _ (fun _ => id) (fun t => hP.markerWord t port.toNat _ (by simp)) h
  | divertStopped port =>
    cases hi
    exact hP.takeWord s _ _ (fun _ => id) (fun t => hP.markerWord t port.toNat _ (by simp)) h
  | statusWord full => cases hi; exact hP.takeWord s _ _ (fun _ => id) (fun t ht => hP.frame ht (by simp)) h
  | holdReturn => cases hi; exact hP.takeWord s _ _ (fun _ => id) (fun t ht => hP.frame ht (by simp)) h
  | resumeReturn => cases hi; exact hP.takeWord s _ _ (fun _ => id) (fun t ht => hP.frame ht (by simp)) h
  | idleWord => cases hi; exact hP.takeWord s _ _ (fun _ => id) (fun _ => id) h
  | unknownTypeWord marker => cases hi; exact hP.takeWord s _ _ (fun _ => id) (fun t ht => hP.frame ht (by simp)) h
  | _ => cases hi <;> exact hP.frame h (by simp)

/-- Every step keeps a property that the changes of the Episode Table keep. -/
theorem step {s t : State} (h : Machine.step s = .next t) (hs : P s) : P t := by
  refine step_inv (P := P) (fun s _ h => hP.frame (s := s) h rfl) (fun s _ h => hP.frame (s := s) h rfl)
    (fun s _ h => hP.frame (s := s) h rfl) (fun s _ h => hP.frame (s := s) h rfl) hP.consequences
    (fun f s t b => hP.performed) (fun i effect hi => hP.eventOf hi) (fun s h => ⟨hP.empty rfl, ?_⟩) s t h hs
  unfold State.releaseReset
  split
  · exact hP.empty rfl
  · exact h

end TableInvariant

end Sys2Proof.Machine
end

-- ==== Proofs: the invariants of the Episode Table ====
section
/-! The three invariants of the Episode Table, each by the changes of the table (`TableInvariant`): unique slots and keys (R1,
R2), reservations and borrowings within the store (R6, R49), and the rosters' limits (R35 to R38). -/

namespace Sys2Proof.Machine

/-! ### Unique slots and keys -/

/-- A figure of the records that a revision keeps. -/
theorem updAll_map {α : Type} {s : State} {f : Episode → Episode} (g : Episode → α) (h : ∀ e ∈ s.table.episodes, g (f e) = g e) :
    (s.updAll f).table.episodes.map g = s.table.episodes.map g := by
  simp only [State.updAll, List.map_map]
  exact List.map_congr_left h

/-- A figure of the records that a rewriting of one slot's record keeps. -/
theorem updEp_map {α : Type} {s : State} {slot : Nat} {f : Episode → Episode} (g : Episode → α) (h : ∀ e, g (f e) = g e) :
    (s.updEp slot f).table.episodes.map g = s.table.episodes.map g := by
  simp only [updEp_episodes, List.map_map]
  refine List.map_congr_left (fun e _ => ?_)
  simp only [Function.comp]
  split
  · exact h e
  · rfl

theorem slotsDistinct_of_map {s t : State} (h : t.table.episodes.map (fun e => e.slot) = s.table.episodes.map (fun e => e.slot))
    (hd : s.SlotsDistinct) : t.SlotsDistinct := by
  unfold State.SlotsDistinct
  rw [h]
  exact hd

theorem slotOrder_of_map {s t : State} (h : t.table.episodes.map (fun e => e.slot) = s.table.episodes.map (fun e => e.slot))
    (ho : s.SlotOrder) : t.SlotOrder := by
  unfold State.SlotOrder
  rw [h]
  exact ho

/-- A record placed with a value that no other has leaves the values of the records distinct. -/
theorem placeEpisode_nodup {α : Type} {s : State} {e : Episode} (g : Episode → α) (hn : (s.table.episodes.map g).Nodup)
    (habsent : ∀ x ∈ s.table.episodes, g x ≠ g e) : ((s.placeEpisode e).table.episodes.map g).Nodup := by
  refine ((insertEpisode_perm e s.table.episodes).map g).nodup_iff.2 ?_
  rw [List.map_cons, List.nodup_cons]
  refine ⟨fun hm => ?_, hn⟩
  obtain ⟨x, hx, hxg⟩ := List.mem_map.1 hm
  exact habsent x hx hxg

theorem placeEpisode_slots {s : State} {e : Episode} (hd : s.SlotsDistinct) (hs : s.freeSlot? = some e.slot) :
    (s.placeEpisode e).SlotsDistinct :=
  placeEpisode_nodup _ hd (freeSlot?_eq_some.1 hs).2.1

theorem freeEpisode_sublist (s : State) (slot : Nat) : (s.freeEpisode slot).table.episodes.Sublist s.table.episodes :=
  List.filter_sublist

theorem freeEpisode_slots {s : State} (slot : Nat) (hd : s.SlotsDistinct) : (s.freeEpisode slot).SlotsDistinct :=
  List.Nodup.sublist ((freeEpisode_sublist s slot).map _) hd

/-- With unique keys, a free key is no record's (R1). -/
theorem keyFree_absent {s : State} {k : Key} (h : s.KeyFree State.KeysUnique k) : ∀ x ∈ s.table.episodes, x.key ≠ k := by
  rcases h with h | ⟨u, old, ⟨-, hkeys⟩, hold, rfl, rfl⟩
  · exact lookup_eq_none.1 h
  · intro x hx hk
    obtain ⟨hxu, hxs⟩ := List.mem_filter.1 hx
    have : x = old := List.inj_on_of_nodup_map hkeys hxu hold hk
    simp [this] at hxs

theorem keysUnique_of_map {s t : State} (hslots : t.table.episodes.map (fun e => e.slot) = s.table.episodes.map (fun e => e.slot))
    (hkeys : t.table.episodes.map (fun e => e.key) = s.table.episodes.map (fun e => e.key)) (h : s.KeysUnique) : t.KeysUnique :=
  ⟨slotsDistinct_of_map hslots h.1, by rw [hkeys]; exact h.2⟩

theorem keysUnique_tableInvariant : TableInvariant State.KeysUnique where
  frame h ht := keysUnique_of_map (by rw [ht]) (by rw [ht]) h
  distinct h := h.1
  empty h := by unfold State.KeysUnique State.SlotsDistinct; rw [h]; simp
  reviseAll h hf := keysUnique_of_map (updAll_map _ (fun e he => (hf e he).slot)) (updAll_map _ (fun e he => (hf e he).key)) h
  charge _ _ h _ _ := keysUnique_of_map (updEp_map _ (fun _ => rfl)) (updEp_map _ (fun _ => rfl)) h
  enter h _ _ _ _ _ := keysUnique_of_map (updEp_map _ (fun _ => rfl)) (updEp_map _ (fun _ => rfl)) h
  place h hs hk _ _ _ _ := ⟨placeEpisode_slots h.1 hs, placeEpisode_nodup _ h.2 (keyFree_absent hk)⟩
  free slot h := ⟨freeEpisode_slots slot h.1, List.Nodup.sublist ((freeEpisode_sublist _ slot).map _) h.2⟩

/-- Settles O58: the changes of the Episode Table keep its slots and keys unique. -/
theorem stepsKeepEpisodeKeysUnique : Obligations.StepsKeepEpisodeKeysUnique :=
  fun _ _ => keysUnique_tableInvariant.step

/-! ### The store -/

/-- The cells of the store that a record stands for: its reservation while it is open, and what it has borrowed (R76). -/
def Episode.share (e : Episode) : Nat := (if e.isOpen then e.reservation else 0) + e.borrowed

theorem sum_filter_map {α : Type} (p : α → Bool) (f : α → Nat) (l : List α) :
    ((l.filter p).map f).sum = (l.map (fun x => if p x then f x else 0)).sum := by
  induction l with
  | nil => rfl
  | cons x l ih => by_cases h : p x <;> simp [h, ih]

/-- ΣR + ΣB is the sum of the records' shares (R76). -/
theorem sumR_add_sumB (s : State) : s.sumR + s.sumB = (s.table.episodes.map Episode.share).sum := by
  unfold State.sumR State.sumB Episode.share
  rw [sum_filter_map, ← List.sum_map_add]

theorem storeBound_iff {s : State} :
    s.StoreBound ↔ s.SlotsDistinct ∧ (s.table.episodes.map Episode.share).sum ≤ Config.cellCount := by
  unfold State.StoreBound
  rw [sumR_add_sumB]

theorem Episode.Revises.share_le {x y : Episode} (h : x.Revises y) : y.share ≤ x.share := by
  have hb := h.borrowed
  unfold Episode.share
  rw [h.reservation]
  by_cases hy : y.isOpen = true
  · rw [if_pos hy, if_pos (h.stays hy)]; omega
  · rw [if_neg hy]; omega

/-- With distinct slots, a rewriting of one record changes a sum over the records by that record's term. -/
theorem sum_updEp {s : State} {slot : Nat} {e : Episode} (hd : s.SlotsDistinct) (he : s.ep? slot = some e)
    (f : Episode → Episode) (g : Episode → Nat) :
    ((s.updEp slot f).table.episodes.map g).sum + g e = (s.table.episodes.map g).sum + g (f e) := by
  obtain ⟨hmem, rfl⟩ := ep?_some he
  rw [updEp_episodes]
  unfold State.SlotsDistinct at hd
  generalize s.table.episodes = l at hd hmem
  induction l with
  | nil => cases hmem
  | cons x l ih =>
    rw [List.map_cons, List.nodup_cons] at hd
    obtain ⟨hx, hl⟩ := hd
    rcases List.mem_cons.1 hmem with rfl | hmem
    · have hrest : l.map (fun y => if y.slot == e.slot then f y else y) = l := by
        conv_rhs => rw [← List.map_id l]
        refine List.map_congr_left (fun y hy => ?_)
        rw [if_neg]
        · rfl
        · simpa using fun q : y.slot = e.slot => hx (q ▸ List.mem_map_of_mem hy)
      simp only [List.map_cons, hrest, List.sum_cons, beq_self_eq_true, if_true]
      omega
    · have hne : ¬ (x.slot == e.slot) = true := by
        simpa using fun q : x.slot = e.slot => hx (q ▸ List.mem_map_of_mem hmem)
      simp only [List.map_cons, if_neg hne, List.sum_cons]
      have := ih hl hmem
      omega

theorem storeBound_tableInvariant : TableInvariant State.StoreBound where
  frame h ht := by
    rw [storeBound_iff] at h ⊢
    exact ⟨slotsDistinct_of_map (by rw [ht]) h.1, by rw [ht]; exact h.2⟩
  distinct h := h.1
  empty h := by rw [storeBound_iff]; unfold State.SlotsDistinct; rw [h]; simp
  reviseAll {s f} h hf := by
    rw [storeBound_iff] at h ⊢
    refine ⟨slotsDistinct_of_map (updAll_map _ (fun e he => (hf e he).slot)) h.1, le_trans ?_ h.2⟩
    simp only [State.updAll, List.map_map]
    exact List.sum_le_sum (fun e he => (hf e he).share_le)
  charge {s slot e} reserved borrowed h he hroom := by
    have hsum := sum_updEp h.1 he
      (fun x => { x with reservation := x.reservation + reserved, borrowed := x.borrowed + borrowed }) Episode.share
    have hshare : Episode.share { e with reservation := e.reservation + reserved, borrowed := e.borrowed + borrowed } ≤
        e.share + (reserved + borrowed) := by
      unfold Episode.share Episode.isOpen
      dsimp only
      split <;> omega
    have htotal := sumR_add_sumB s
    rw [storeBound_iff] at h ⊢
    refine ⟨slotsDistinct_of_map (updEp_map _ (fun _ => rfl)) h.1, ?_⟩
    have := h.2
    omega
  enter {s slot e r} h he _ _ _ _ := by
    rw [storeBound_iff] at h ⊢
    have hshares : (s.updEp slot (fun x => { x with roster := x.roster ++ [r] })).table.episodes.map Episode.share =
        s.table.episodes.map Episode.share := updEp_map _ (fun _ => rfl)
    exact ⟨slotsDistinct_of_map (updEp_map _ (fun _ => rfl)) h.1, by rw [hshares]; exact h.2⟩
  place {s e} h hs _ hroom hb _ _ := by
    have htotal := sumR_add_sumB s
    rw [storeBound_iff] at h ⊢
    refine ⟨placeEpisode_slots h.1 hs, ?_⟩
    have hsum : ((s.placeEpisode e).table.episodes.map Episode.share).sum =
        e.share + (s.table.episodes.map Episode.share).sum :=
      ((insertEpisode_perm e s.table.episodes).map Episode.share).sum_eq
    have hshare : e.share ≤ e.reservation := by
      unfold Episode.share
      rw [hb]
      split <;> omega
    have := h.2
    omega
  free slot h := by
    rw [storeBound_iff] at h ⊢
    exact ⟨freeEpisode_slots slot h.1, le_trans (((freeEpisode_sublist _ slot).map _).sum_le_sum (by simp)) h.2⟩

/-- Settles O59: the changes of the Episode Table keep ΣR + ΣB within the store. -/
theorem stepsKeepReservationsAndBorrowingsWithinTheStore : Obligations.StepsKeepReservationsAndBorrowingsWithinTheStore :=
  fun _ _ => storeBound_tableInvariant.step

/-! ### The rosters -/

/-- A record's roster is within its limit, of distinct endpoints, and lawful (R36, R37). -/
def Episode.RosterSound (e : Episode) : Prop :=
  e.roster.length ≤ e.rosterLimit ∧ e.rosterLimit ≤ 64 ∧ (e.roster.map (fun r => r.endpoint)).Nodup ∧
    ∀ r ∈ e.roster, r.Lawful

theorem rosterLaw_iff {s : State} : s.RosterLaw ↔ s.SlotOrder ∧ (∀ e ∈ s.table.episodes, e.slot < 1024) ∧
    (s.table.episodes.map (fun e => e.roster.length)).sum ≤ 16384 ∧ ∀ e ∈ s.table.episodes, e.RosterSound := Iff.rfl

theorem Episode.Revises.rosterSound {x y : Episode} (h : x.Revises y) (hx : x.RosterSound) : y.RosterSound := by
  obtain ⟨hlen, hlimit, hends, hlaw⟩ := hx
  refine ⟨?_, ?_, ?_, h.lawful hlaw⟩
  · rw [h.length, h.limit]; exact hlen
  · rw [h.limit]; exact hlimit
  · rw [h.endpoints]; exact hends

/-- A responder without an entry is entered below the limit (R36). -/
theorem Episode.RosterSound.enter {e : Episode} {r : Responder} (h : e.RosterSound) (hnew : e.find? r.endpoint = none)
    (hlimit : e.roster.length < e.rosterLimit) (hr : r.Lawful) :
    Episode.RosterSound { e with roster := e.roster ++ [r] } := by
  obtain ⟨-, hmax, hends, hlaw⟩ := h
  refine ⟨by rw [List.length_append]; exact hlimit, hmax, ?_, ?_⟩
  · rw [List.map_append, List.nodup_append]
    refine ⟨hends, by simp, fun x hx y hy => ?_⟩
    obtain ⟨z, hz, rfl⟩ := List.mem_map.1 hx
    simp only [Episode.find?, List.find?_eq_none, beq_iff_eq] at hnew
    simp only [List.map_cons, List.map_nil, List.mem_singleton] at hy
    exact hy ▸ hnew z hz
  · intro x hx
    rcases List.mem_append.1 hx with hx | hx
    · exact hlaw x hx
    · exact (List.mem_singleton.1 hx) ▸ hr

theorem rosterLaw_tableInvariant : TableInvariant State.RosterLaw where
  frame h ht := by
    rw [rosterLaw_iff] at h ⊢
    rw [ht]
    exact ⟨slotOrder_of_map (by rw [ht]) h.1, h.2⟩
  distinct h := h.1.imp (fun h => h.ne)
  empty h := by rw [rosterLaw_iff]; unfold State.SlotOrder; rw [h]; simp
  reviseAll {s f} h hf := by
    rw [rosterLaw_iff] at h ⊢
    obtain ⟨horder, hslots, hpool, hsound⟩ := h
    refine ⟨slotOrder_of_map (updAll_map _ (fun e he => (hf e he).slot)) horder, fun x hx => ?_, ?_, fun x hx => ?_⟩
    · obtain ⟨e, he, rfl⟩ := List.mem_map.1 hx
      exact (hf e he).slot ▸ hslots e he
    · rw [updAll_map _ (fun e he => (hf e he).length)]
      exact hpool
    · obtain ⟨e, he, rfl⟩ := List.mem_map.1 hx
      exact (hf e he).rosterSound (hsound e he)
  charge {s slot e} reserved borrowed h he _ := by
    rw [rosterLaw_iff] at h ⊢
    obtain ⟨horder, hslots, hpool, hsound⟩ := h
    refine ⟨slotOrder_of_map (updEp_map _ (fun _ => rfl)) horder, fun x hx => ?_, ?_, fun x hx => ?_⟩
    · obtain ⟨e, he, rfl⟩ := List.mem_map.1 hx
      dsimp only
      split <;> exact hslots e he
    · exact le_of_eq_of_le (congrArg List.sum (updEp_map _ (fun _ => rfl))) hpool
    · obtain ⟨e, he, rfl⟩ := List.mem_map.1 hx
      dsimp only
      split <;> exact hsound e he
  enter {s slot e r} h he hnew hlimit hfree hr := by
    have hd : s.SlotsDistinct := h.1.imp (fun h => h.ne)
    rw [rosterLaw_iff] at h ⊢
    obtain ⟨horder, hslots, hpool, hsound⟩ := h
    refine ⟨slotOrder_of_map (updEp_map _ (fun _ => rfl)) horder, fun x hx => ?_, ?_, fun x hx => ?_⟩
    · obtain ⟨y, hy, rfl⟩ := List.mem_map.1 hx
      dsimp only
      split <;> exact hslots y hy
    · have hsum := sum_updEp hd he (fun x => { x with roster := x.roster ++ [r] }) (fun e => e.roster.length)
      unfold State.freeEntries at hfree
      simp only [List.length_append, List.length_singleton, Config.rosterEntries] at hsum hfree
      omega
    · obtain ⟨y, hy, rfl⟩ := List.mem_map.1 hx
      dsimp only
      split
      · rename_i hys
        rw [eq_of_slot hd he hy (by simpa using hys)]
        exact (hsound e (ep?_some he).1).enter hnew hlimit hr
      · exact hsound y hy
  place {s e} h hs _ _ _ hroster hlimit := by
    rw [rosterLaw_iff] at h ⊢
    obtain ⟨horder, hslots, hpool, hsound⟩ := h
    obtain ⟨hlt, hnone, -⟩ := freeSlot?_eq_some.1 hs
    have hperm := insertEpisode_perm e s.table.episodes
    refine ⟨insertEpisode_sorted horder hnone, fun x hx => ?_, ?_, fun x hx => ?_⟩
    · rcases List.mem_cons.1 (hperm.mem_iff.1 hx) with rfl | hx
      · exact hlt
      · exact hslots x hx
    · have hsum : ((s.placeEpisode e).table.episodes.map (fun x => x.roster.length)).sum =
          e.roster.length + (s.table.episodes.map (fun x => x.roster.length)).sum := (hperm.map _).sum_eq
      rw [hsum, hroster]
      simpa using hpool
    · rcases List.mem_cons.1 (hperm.mem_iff.1 hx) with rfl | hx
      · simp [Episode.RosterSound, hroster, hlimit]
      · exact hsound x hx
  free {s} slot h := by
    rw [rosterLaw_iff] at h ⊢
    obtain ⟨horder, hslots, hpool, hsound⟩ := h
    have hsub := freeEpisode_sublist s slot
    exact ⟨horder.sublist (hsub.map _), fun x hx => hslots x (hsub.subset hx),
      ((hsub.map _).sum_le_sum (by simp)).trans hpool, fun x hx => hsound x (hsub.subset hx)⟩

/-- Settles O55: the changes of the Episode Table keep the rosters' limits and the slot order. -/
theorem stepsKeepRostersWithinTheirLimits : Obligations.StepsKeepRostersWithinTheirLimits :=
  fun _ _ => rosterLaw_tableInvariant.step

end Sys2Proof.Machine
end

-- ==== Proofs: how episodes close and complete ====
section
/-! What the closing operations do to the record of a slot (R11, R13, R14), one equation each; the statement on them (O23) is
these equations, with the record's fields written out. -/

namespace Sys2Proof.Machine

theorem updEp_eq (s : State) (slot : Nat) (f : Episode → Episode) :
    s.updEp slot f =
      { s with table := { s.table with episodes := s.table.episodes.map (fun x => if x.slot = slot then f x else x) } } := by
  unfold State.updEp
  simp only [beq_iff_eq]

theorem Episode.isEmpty_iff {e : Episode} : e.isEmpty = true ↔ e.heldOwn = 0 ∧ e.borrowed = 0 := by
  simp [Episode.isEmpty]

theorem closedNoticeCalled_eq (policy : NoticePolicy) (e : Episode) :
    closedNoticeCalled policy e =
      (match policy with | .none => false | .marked => decide (e.origin = .sighted) && e.report | .every => true) := by
  cases policy with
  | none => rfl
  | marked => cases h : e.origin <;> simp [closedNoticeCalled, h]
  | every => rfl

theorem closeEpisode_some {s : State} {slot : Nat} {e : Episode} (he : s.ep? slot = some e) :
    s.closeEpisode slot =
      (s.updEp slot (fun x => { x with linger := some ⟨(s.policy e.key.group).linger, false⟩ })).raiseClosed e := by
  unfold State.closeEpisode
  rw [he]

theorem closeIfEmpty_some {s : State} {slot : Nat} {e : Episode} (he : s.ep? slot = some e) :
    s.closeIfEmpty slot =
      if e.state = .linger ∧ e.linger = none ∧ e.heldOwn = 0 ∧ e.borrowed = 0 then s.closeEpisode slot else s := by
  unfold State.closeIfEmpty
  rw [he]
  simp [Episode.isEmpty_iff, and_assoc]

theorem afterEmptying_some {s : State} {slot : Nat} {e : Episode} (he : s.ep? slot = some e) :
    s.afterEmptying slot =
      if e.state = .draining ∧ e.heldOwn = 0 ∧ e.borrowed = 0 then
        (s.updEp slot (fun x => x.toLinger (if x.expired then .expired else .completed))).closeIfEmpty slot
      else s.closeIfEmpty slot := by
  unfold State.afterEmptying
  rw [he]
  simp [Episode.isEmpty_iff]

theorem testCompletion_some {s : State} {slot : Nat} {e : Episode} (he : s.ep? slot = some e) :
    s.testCompletion slot =
      if e.origin = .sighted ∧ e.state = .active ∧ e.n = some e.finished then s.completeEpisode slot else s := by
  unfold State.testCompletion
  rw [he]
  simp [and_assoc]

/-- A FREE slot's episode neither closes nor completes. -/
theorem closing_of_none {s : State} {slot : Nat} (h : s.ep? slot = none) :
    s.closeEpisode slot = s ∧ s.closeIfEmpty slot = s ∧ s.afterEmptying slot = s ∧ s.testCompletion slot = s := by
  unfold State.closeEpisode State.closeIfEmpty State.afterEmptying State.testCompletion
  simp only [h, and_self]

theorem Responder.withdraw_eq (r : Responder) :
    r.withdraw = { r with grants := [], state := if r.state = .granted then .waiting else r.state } := by
  unfold Responder.withdraw
  simp only [beq_iff_eq]

/-- Settles O23, one equation for each closing operation. -/
theorem episodesCloseWhenEmptyAndComplete : Obligations.EpisodesCloseWhenEmptyAndComplete := by
  refine ⟨fun s slot h => closing_of_none h, ?_⟩
  intro s slot e he set called closed
  have hset : ∀ f, set f = s.updEp slot f := fun f => (updEp_eq s slot f).symm
  refine ⟨?_, closeIfEmpty_some he, ?_, ?_, testCompletion_some he⟩
  · have hcalled : closedNoticeCalled (s.policy e.key.group).notice e = called := closedNoticeCalled_eq _ _
    rw [closeEpisode_some he, ← hcalled]
    simp only [closed, hset]
    rfl
  · rw [afterEmptying_some he, hset]
    rfl
  · simp only [hset, ← Responder.withdraw_eq]
    rfl

end Sys2Proof.Machine
end

-- ==== Proofs: how episodes expire ====
section
/-! The expiries of deadline, idle and linger counters (R12, R15, R18 to R22): each row as the state that its event ends in, and
the UNPACE frames of an expiry that takes its group into DRAIN_OUT (R69, R163). -/

namespace Sys2Proof.Machine

/-- How a row that is an event of its own ends: the state its effect gives, and what follows. -/
theorem endsAt_event {i : Instr} {s u : State} {effect : State → State} (hi : eventOf? i = some effect) (hr : Runs s)
    (hu : effect s.begun = u) : EndsAt i s u := by
  unfold EndsAt
  rw [exec_event i s effect hi]
  exact event_runs s hr effect u hu

/-! ### Idle and linger expiries -/

theorem takeIdle_due {s : State} {slot : Nat} {e : Episode} {c : Countdown} (he : s.ep? slot = some e) (hs : e.state = .active)
    (hi : e.idle = some c) (hc : c.due = true) : s.takeIdle slot = (s.updEp slot Episode.toDraining).afterEmptying slot := by
  unfold State.takeIdle
  rw [he]
  simp [hs, hi, hc]

theorem takeLinger_due {s : State} {slot : Nat} {e : Episode} {c : Countdown} (he : s.ep? slot = some e) (hs : e.state = .linger)
    (hl : e.linger = some c) (hc : c.due = true) : s.takeLinger slot = s.freeEpisode slot := by
  unfold State.takeLinger
  rw [he]
  simp [Episode.isClosed, hs, hl, hc]

/-- Settles O25: each row takes its due expiry in the state the event begins with. -/
theorem idleAndLingerExpiryEndAndFree : Obligations.IdleAndLingerExpiryEndAndFree := by
  refine ⟨fun s slot e c hr he hs hi hc => ?_, fun s slot e c hr he hs hl hc => ?_⟩
  · exact endsAt_event rfl hr (takeIdle_due (s := s.begun) he hs hi hc)
  · exact endsAt_event rfl hr (takeLinger_due (s := s.begun) he hs hl hc)

/-! ### The parts of a deadline expiry -/

theorem takeDeadline_due {s : State} {slot : Nat} {e : Episode} (h : DeadlineDue s slot e) :
    s.takeDeadline slot = s.expireDeadline slot e := by
  obtain ⟨he, hd⟩ := h
  cases hx : e.deadline with
  | none => simp [hx] at hd
  | some d =>
    simp only [hx, Option.any_some, Bool.and_eq_true, decide_eq_true_eq] at hd
    unfold State.takeDeadline
    simp only [he, hx, hd.1, hd.2, if_true]

/-- A due deadline that was reloaded runs on (R22). -/
theorem takeDeadline_reloaded {s : State} {slot : Nat} {e : Episode} {d : Deadline} (he : s.ep? slot = some e)
    (hd : e.deadline = some d) (hdue : d.due = true) (hv : 1 < d.value) :
    s.takeDeadline slot = s.updEp slot (fun x => { x with deadline := some { d with value := d.value - 1, due := false } }) := by
  unfold State.takeDeadline
  simp only [he, hd, hdue, if_true, if_neg (not_le.2 hv)]

theorem raiseExpired_eq (s : State) (slot : Nat) (e : Episode) (action : Option ExpiryAction) {pol : Policy}
    (hp : s.policy e.key.group = pol) :
    s.raiseExpired slot e action =
      if pol.notice = .none then s else s.raise (.episodeExpired ⟨⟨slot, s.generation slot⟩, e.key, e.state, action⟩) := by
  unfold State.raiseExpired
  rw [hp]
  simp only [beq_iff_eq]
  rfl

theorem standsDownAt_iff {s : State} {g : Nat} {type : EvType} : s.standsDownAt g type = true ↔
    (s.port g).state = .active ∧ protects (s.policy g).protect type = true ∧
      reachesThreshold (s.policy g).mode (vget (s.counterSet g).counts type.index 0) s.counters.threshold = true := by
  simp [State.standsDownAt, and_assoc]

/-- Whether a group stands down is read from the ports and the counters alone. -/
theorem standsDownAt_of_eq {s t : State} (hp : t.ports = s.ports) (hc : t.counters = s.counters) (g : Nat) (type : EvType) :
    t.standsDownAt g type = s.standsDownAt g type := by
  unfold State.standsDownAt State.policy State.counterSet State.port
  rw [hp, hc]

theorem unpaceExpiry_eq {s t : State} (hp : t.ports = s.ports) (hc : t.counters = s.counters) (g : Nat) :
    t.unpaceExpiry g = if (s.port g).state = .active ∧ protects (s.policy g).protect .expire = true ∧
      reachesThreshold (s.policy g).mode (vget (s.counterSet g).counts 5 0) s.counters.threshold = true
      then t.unpaceGroup g else t := by
  unfold State.unpaceExpiry
  rw [standsDownAt_of_eq hp hc]
  exact ite_congr (propext standsDownAt_iff) (fun _ => rfl) (fun _ => rfl)

/-- Where a count reaches T (R161, R162). -/
theorem reachesThreshold_iff (mode : CounterMode) (old limit : Nat) :
    reachesThreshold mode old limit = true ↔
      (if old < 255 then old + 1 else if mode = .wrap then 0 else old) ≠ old ∧
        (if old < 255 then old + 1 else if mode = .wrap then 0 else old) = limit := by
  have hnew : bumpCount mode old = if old < 255 then old + 1 else if mode = .wrap then 0 else old := by
    unfold bumpCount
    cases mode <;> simp
  simp only [reachesThreshold, hnew, Bool.and_eq_true, bne_iff_ne, beq_iff_eq]

theorem teardown_eq (s : State) (slot : Nat) (discards : Bool) :
    s.teardown slot discards =
      if discards then ((s.unpaceEpisode slot).updEp slot Episode.withdrawAll).updEp slot Episode.discardHeld
      else (s.unpaceEpisode slot).updEp slot Episode.withdrawAll := rfl

theorem Episode.withdrawAll_eq : Episode.withdrawAll = fun x => { x with roster := x.roster.map (fun r =>
    { r with grants := [], state := if r.state = .granted then .waiting else r.state }) } := by
  funext x
  unfold Episode.withdrawAll
  rw [funext Responder.withdraw_eq]

/-! ### An expiry that takes its group into DRAIN_OUT -/

/-- The records' slots and keys, by which they are found. -/
theorem ep?_key_of_map {s t : State} {slot : Nat} {e : Episode}
    (h : t.table.episodes.map (fun x => (x.slot, x.key)) = s.table.episodes.map (fun x => (x.slot, x.key)))
    (he : s.ep? slot = some e) : ∃ x, t.ep? slot = some x ∧ x.key = e.key := by
  have hfound : ∀ u : State, (u.ep? slot).map (fun x => (x.slot, x.key)) =
      (u.table.episodes.map (fun x => (x.slot, x.key))).find? (fun p => p.1 == slot) := by
    intro u
    rw [List.find?_map]
    rfl
  have heq := (hfound t).trans ((congrArg _ h).trans (hfound s).symm)
  rw [he] at heq
  obtain ⟨x, hx, hk⟩ := Option.map_eq_some_iff.1 heq
  exact ⟨x, hx, congrArg Prod.snd hk⟩

theorem unpaceGroup_slotsKeys (s : State) (g : Nat) (hd : s.SlotsDistinct) :
    (s.unpaceGroup g).table.episodes.map (fun x => (x.slot, x.key)) = s.table.episodes.map (fun x => (x.slot, x.key)) := by
  rw [unpaceGroup_eq s g hd, List.map_map]
  refine List.map_congr_left (fun x _ => ?_)
  simp only [Function.comp]
  split
  · rw [Episode.unpace_slot, Episode.unpace_group]
  · rfl

/-- The UNPACE frames of a drain group, episode by episode in the order of the table. -/
def State.groupFrames (s : State) (g : Nat) : List GrantFrame :=
  (s.table.episodes.filter (fun x => x.key.group == g)).flatMap Episode.unpaceFrames

/-- A rewriting that keeps key and frames of each record keeps the group's frames. -/
theorem updEp_groupFrames (s : State) (slot g : Nat) {f : Episode → Episode}
    (hf : ∀ x, (f x).key = x.key ∧ (f x).unpaceFrames = x.unpaceFrames) :
    (s.updEp slot f).groupFrames g = s.groupFrames g := by
  unfold State.groupFrames
  rw [updEp_episodes]
  induction s.table.episodes with
  | nil => rfl
  | cons x l ih =>
    have hx : (if x.slot == slot then f x else x).key = x.key ∧
        (if x.slot == slot then f x else x).unpaceFrames = x.unpaceFrames := by
      split
      · exact hf x
      · exact ⟨rfl, rfl⟩
    rw [List.map_cons, List.filter_cons, List.filter_cons, hx.1]
    split
    · rw [List.flatMap_cons, List.flatMap_cons, hx.2, ih]
    · exact ih

/-- Where the group stands down, the teardown of an expiring episode finds nothing left to unpace: the group's frames have been
produced in slot order (R69). -/
theorem teardown_of_standDown {s : State} {slot g : Nat} {e : Episode} (discards : Bool) (hd : s.SlotsDistinct)
    (he : s.ep? slot = some e) (hg : e.key.group = g) (hs : s.standsDownAt g .expire = true) :
    ((s.unpaceExpiry g).teardown slot discards).Unpaced g ∧
      ((s.unpaceExpiry g).teardown slot discards).sched = (s.groupFrames g).foldl Scheduler.join s.sched := by
  have hu : s.unpaceExpiry g = s.unpaceGroup g := if_pos hs
  obtain ⟨x, hx, hk⟩ := ep?_key_of_map (unpaceGroup_slotsKeys s g hd) he
  rw [hu]
  obtain ⟨hun, hsched⟩ := teardown_unpaced discards (unpaceGroup_unpaced s g hd) hx (by rw [hk, hg])
  exact ⟨hun, by rw [hsched, unpaceGroup_eq s g hd]; rfl⟩

/-- The EXPIRE count that takes an unpaced group into DRAIN_OUT makes no further frame (R69, R163). -/
theorem count_of_standDown {s t : State} {g : Nat} (hg : g < 48) (hun : t.Unpaced g) (hp : t.ports = s.ports)
    (hc : t.counters = s.counters) (hs : s.standsDownAt g .expire = true) :
    ((t.count g .expire).port g).state = .drainOut ∧ (t.count g .expire).sched = t.sched := by
  rw [count_portState t g .expire hg, standsDownAt_of_eq hp hc, hs]
  exact ⟨rfl, count_sched .expire hun⟩

/-- An expiring ACTIVE episode whose EXPIRE count takes its group into DRAIN_OUT: the group's UNPACE frames are produced once,
episode by episode in the order of the table (R69, R163). -/
theorem expireDeadline_standDown {s : State} {slot : Nat} {e : Episode} (hd : s.SlotsDistinct) (he : s.ep? slot = some e)
    (ha : e.state = .active) (hg : e.key.group < 48) (hs : s.standsDownAt e.key.group .expire = true) :
    ((s.expireDeadline slot e).port e.key.group).state = .drainOut ∧
      (s.expireDeadline slot e).sched = (s.groupFrames e.key.group).foldl Scheduler.join s.sched := by
  have htold : ∀ (t u : State) (action : Option ExpiryAction),
      (t.port e.key.group).state = .drainOut ∧ t.sched = u.sched →
      ((t.raiseExpired slot e action).port e.key.group).state = .drainOut ∧ (t.raiseExpired slot e action).sched = u.sched := by
    intro t u action h
    unfold State.port at h ⊢
    simpa using h
  have hstart : ∀ f : Episode → Episode, (∀ x, (f x).slot = x.slot ∧ (f x).key = x.key ∧ (f x).unpaceFrames = x.unpaceFrames) →
      ∀ discards, (((s.updEp slot f).unpaceExpiry e.key.group).teardown slot discards).Unpaced e.key.group ∧
        (((s.updEp slot f).unpaceExpiry e.key.group).teardown slot discards).sched =
          (s.groupFrames e.key.group).foldl Scheduler.join s.sched := by
    intro f hf discards
    obtain ⟨x, hx, hk⟩ := ep?_key_of_map (t := s.updEp slot f)
      (updEp_map _ (fun y => by rw [(hf y).1, (hf y).2.1])) he
    obtain ⟨hun, hsched⟩ := teardown_of_standDown (g := e.key.group) discards
      (slotsDistinct_of_map (updEp_map _ (fun y => (hf y).1)) hd) hx (by rw [hk])
      (by rw [standsDownAt_of_eq (s := s) (by simp) (by simp)]; exact hs)
    exact ⟨hun, by rw [hsched, updEp_groupFrames s slot _ (fun y => (hf y).2)]; simp⟩
  unfold State.expireDeadline
  rw [ha]
  dsimp only
  split
  · obtain ⟨hun, hsched⟩ := hstart (fun x => { x.toDraining with expired := true }) (fun _ => ⟨rfl, rfl, rfl⟩) false
    have hc := count_of_standDown hg (afterEmptying_unpaced slot hun) (s := s) (by simp) (by simp) hs
    rw [← hsched]
    exact htold _ _ _ ⟨hc.1, by rw [hc.2]; simp⟩
  · obtain ⟨hun, hsched⟩ := hstart (fun x => { x.toLinger .expired with expired := true }) (fun _ => ⟨rfl, rfl, rfl⟩) true
    have hc := count_of_standDown hg (closeIfEmpty_unpaced slot hun) (s := s) (by simp) (by simp) hs
    rw [← hsched]
    exact htold _ _ _ ⟨hc.1, by rw [hc.2]; simp⟩

/-! ### Deadline expiry -/

theorem expireArmed_eq {s : State} {slot : Nat} {e : Episode} {pol : Policy} (hp : s.policy e.key.group = pol) :
    s.expireArmed slot e =
      let v := (s.updEp slot (fun x => { x.toLinger .expired with expired := true })).closeIfEmpty slot
      let u := v.count e.key.group .expire
      if pol.notice = .none then u else u.raise (.episodeExpired ⟨⟨slot, u.generation slot⟩, e.key, e.state, none⟩) :=
  raiseExpired_eq _ _ _ _ ((policy_of_setup (by simp) _).trans hp)

theorem expireDrain_eq {s : State} {slot : Nat} {e : Episode} {pol : Policy} (hp : s.policy e.key.group = pol) :
    s.expireDrain slot e =
      let u := ((((s.updEp slot (fun x => { x.toDraining with expired := true })).unpaceExpiry e.key.group).teardown slot
        false).afterEmptying slot).count e.key.group .expire
      if pol.notice = .none then u else u.raise (.episodeExpired ⟨⟨slot, u.generation slot⟩, e.key, e.state, some .drain⟩) :=
  raiseExpired_eq _ _ _ _ ((policy_of_setup (by simp) _).trans hp)

theorem expireDiscard_eq {s : State} {slot : Nat} {e : Episode} {pol : Policy} (hp : s.policy e.key.group = pol) :
    s.expireDiscard slot e =
      let u := ((((s.updEp slot (fun x => { x.toLinger .expired with expired := true })).unpaceExpiry e.key.group).teardown slot
        true).closeIfEmpty slot).count e.key.group .expire
      if pol.notice = .none then u else u.raise (.episodeExpired ⟨⟨slot, u.generation slot⟩, e.key, e.state, some .discard⟩) :=
  raiseExpired_eq _ _ _ _ ((policy_of_setup (by simp) _).trans hp)

/-- Settles O24: the row takes the due deadline by the episode's state and the policy's action; the stand-down by
`expireDeadline_standDown`. -/
theorem deadlineExpiryEndsTheEpisode : Obligations.DeadlineExpiryEndsTheEpisode := by
  refine ⟨?_, ?_, fun s slot e d hr he hd hdue hv => ?_, reachesThreshold_iff, fun _ _ => rfl, ?_⟩
  · intro s slot e hr hdue hstate g pol lingering draining ordersStandDown unpaced told
    refine endsAt_event rfl hr ((takeDeadline_due (s := s.begun) hdue).trans ?_)
    have hunpaced : ∀ u : State, u.ports = s.ports → u.counters = s.counters → u.unpaceExpiry g = unpaced u :=
      fun u hp hc => unpaceExpiry_eq hp hc g
    unfold State.expireDeadline
    rcases hstate with ha | ha
    · rw [if_pos ha, ha]
      exact expireArmed_eq (s := s.begun) rfl
    · have hnot : ¬ e.state = .armed := by rw [ha]; exact EpState.noConfusion
      rw [if_neg hnot, ha]
      dsimp only
      have hbegun : (s.begun.policy e.key.group).expiry = pol.expiry := rfl
      rw [hbegun]
      cases hx : pol.expiry with
      | drain =>
        rw [if_pos rfl, ← hunpaced draining (by simp [draining, State.begun]) (by simp [draining, State.begun])]
        exact expireDrain_eq (s := s.begun) rfl
      | discard =>
        rw [if_neg (by simp), ← hunpaced lingering (by simp [lingering, State.begun]) (by simp [lingering, State.begun])]
        exact expireDiscard_eq (s := s.begun) rfl
  · intro s slot e hd he ha hg hactive hprotects hreaches t
    exact expireDeadline_standDown hd he ha hg (standsDownAt_iff.2 ⟨hactive, hprotects, hreaches⟩)
  · exact endsAt_event rfl hr (takeDeadline_reloaded (s := s.begun) he hd hdue hv)
  · intro s slot discards withdrawn
    rw [teardown_eq, Episode.withdrawAll_eq]

end Sys2Proof.Machine
end

-- ==== Proofs: the episode commands ====
section
/-! The host's commands on episodes (R22, R25, R26, R28, R29, R56): the effect of each on the body of its row's frame, by its
tests in order, and the row as the state that its event ends in. -/

namespace Sys2Proof.Machine

/-- What a performed command comes to in the state its event begins with: the refusal or the changed state with the reply; the
engine holds CAPTURE (R95) and RESET_PART (R177). -/
def Performed.ends (s : State) (f : Frame) : Performed → State
  | .refuse status => s.refusal f.kind f.tag status
  | .ok t body => t.replied f.kind f.tag .ok body
  | .held => { s.begun with mgmt := { s.mgmt with engine := .capturing f.tag (handleAt f.body 0) } }
  | .accepted => { s.begun with mgmt := { s.mgmt with engine := .resetting } }.replied f.kind f.tag .accepted .nothing

theorem perform_ends (s : State) (f : Frame) : s.begun.perform f = (performed f s.begun).ends s f := by
  unfold State.perform
  cases performed f s.begun <;> rfl

/-- A command of the host on a part that serves it ends in what its performance comes to (R173). -/
theorem endsAt_served {i : Instr} {s u : State} {f : Frame} (hf : frameOf? i = some f) (h : Serves s)
    (hb : bodyLength f.kind = some (f.body.length, f.body.length)) (hl : f.body.length ≤ 1024)
    (hu : (performed f s.begun).ends s f = u) : EndsAt i s u := by
  refine endsAt_performs i s u f (exec_host i s f hf) h.1 hl ?_ ((perform_ends s f).trans hu)
  unfold sharedCheck
  simp [hb, h.2]

theorem begun_live? (s : State) (h : Handle) : s.begun.live? h = s.live? h := rfl

/-! ### Reports -/

/-- A handle is live exactly when its slot's generation is its own and the slot is not FREE (R2). -/
theorem live?_isSome_iff (s : State) (h : Handle) :
    (s.live? h).isSome = true ↔ s.generation h.slot = h.gen ∧ ∃ e ∈ s.table.episodes, e.slot = h.slot := by
  unfold State.live?
  by_cases hg : s.generation h.slot = h.gen <;> simp [hg, State.ep?]

/-- The slot after the last of 32 records, or 1,024 where fewer are reported (R29). -/
theorem nextSlot_eq {l : List Episode} (hl : l.length ≤ 32) :
    (if l.length = 32 then (l.getLast?.map (fun e => e.slot + 1)).getD Config.slotCount else Config.slotCount) =
      (match l.drop 31 with | last :: _ => last.slot + 1 | [] => 1024) := by
  by_cases h : l.length = 32
  · have hdrop : l.drop 31 = [l[31]] := by
      rw [List.drop_eq_getElem_cons (by omega), List.drop_eq_nil_of_le (by omega)]
    simp [hdrop, List.getLast?_eq_getElem?, h]
  · rw [if_neg h, List.drop_eq_nil_of_le (by omega)]

/-- LIST_EPISODES on the body of its row's frame (R29). -/
theorem listEpisodesEffect_eq (s : State) (port : Byte) (start : Half) :
    listEpisodesEffect ([port] ++ toBe 2 start.toNat) s.begun =
      (let found := ((s.groupEpisodes port.toNat).filter (fun e => decide (start.toNat ≤ e.slot))).take 32
       if 48 ≤ port.toNat then .refuse .badValue
       else if (s.port port.toNat).role = .pairOdd then .refuse .wrongPort
       else if 1024 < start.toNat then .refuse .badValue
       else .ok s.begun (.handles (found.map (fun e => ⟨e.slot, s.generation e.slot⟩))
        (match found.drop 31 with | last :: _ => last.slot + 1 | [] => 1024))) := by
  have hport : portAt ([port] ++ toBe 2 start.toNat) 0 = port.toNat := rfl
  have hstart : fieldAt ([port] ++ toBe 2 start.toNat) 1 2 = start.toNat := by
    simpa using fieldAt_half start [port] [] 1 rfl
  unfold listEpisodesEffect
  dsimp only
  rw [hport, hstart, begun_portRefusal]
  by_cases h48 : 48 ≤ port.toNat
  · simp only [if_pos h48]
  · by_cases hodd : (s.port port.toNat).role = .pairOdd
    · simp only [if_neg h48, if_pos hodd]
    · simp only [if_neg h48, if_neg hodd]
      rw [nextSlot_eq (List.length_take_le _ _)]
      rfl

/-- HALT_EPISODE and RESUME_EPISODE on the body of their rows' frames (R25). -/
theorem haltEffect_eq (s : State) (flag : Bool) (handle : Half) :
    haltEffect flag (toBe 2 handle.toNat) s.begun =
      (match s.live? (handleOf handle) with
       | none => .refuse .staleHandle
       | some e =>
        if e.state = .linger then .refuse .wrongState
        else .ok (s.begun.updEp e.slot (fun x => { x with halted := flag })) .nothing) := by
  unfold haltEffect
  rw [handleAt_alone, begun_live?]
  cases s.live? (handleOf handle) with
  | none => rfl
  | some e => cases h : e.state <;> simp [Episode.isOpen, h]

/-- A row of HALT_EPISODE or RESUME_EPISODE: the halted flag of the record written, and nothing else (R25). -/
theorem haltEffect_ends (s : State) (kind tag : Byte) (handle : Half) (flag : Bool) :
    (haltEffect flag (toBe 2 handle.toNat) s.begun).ends s ⟨kind, tag, toBe 2 handle.toNat⟩ =
      (match s.live? (handleOf handle) with
       | none => s.refusal kind tag .staleHandle
       | some e =>
        if e.state = .linger then s.refusal kind tag .wrongState
        else
          let records := s.table.episodes.map (fun x => if x.slot = e.slot then { x with halted := flag } else x)
          { s.begun with table := { s.table with episodes := records } }.replied kind tag .ok .nothing) := by
  rw [haltEffect_eq]
  cases s.live? (handleOf handle) with
  | none => rfl
  | some e =>
    dsimp only
    rw [updEp_eq]
    split_ifs <;> rfl

/-- Settles O19: the rows by their effects, a live handle by `live?_isSome_iff`. -/
theorem episodeReportsHandlesAndTheHaltedFlag : Obligations.EpisodeReportsHandlesAndTheHaltedFlag := by
  refine ⟨fun s tag port start hS => ?_, fun s tag handle hS => ?_, live?_isSome_iff, fun s tag handle hS => ⟨?_, ?_⟩⟩
  · refine endsAt_served rfl hS rfl (by simp [toBe]) ?_
    rw [show performed ⟨kindListEpisodes, tag, [port] ++ toBe 2 start.toNat⟩ s.begun = _ from listEpisodesEffect_eq s port start]
    dsimp only
    split_ifs <;> rfl
  · refine endsAt_served rfl hS rfl (by simp [toBe]) ?_
    rw [show performed ⟨kindEpisodeStatus, tag, toBe 2 handle.toNat⟩ s.begun =
      episodeStatusEffect (toBe 2 handle.toNat) s.begun from rfl]
    unfold episodeStatusEffect
    rw [handleAt_alone, begun_live?]
    cases s.live? (handleOf handle) <;> rfl
  · exact endsAt_served rfl hS rfl (by simp [toBe]) (haltEffect_ends s kindHaltEpisode tag handle true)
  · exact endsAt_served rfl hS rfl (by simp [toBe]) (haltEffect_ends s kindResumeEpisode tag handle false)

/-! ### The abort -/

/-- The withdrawal leaves no outstanding grant (R17). -/
theorem Episode.withdrawAll_granted (e : Episode) : e.withdrawAll.granted = 0 := by
  unfold Episode.granted
  rw [List.sum_eq_zero_iff]
  intro n hn
  obtain ⟨r, hr, rfl⟩ := List.mem_map.1 hn
  obtain ⟨x, -, rfl⟩ := List.mem_map.1 hr
  rfl

/-- The cells of the packets of one admission kind. -/
def cellsOfKind (l : List HeldPacket) (kind : HoldKind) : Nat :=
  ((l.filter (fun p => p.kind == kind)).map (fun p => cellsOf p.length)).sum

/-- Each discarded packet lowers the charge of its admission kind by its cells (R75). -/
theorem Episode.foldl_discard_charges (l : List HeldPacket) (e : Episode) :
    (l.foldl Episode.discard e).heldOwn = e.heldOwn - cellsOfKind l .own ∧
      (l.foldl Episode.discard e).borrowed = e.borrowed - cellsOfKind l .borrowed := by
  induction l generalizing e with
  | nil => exact ⟨rfl, rfl⟩
  | cons p l ih =>
    obtain ⟨hown, hborrowed⟩ := ih (e.discard p)
    rw [List.foldl_cons, hown, hborrowed]
    cases hk : p.kind <;>
      simp [Episode.discard, Episode.uncharge, cellsOfKind, hk, Nat.sub_sub]

/-- Each discarded packet is counted, to 32 bits (R4). -/
theorem Episode.foldl_discard_packets (l : List HeldPacket) (e : Episode) (h : e.discarded.packets ≤ 4294967295) :
    (l.foldl Episode.discard e).discarded.packets = min (e.discarded.packets + l.length) 4294967295 := by
  induction l generalizing e with
  | nil => simp [Nat.min_eq_left h]
  | cons p l ih =>
    have hp : (e.discard p).discarded.packets = min (e.discarded.packets + 1) 4294967295 := by
      unfold Episode.discard Episode.uncharge
      cases p.kind <;> rfl
    rw [List.foldl_cons, ih _ (by omega), hp, List.length_cons]
    omega

/-- What no discard of a packet touches, the discard of the hold queue does not touch. -/
theorem Episode.discardHeld_keeps {β : Type} (proj : Episode → β) (hd : ∀ x p, proj (Episode.discard x p) = proj x)
    (hq : ∀ x : Episode, proj { x with holdQueue := [] } = proj x) (e : Episode) : proj e.discardHeld = proj e := by
  have hfold : ∀ (l : List HeldPacket) (x : Episode), proj (l.foldl Episode.discard x) = proj x := by
    intro l
    induction l with
    | nil => exact fun _ => rfl
    | cons p l ih => exact fun x => (ih _).trans (hd x p)
  exact (hq _).trans (hfold e.holdQueue e)

theorem Episode.discard_keeps (x : Episode) (p : HeldPacket) :
    (x.discard p).arrived = x.arrived ∧ (x.discard p).released = x.released ∧ (x.discard p).trimmed = x.trimmed ∧
      (x.discard p).reservation = x.reservation := by
  unfold Episode.discard Episode.uncharge
  cases p.kind <;> exact ⟨rfl, rfl, rfl, rfl⟩

theorem abortEffect_eq (s : State) (handle : Half) :
    abortEffect (toBe 2 handle.toNat) s.begun =
      (match s.live? (handleOf handle) with
       | none => .refuse .staleHandle
       | some e => if e.state = .linger then .refuse .wrongState else .ok (s.begun.abortEpisode e.slot) .nothing) := by
  unfold abortEffect
  rw [handleAt_alone, begun_live?]
  cases s.live? (handleOf handle) with
  | none => rfl
  | some e => cases h : e.state <;> simp [Episode.isOpen, h]

/-- Settles O20: the row by its effect, the discard of the hold queue by induction on the packets. -/
theorem abortTearsDownAndDiscards : Obligations.AbortTearsDownAndDiscards := by
  refine ⟨fun s tag handle hS => ?_, fun e => ⟨e.withdrawAll_granted, rfl, ?_, ?_, ?_, ?_, ?_, ?_, ?_, ?_⟩⟩
  · refine endsAt_served rfl hS rfl (by simp [toBe]) ?_
    rw [show performed ⟨kindAbortEpisode, tag, toBe 2 handle.toNat⟩ s.begun = _ from abortEffect_eq s handle]
    cases s.live? (handleOf handle) with
    | none => rfl
    | some e =>
      dsimp only
      split_ifs <;> rfl
  · exact (Episode.foldl_discard_charges e.holdQueue e).1
  · exact (Episode.foldl_discard_charges e.holdQueue e).2
  · exact Episode.foldl_discard_packets e.holdQueue e
  · exact e.discardHeld_parts.2.2.2
  · exact Episode.discardHeld_keeps Episode.arrived (fun x p => (x.discard_keeps p).1) (fun _ => rfl) e
  · exact Episode.discardHeld_keeps Episode.released (fun x p => (x.discard_keeps p).2.1) (fun _ => rfl) e
  · exact Episode.discardHeld_keeps Episode.trimmed (fun x p => (x.discard_keeps p).2.2.1) (fun _ => rfl) e
  · exact Episode.discardHeld_keeps Episode.reservation (fun x p => (x.discard_keeps p).2.2.2) (fun _ => rfl) e

/-! ### Deadline and reservation -/

theorem takesMore_iff {e : Episode} : e.takesMore = true ↔ e.origin = .sighted ∧ (e.state = .armed ∨ e.state = .active) := by
  simp [Episode.takesMore]

/-- EXTEND_DEADLINE on the body of its row's frame (R22). -/
theorem extendEffect_eq (s : State) (handle : Half) (value : Byte) :
    extendEffect (toBe 2 handle.toNat ++ [value]) s.begun =
      (if value = 0 then .refuse .badValue
       else match s.live? (handleOf handle) with
        | none => .refuse .staleHandle
        | some e =>
          if e.origin = .sighted ∧ (e.state = .armed ∨ e.state = .active) then
            match e.deadline with
            | none => .refuse .wrongState
            | some d =>
              if d.last / 2 < d.value then .refuse .early
              else .ok (s.begun.updEp e.slot (fun x => { x with deadline := some ⟨value.toNat, value.toNat, d.due⟩ }))
                (.number value.toNat)
          else .refuse .wrongState) := by
  have hvalue : byteAt (toBe 2 handle.toNat ++ [value]) 2 = value := by simp [byteAt, toBe]
  have hzero : value.toNat = 0 ↔ value = 0 := by
    constructor
    · exact fun h => BitVec.eq_of_toNat_eq h
    · exact fun h => h ▸ rfl
  unfold extendEffect
  dsimp only
  rw [hvalue, handleAt_front, begun_live?]
  by_cases hv : value = 0
  · rw [if_pos (hzero.2 hv), if_pos hv]
  · rw [if_neg (mt hzero.1 hv), if_neg hv]
    cases s.live? (handleOf handle) with
    | none => rfl
    | some e =>
      dsimp only
      by_cases ht : e.origin = .sighted ∧ (e.state = .armed ∨ e.state = .active)
      · rw [if_pos ht, takesMore_iff.2 ht]
        cases e.deadline with
        | none => rfl
        | some d =>
          dsimp only
          by_cases hd : d.value ≤ d.last / 2
          · rw [if_pos hd, if_neg (not_lt.2 hd)]
          · rw [if_neg hd, if_pos (not_le.1 hd)]
      · rw [if_neg ht, Bool.eq_false_iff.2 (mt takesMore_iff.1 ht)]

/-- ADD_RESERVATION on the body of its row's frame (R56). -/
theorem addReservationEffect_eq (s : State) (handle cells : Half) :
    addReservationEffect (toBe 2 handle.toNat ++ toBe 2 cells.toNat) s.begun =
      (if cells = 0 ∨ 16384 < cells.toNat then .refuse .badValue
       else match s.live? (handleOf handle) with
        | none => .refuse .staleHandle
        | some e =>
          if ¬ (e.origin = .sighted ∧ (e.state = .armed ∨ e.state = .active)) then .refuse .wrongState
          else if 65535 < e.reservation + cells.toNat then .refuse .badValue
          else if s.claimableRoom < cells.toNat then .refuse .noSpace
          else .ok (s.begun.updEp e.slot (fun x => { x with reservation := x.reservation + cells.toNat }))
            (.number (e.reservation + cells.toNat))) := by
  have hcells : fieldAt (toBe 2 handle.toNat ++ toBe 2 cells.toNat) 2 2 = cells.toNat := by
    simpa using fieldAt_half cells (toBe 2 handle.toNat) [] 2 (by simp [toBe])
  have hrange : (!(inRange 1 16384 cells.toNat)) = true ↔ cells = 0 ∨ 16384 < cells.toNat := by
    have hzero : cells.toNat = 0 ↔ cells = 0 :=
      ⟨fun h => BitVec.eq_of_toNat_eq h, fun h => h ▸ rfl⟩
    rw [← hzero]
    simp only [inRange, Bool.not_eq_true', Bool.and_eq_false_iff, decide_eq_false_iff_not]
    omega
  unfold addReservationEffect
  dsimp only
  rw [hcells, handleAt_front, begun_live?]
  by_cases hc : cells = 0 ∨ 16384 < cells.toNat
  · rw [if_pos (hrange.2 hc), if_pos hc]
  · rw [if_neg (mt hrange.1 hc), if_neg hc]
    cases s.live? (handleOf handle) with
    | none => rfl
    | some e =>
      dsimp only
      by_cases ht : e.origin = .sighted ∧ (e.state = .armed ∨ e.state = .active)
      · rw [if_neg (not_not.2 ht), takesMore_iff.2 ht]
        rfl
      · rw [if_pos ht, Bool.eq_false_iff.2 (mt takesMore_iff.1 ht)]
        rfl

/-- Settles O21: each row by its effect, its tests in order. -/
theorem extendDeadlineAndAddReservationChangeTheRecord : Obligations.ExtendDeadlineAndAddReservationChangeTheRecord := by
  refine ⟨fun s tag handle value hS => ?_, fun s tag handle cells hS => ?_⟩
  · refine endsAt_served rfl hS rfl (by simp [toBe]) ?_
    rw [show performed ⟨kindExtendDeadline, tag, toBe 2 handle.toNat ++ [value]⟩ s.begun = _ from
      extendEffect_eq s handle value]
    split_ifs
    · rfl
    · cases s.live? (handleOf handle) with
      | none => rfl
      | some e =>
        dsimp only
        split_ifs
        · cases e.deadline with
          | none => rfl
          | some d =>
            dsimp only
            split_ifs <;> rfl
        · rfl
  · refine endsAt_served rfl hS rfl (by simp [toBe]) ?_
    rw [show performed ⟨kindAddReservation, tag, toBe 2 handle.toNat ++ toBe 2 cells.toNat⟩ s.begun = _ from
      addReservationEffect_eq s handle cells]
    by_cases hc : cells = 0 ∨ 16384 < cells.toNat
    · simp only [if_pos hc]
      rfl
    · simp only [if_neg hc]
      cases s.live? (handleOf handle) with
      | none => rfl
      | some e =>
        dsimp only
        split_ifs <;> rfl

end Sys2Proof.Machine
end

-- ==== Proofs: sightings ====
section
/-! A SIGHTING word in UP, the creation of an episode and the views of the Episode Table that it reads (R1 to R8, R31, R148). -/

namespace Sys2Proof.Machine

theorem sat32_succ (n : Nat) : sat32 (n + 1) = bump32 n := by
  unfold sat32 bump32
  split <;> omega

/-- A whole word in UP reaches what UP does with it, every lane's framing run back at 0 (R142). -/
theorem takeWord_up {s : State} (h : s.link.state = .up) (inParams inUp : State → State) :
    s.begun.takeWord inParams inUp = inUp s.wordIn := by
  unfold State.takeWord
  have hb : s.begun.link.state = .up := h
  rw [hb]
  rfl

theorem Episode.isOpen_iff {e : Episode} : e.isOpen = true ↔ e.state ≠ .linger := by
  simp [Episode.isOpen]

theorem ignoreSighting_eq (s : State) :
    s.ignoreSighting = { s with link := { s.link with ignoredSightings := bump32 s.link.ignoredSightings } } := by
  unfold State.ignoreSighting
  rw [sat32_succ]

/-- A sighting at the Episode Table, its tests in order (R5, R8). -/
theorem takeSighting_eq (s : State) (a : Announcement) :
    s.takeSighting a =
      (if (s.port a.key.group).state ≠ .active ∨ a.key.tag = 0 ∨ a.n = 0 ∨ 64 < a.n then s.ignoreSighting
       else match s.lookup a.key with
        | none => s.createSighted a
        | some old =>
          if old.state ≠ .linger then s.ignoreSighting
          else if old.linger = none then ((s.closeEpisode old.slot).freeEpisode old.slot).createSighted a
          else (s.freeEpisode old.slot).createSighted a) := by
  have htaken : ((s.port a.key.group).state == .active && a.key.tag != 0 && inRange 1 64 a.n) = true ↔
      ¬ ((s.port a.key.group).state ≠ .active ∨ a.key.tag = 0 ∨ a.n = 0 ∨ 64 < a.n) := by
    simp only [inRange, Bool.and_eq_true, beq_iff_eq, bne_iff_ne, decide_eq_true_eq, not_or, not_not]
    constructor
    · rintro ⟨⟨hs, ht⟩, h1, h64⟩
      exact ⟨hs, ht, by omega, by omega⟩
    · rintro ⟨hs, ht, h1, h64⟩
      exact ⟨⟨hs, ht⟩, by omega, by omega⟩
  unfold State.takeSighting
  by_cases hc : (s.port a.key.group).state ≠ .active ∨ a.key.tag = 0 ∨ a.n = 0 ∨ 64 < a.n
  · rw [if_pos hc, if_neg (fun h => htaken.1 h hc)]
  · rw [if_neg hc, if_pos (htaken.2 hc)]
    cases s.lookup a.key with
    | none => rfl
    | some old =>
      unfold State.sightAgain
      dsimp only
      by_cases ho : old.state ≠ .linger
      · rw [if_pos ho, if_pos (Episode.isOpen_iff.2 ho)]
      · rw [if_neg ho, if_neg (mt Episode.isOpen_iff.1 ho)]
        cases old.linger with
        | none => exact (if_pos rfl).symm
        | some t => exact (if_neg (by simp)).symm

/-- The claim of a sighting: the policy's reservation if the room holds it, else the room if it is at least 16 cells (R6). -/
theorem claim?_eq (s : State) (g : Nat) :
    s.claim? g =
      if s.claimableRoom < (s.policy g).reservation ∧ s.claimableRoom < 16 then none
      else some (if (s.policy g).reservation ≤ s.claimableRoom then (s.policy g).reservation else s.claimableRoom) := by
  unfold State.claim?
  dsimp only
  by_cases hr : (s.policy g).reservation ≤ s.claimableRoom
  · rw [if_pos hr, if_neg (by omega), if_pos hr]
  · rw [if_neg hr, if_neg hr]
    by_cases h16 : Config.leastClaim ≤ s.claimableRoom
    · rw [if_pos h16, if_neg (fun h => absurd h.2 (not_lt.2 h16))]
    · rw [if_neg h16, if_pos ⟨not_le.1 hr, not_le.1 h16⟩]

theorem sumR_eq (s : State) :
    s.sumR = ((s.table.episodes.filter (fun e => decide (e.state = .armed ∨ e.state = .active ∨ e.state = .draining))).map
      (fun e => e.reservation)).sum := by
  have hopen : Episode.isOpen = fun e => decide (e.state = .armed ∨ e.state = .active ∨ e.state = .draining) := by
    funext e
    unfold Episode.isOpen
    cases e.state <;> rfl
  unfold State.sumR
  rw [hopen]

theorem freeEpisode_eq (s : State) (slot : Nat) :
    s.freeEpisode slot = { s with table := { s.table with
      episodes := s.table.episodes.filter (fun e => decide (e.slot ≠ slot)),
      generations := vupd s.table.generations slot (fun n => n + 1) } } := by
  have hkept : (fun e : Episode => !(e.slot == slot)) = fun e => decide (e.slot ≠ slot) := by
    funext e
    by_cases h : e.slot = slot <;> simp [h]
  unfold State.freeEpisode
  rw [hkept]

/-- A record goes behind the records of lower slots at the front of the table. -/
theorem insertEpisode_eq (e : Episode) (l : List Episode) : insertEpisode e l =
    l.takeWhile (fun x => decide (x.slot ≤ e.slot)) ++ e :: l.dropWhile (fun x => decide (x.slot ≤ e.slot)) := by
  induction l with
  | nil => rfl
  | cons x l ih =>
    unfold insertEpisode
    by_cases h : e.slot < x.slot
    · simp [h]
    · have hle : x.slot ≤ e.slot := by omega
      simp [h, hle, ih]

/-- Settles O22: the row by `takeSighting_eq`, the creation by `claim?_eq`, and the views by their lemmas. -/
theorem sightingIsIgnoredOrCreatesAnEpisode : Obligations.SightingIsIgnoredOrCreatesAnEpisode := by
  refine ⟨?_, ?_, fun s => ⟨freeSlot?_eq_none, fun n => freeSlot?_eq_some, fun key => lookup_eq_none,
    fun key e h => lookup_eq_some h, sumR_eq s, rfl, freeEpisode_eq s⟩, insertEpisode_eq⟩
  · intro s port requester tag n e cls report hr hup w ignored a
    refine endsAt_event rfl hr ((takeWord_up hup _ _).trans ?_)
    have hports : w.ports = s.ports := by simp [w, State.wordIn, State.begun]
    have htable : w.table = s.table := by simp [w, State.wordIn, State.begun]
    have hestablished : w.establishedPorts = s.establishedPorts := by
      simp [w, State.establishedPorts, State.wordIn, State.begun]
    have hignored : w.ignoreSighting = ignored := by
      rw [ignoreSighting_eq, show w.link.ignoredSightings = s.link.ignoredSightings by simp [w, State.wordIn, State.begun]]
    have hport : ∀ p, w.port p = s.port p := fun p => by unfold State.port; rw [hports]
    have hgroup : w.groupOf port.toNat = s.groupOf port.toNat := by unfold State.groupOf; rw [hport]
    have hlookup : w.lookup a.key = s.lookup a.key := by unfold State.lookup; rw [htable]
    have hn : n.toNat = 0 ↔ n = 0 := ⟨fun h => BitVec.eq_of_toNat_eq h, fun h => h ▸ rfl⟩
    unfold State.sightingWord
    dsimp only
    rw [show s.wordIn.breakOpen false = w from rfl, hestablished, hgroup, hignored]
    by_cases hp : s.establishedPorts ≤ port.toNat
    · rw [if_pos hp, if_pos hp]
    · rw [if_neg hp, if_neg hp]
      refine (takeSighting_eq w a).trans ?_
      rw [hport, hlookup, hignored]
      exact ite_congr (by simp only [a, hn]) (fun _ => rfl) (fun _ => rfl)
  · intro s a room pol refused
    unfold State.createSighted
    cases s.freeSlot? with
    | none => rfl
    | some slot =>
      dsimp only
      rw [claim?_eq]
      by_cases hc : s.claimableRoom < (s.policy a.key.group).reservation ∧ s.claimableRoom < 16
      · rw [if_pos hc]
        exact (if_pos hc).symm
      · rw [if_neg hc]
        exact (if_neg hc).symm

end Sys2Proof.Machine
end

-- ==== Proofs: arrivals ====
section
/-! The dispatch of a complete packet, a port fault, and the handling of a packet by the state and the origin of its episode (R9,
R10, R12, R23, R24, R32, R39, R40, R48, R129, R134, R152). -/

namespace Sys2Proof.Machine

/-! ### Dispatch -/

theorem expecting_eq (s : State) (member : Nat) :
    s.expecting member =
      (match (s.port (s.groupOf member)).state with
        | .active => true
        | .starting => (s.port member).startedSeen
        | .drainOut => !(s.port member).stoppedSeen
        | .faulted => !(s.port member).stoppedSeen
        | .disabled => false) := by
  unfold State.expecting expectsDiverts
  cases (s.port (s.groupOf member)).state <;> rfl

/-- An absent key is passed through where nothing is adopted (R9). -/
theorem arriveUnmatched_passes (s : State) (a : Arrival) :
    s.arriveUnmatched a =
      if (s.port a.group).state = .active ∧ (s.policy a.group).adopt = true ∧ s.freeSlot?.isSome = true
      then s.arriveUnmatched a else s.passThrough a := by
  split
  · rfl
  · rename_i hc
    unfold State.arriveUnmatched
    split
    · rename_i hadopt
      simp only [Bool.and_eq_true, beq_iff_eq] at hadopt
      cases hf : s.freeSlot? with
      | none => rfl
      | some slot => exact absurd ⟨hadopt.1, hadopt.2, by rw [hf]; rfl⟩ hc
    · rfl

/-- A present key is handled by its episode's state and origin (R32). -/
theorem arriveMatched_eq (s : State) (e : Episode) (a : Arrival) :
    s.arriveMatched e a =
      if e.state = .draining then s.arriveDraining e.slot a
      else if e.state = .linger then (s.count a.group .late).passThrough a
      else if e.state = .active ∧ e.origin = .adopted then s.arriveAdopted e.slot a
      else s.arriveSighted e.slot a := by
  unfold State.arriveMatched
  cases e.state with
  | armed => rfl
  | draining => rfl
  | linger => rfl
  | active => cases e.origin <;> rfl

theorem portFault_eq (s : State) (a : Arrival) :
    s.portFault a =
      let before := (s.port a.group).state
      let v := (s.passThrough a).updPort a.group (fun p =>
        { p with state := .faulted, clearing := .awaitingStatus,
                 fault := some ⟨before, a.desc.port, a.desc.src, a.desc.dest, a.desc.length⟩ })
      let w := ((v.updMembers a.group (fun p => { p with stoppedSeen := false })).handStop a.group).raisePortState a.group .fault
      if before = .faulted then w else w.unpaceGroup a.group := by
  unfold State.portFault
  simp only [beq_iff_eq]

/-- Settles O30: the dispatch by the branches of its handling, the port fault by `portFault_eq`. -/
theorem completePacketIsDispatchedOrFaultsThePort : Obligations.CompletePacketIsDispatchedOrFaultsThePort := by
  refine ⟨fun s d data => ?_, fun s a => portFault_eq s a⟩
  intro g x a expecting tag
  have hexpecting : s.expecting d.port = expecting := expecting_eq s d.port
  unfold State.arrive
  dsimp only
  rw [hexpecting]
  cases expecting with
  | false => rfl
  | true =>
    rw [if_pos rfl, if_neg (by simp)]
    have hkey : (⟨d, data, s.groupOf d.port⟩ : Arrival).key = ⟨g, d.dest, tag⟩ := rfl
    rw [hkey]
    cases s.lookup ⟨g, d.dest, tag⟩ with
    | none => exact arriveUnmatched_passes s a
    | some e => exact arriveMatched_eq s e a

/-! ### Handling -/

theorem updEp_updEp (s : State) (slot : Nat) (f h : Episode → Episode) (hf : ∀ x, (f x).slot = x.slot) :
    (s.updEp slot f).updEp slot h = s.updEp slot (fun x => h (f x)) := by
  have hmap : ∀ x : Episode, ((fun e => if e.slot == slot then h e else e) ∘ fun e => if e.slot == slot then f e else e) x =
      if x.slot == slot then h (f x) else x := by
    intro x
    by_cases hx : x.slot = slot <;> simp [hx, hf]
  unfold State.updEp
  dsimp only
  rw [List.map_map, List.map_congr_left (fun x _ => hmap x)]

theorem Episode.find?_isSome (e : Episode) (src : Endpoint) :
    (e.find? src).isSome = e.roster.any (fun r => r.endpoint == src) := by
  unfold Episode.find?
  exact Bool.eq_iff_iff.2 (by rw [List.find?_isSome, List.any_eq_true])

theorem listed_eq (s : State) (slot : Nat) (a : Arrival) :
    s.listed slot a = (s.ep? slot).any (fun e => e.roster.any (fun r => r.endpoint == a.desc.src)) := by
  unfold State.listed
  cases s.ep? slot with
  | none => rfl
  | some e => exact e.find?_isSome _

theorem applyNextEpisode_eq (s : State) (g : Nat) :
    s.applyNextEpisode g =
      (match (s.pacer g).pending with
        | none => s
        | some r => if r.apply = .onNextEpisode then s.applyRate g else s) := by
  unfold State.applyNextEpisode
  cases (s.pacer g).pending with
  | none => rfl
  | some r => simp only [beq_iff_eq]

/-- Settles O31, one equation for each handling. -/
theorem arrivalsAreHandledByStateAndOrigin : Obligations.ArrivalsAreHandledByStateAndOrigin := by
  unfold Obligations.ArrivalsAreHandledByStateAndOrigin
  intro noted known
  refine ⟨?_, ?_, ?_, ?_, fun _ _ => rfl, applyNextEpisode_eq⟩
  · intro s slot a e he activated u
    have hactivated : (if (s.ep? slot).any (fun e => e.state == .armed) then
        (s.updEp slot (fun x => { x with state := .active })).applyNextEpisode a.group else s) = activated := by
      simp only [he, Option.any_some, beq_iff_eq, activated]
    unfold State.arriveSighted
    dsimp only
    rw [hactivated]
    rfl
  · intro s slot a u
    have hu : (s.enter slot a).updEp slot (fun x =>
        { x.noteSender a with arrived := x.arrived.add a.desc.length,
                              idle := some ⟨((s.enter slot a).policy a.group).idle, false⟩ }) = u := by
      refine Eq.symm (updEp_updEp _ _ _ _ (fun x => ?_))
      exact (x.noteSender_revises a).slot
    unfold State.arriveAdopted
    dsimp only
    rw [hu, listed_eq]
  · intro s slot a u
    unfold State.arriveDraining
    dsimp only
    rw [listed_eq]
    rfl
  · intro s a
    unfold State.arriveUnmatched
    by_cases hadopt : (s.port a.group).state = .active ∧ (s.policy a.group).adopt = true
    · rw [if_pos hadopt, if_pos (by simp [hadopt])]
      cases s.freeSlot? <;> rfl
    · rw [if_neg hadopt, if_neg (fun h => hadopt (by simpa using h))]

end Sys2Proof.Machine
end

-- ==== Proofs: reset ====
section
/-! The reset values and the invariants that hold in them (R72, R98, R99, R122, R141, R147, R158, R168, R182). -/

namespace Sys2Proof.Machine

/-- Every place of a vector of equal entries, its default included, reads as that entry. -/
theorem vget_replicate {α : Type} (n i : Nat) (x : α) : vget (Vector.replicate n x) i x = x := by
  unfold vget
  split
  · exact Vector.getElem_replicate _
  · rfl

theorem eq_of_mem_replicate_toList {α : Type} {n : Nat} {x y : α} (h : y ∈ (Vector.replicate n x).toList) : y = x := by
  rw [Vector.toList_replicate] at h
  exact List.eq_of_mem_replicate h

theorem reset_port (p : Nat) : State.reset.port p = Port.powerOn := vget_replicate _ _ _

theorem reset_policy (p : Nat) : State.reset.policy p = Policy.default := by
  unfold State.policy
  rw [reset_port]
  rfl

theorem reset_pacer (p : Nat) : State.reset.pacer p = Pacer.powerOn := vget_replicate _ _ _

theorem reset_generation (n : Nat) : State.reset.generation n = 0 := vget_replicate _ _ _

theorem reset_counterSet (g : Nat) : State.reset.counterSet g = CounterSet.zero := vget_replicate _ _ _

theorem reset_release? (g : Nat) : State.reset.release? g = none := vget_replicate _ _ _

theorem reset_classCursor (g c : Nat) : State.reset.classCursor g c = none := by
  have hcursors : vget State.reset.sched.classCursors g (Vector.replicate 4 none) = Vector.replicate 4 none :=
    vget_replicate _ _ _
  unfold State.classCursor
  rw [hcursors]
  exact vget_replicate _ _ _

/-- No packet has cells after reset: the table, the transfer and the releases are empty. -/
theorem reset_packetsWithCells : State.reset.packetsWithCells = [] := by
  have hreleases : State.reset.store.releases.toList.filterMap (fun r => r.map (fun x => x.packet)) = [] := by
    rw [List.filterMap_eq_nil_iff]
    intro r hr
    rw [eq_of_mem_replicate_toList hr]
    rfl
  unfold State.packetsWithCells
  rw [hreleases]
  rfl

theorem reset_usedCells : State.reset.usedCells = [] := by
  unfold State.usedCells
  rw [reset_packetsWithCells]
  rfl

/-- Settles O4: the vectors by `vget_replicate`, the rest by the definition of the reset state. -/
theorem resetLeavesTheStatedValues : Obligations.ResetLeavesTheStatedValues := by
  refine ⟨rfl, fun n _ => reset_generation n, rfl, rfl, rfl, rfl, rfl, reset_classCursor, rfl, rfl, rfl, reset_usedCells,
    reset_release?, rfl, rfl, rfl, rfl, rfl, rfl, rfl, rfl, rfl, rfl, fun p _ => ?_, rfl, rfl, rfl, fun p _ => ?_, rfl, rfl,
    rfl, rfl, rfl, rfl, rfl, rfl, rfl, rfl, rfl, rfl, rfl, rfl, rfl, rfl, rfl, rfl, rfl, rfl, rfl, reset_counterSet, ?_⟩
  · rw [reset_pacer]
    exact ⟨rfl, rfl, rfl, rfl, rfl, rfl, rfl, fun c => vget_replicate _ _ _⟩
  · rw [reset_port, reset_policy]
    exact ⟨rfl, rfl, rfl, rfl, rfl, rfl, rfl, rfl, rfl, rfl⟩
  · exact ⟨rfl, rfl, rfl, rfl, rfl, rfl, rfl, rfl, rfl, rfl, rfl, rfl, rfl, rfl⟩

theorem reset_countersSound : State.reset.counters.Sound := by
  refine ⟨by decide, by decide, fun set hset n hn => ?_⟩
  have hzero : set = CounterSet.zero := eq_of_mem_replicate_toList hset
  subst hzero
  rw [eq_of_mem_replicate_toList hn]
  omega

theorem reset_lanesSound : State.reset.link.LanesSound := by
  intro x hx
  rw [eq_of_mem_replicate_toList hx]
  decide

theorem reset_queuesSound : State.reset.QueuesSound := by
  refine ⟨by decide, by decide, by decide, by decide, List.nodup_nil, fun w hw => absurd hw List.not_mem_nil, by decide,
    by decide, fun p hp => ?_, by decide, by decide, fun o ho => (by cases ho)⟩
  rw [reset_port] at hp
  cases hp

theorem reset_chainLaw : State.reset.ChainLaw := by
  unfold State.ChainLaw
  rw [reset_usedCells, reset_packetsWithCells]
  exact ⟨List.nodup_nil, List.nodup_nil, fun c hc => absurd hc List.not_mem_nil, fun p hp => absurd hp List.not_mem_nil⟩

theorem reset_creditLaw : State.reset.CreditLaw := by
  refine ⟨fun p => ?_, fun p => ?_, fun o ho => (by cases ho), fun x hx => absurd hx List.not_mem_nil, fun x hx => (by cases hx),
    fun e he => absurd he List.not_mem_nil⟩
  · rw [reset_pacer]
    exact ⟨by decide, by decide, by decide, by decide, by decide, fun r hr => (by cases hr)⟩
  · rw [reset_policy]
    decide

theorem reset_reservationLaw : State.reset.ReservationLaw := by
  refine ⟨List.nodup_nil, fun p hp => ?_, fun p hp => ?_, fun e he => absurd he List.not_mem_nil⟩
  · rw [reset_policy] at hp
    cases hp
  · rw [reset_port] at hp
    cases hp

/-- Settles O52, invariant by invariant; those of the Episode Table hold in every empty table. -/
theorem resetHasTheInvariants : Obligations.ResetHasTheInvariants :=
  ⟨⟨by decide, List.nodup_nil⟩, ⟨by decide, by decide⟩, reset_countersSound, reset_lanesSound, reset_queuesSound,
    rosterLaw_tableInvariant.empty rfl, reset_chainLaw, reset_creditLaw, keysUnique_tableInvariant.empty rfl,
    storeBound_tableInvariant.empty rfl, reset_reservationLaw⟩

end Sys2Proof.Machine
end

-- ==== Proofs: drain-out ====
section
/-! The end of a drain-out: its condition, the freeing of the group's episodes, and the PORT_STATE notice (R15, R16, R30, R132,
R140). -/

namespace Sys2Proof.Machine

theorem stopAwaited_eq (s : State) (g : Nat) :
    s.stopAwaited g = decide (((s.port g).state = .drainOut ∨ (s.port g).state = .faulted) ∧
      ∃ m ∈ s.members g, (s.port m).stoppedSeen = false) := by
  unfold State.stopAwaited
  exact Bool.eq_iff_iff.2 (by simp)

theorem raisePortState_eq (s : State) (g : Nat) (cause : PortCause) : s.raisePortState g cause = s.raise (.portState
    { port := g, cause := cause, state := (s.port g).state, suspended := (s.port g).suspended,
      stopAwaited := decide (((s.port g).state = .drainOut ∨ (s.port g).state = .faulted) ∧
        ∃ m ∈ s.members g, (s.port m).stoppedSeen = false),
      fault := if cause = .fault then (s.port g).fault else none }) := by
  unfold State.raisePortState
  rw [stopAwaited_eq]
  simp only [beq_iff_eq]

theorem mem_groupEpisodes {s : State} {g : Nat} {e : Episode} :
    e ∈ s.groupEpisodes g ↔ e ∈ s.table.episodes ∧ e.key.group = g := by
  simp [State.groupEpisodes]

/-- The completion condition of a group in DRAIN_OUT (R132). -/
theorem drainComplete_iff {s : State} {g : Nat} (h : (s.port g).state = .drainOut) :
    s.drainComplete g = true ↔ (∀ m ∈ s.members g, (s.port m).stoppedSeen = true) ∧
      ∀ e ∈ s.table.episodes, e.key.group = g → e.state = .linger ∧ e.linger.isSome = true := by
  unfold State.drainComplete State.allStopped
  simp only [h, beq_self_eq_true, Bool.true_and, Bool.and_eq_true, List.all_eq_true, mem_groupEpisodes, Episode.isClosed,
    beq_iff_eq, and_imp]

/-! ### Freeing a list of slots -/

/-- The state with the records of a list of slots freed. -/
def State.freeAll (s : State) (slots : List Nat) : State := slots.foldl State.freeEpisode s

theorem freeAll_keeps (s : State) (slots : List Nat) :
    (s.freeAll slots).ports = s.ports ∧ (s.freeAll slots).mgmt = s.mgmt :=
  ⟨foldl_keeps State.ports _ (by simp) slots s, foldl_keeps State.mgmt _ (by simp) slots s⟩

theorem freeAll_episodes (s : State) (slots : List Nat) :
    (s.freeAll slots).table.episodes = s.table.episodes.filter (fun e => decide (e.slot ∉ slots)) := by
  unfold State.freeAll
  induction slots generalizing s with
  | nil => simp
  | cons slot slots ih =>
    rw [List.foldl_cons, ih, freeEpisode_eq, List.filter_filter]
    refine List.filter_congr (fun e _ => ?_)
    simp [Bool.and_comm]

theorem generation_freeEpisode (s : State) (slot n : Nat) (hn : n < 1024) :
    (s.freeEpisode slot).generation n = if slot = n then s.generation n + 1 else s.generation n := by
  rw [freeEpisode_eq]
  refine (vget_vupd _ _ _ _ _).trans ?_
  simp only [hn, and_true]
  rfl

/-- Each slot of a list without repeats has its generation advanced once (R30). -/
theorem generation_freeAll (s : State) {slots : List Nat} (hd : slots.Nodup) (n : Nat) (hn : n < 1024) :
    (s.freeAll slots).generation n = if n ∈ slots then s.generation n + 1 else s.generation n := by
  unfold State.freeAll
  induction slots generalizing s with
  | nil => simp
  | cons slot slots ih =>
    obtain ⟨hslot, hd⟩ := List.nodup_cons.1 hd
    rw [List.foldl_cons, ih _ hd, generation_freeEpisode _ _ _ hn]
    by_cases h : slot = n
    · subst h
      simp [hslot]
    · simp [h, Ne.symm h]

/-- The slots of a drain group's records. -/
def State.groupSlots (s : State) (g : Nat) : List Nat := (s.groupEpisodes g).map (fun e => e.slot)

theorem mem_groupSlots {s : State} {g n : Nat} : n ∈ s.groupSlots g ↔ ∃ e ∈ s.table.episodes, e.key.group = g ∧ e.slot = n := by
  simp only [State.groupSlots, List.mem_map, mem_groupEpisodes, and_assoc]

theorem groupSlots_nodup {s : State} (g : Nat) (hd : s.SlotsDistinct) : (s.groupSlots g).Nodup :=
  List.Nodup.sublist (List.filter_sublist.map _) hd

/-- With distinct slots, a record's slot is one of the group's exactly when the record is. -/
theorem slot_mem_groupSlots {s : State} {g : Nat} (hd : s.SlotsDistinct) {e : Episode} (he : e ∈ s.table.episodes) :
    e.slot ∈ s.groupSlots g ↔ e.key.group = g := by
  rw [mem_groupSlots]
  constructor
  · rintro ⟨x, hx, hg, hslot⟩
    rwa [← List.inj_on_of_nodup_map hd hx he hslot]
  · exact fun hg => ⟨e, he, hg, rfl⟩

/-! ### The completed drain-out -/

/-- The group's record at the end of its drain-out (R132). -/
def Port.drained (p : Port) : Port := { p with state := .disabled, suspended := false, drainCause := none }

theorem completeDrain_eq (s : State) (g : Nat) :
    s.completeDrain g = if s.drainComplete g then
      ((s.freeAll (s.groupSlots g)).updPort g Port.drained).raisePortState g .drained else s := rfl

/-- A completed drain-out changes the group's port record, the notices and the freed slots. -/
theorem completeDrain_complete {s : State} {g : Nat} (hg : g < 48) (h : s.drainComplete g = true) :
    (s.completeDrain g).port g = (s.port g).drained ∧ (s.completeDrain g).table = (s.freeAll (s.groupSlots g)).table ∧
      (s.completeDrain g).mgmt = s.mgmt.raise (.portState { port := g, cause := .drained, state := .disabled, suspended := false,
                                                            stopAwaited := false, fault := none }) := by
  obtain ⟨hports, hmgmt⟩ := freeAll_keeps s (s.groupSlots g)
  have hport : ((s.freeAll (s.groupSlots g)).updPort g Port.drained).port g = (s.port g).drained := by
    rw [port_updPort, if_pos ⟨rfl, hg⟩]
    unfold State.port
    rw [hports]
  rw [completeDrain_eq, if_pos h, raisePortState_eq, hport]
  refine ⟨hport, rfl, ?_⟩
  unfold State.raise State.updPort
  rw [hmgmt]
  simp [Port.drained]

/-- Settles O48. -/
theorem drainOutCompletesToDisabled : Obligations.DrainOutCompletesToDisabled := by
  refine ⟨fun s g hg hstate => ⟨fun hcomplete => ?_, fun hopen => ?_⟩, raisePortState_eq⟩
  · obtain ⟨hport, htable, hmgmt⟩ := completeDrain_complete hg ((drainComplete_iff hstate).2 hcomplete)
    have hmem (e : Episode) : e ∈ (s.completeDrain g).table.episodes ↔ e ∈ s.table.episodes ∧ e.slot ∉ s.groupSlots g := by
      rw [htable, freeAll_episodes, List.mem_filter, decide_eq_true_eq]
    have hgeneration (n : Nat) : (s.completeDrain g).generation n = (s.freeAll (s.groupSlots g)).generation n := by
      unfold State.generation
      rw [htable]
    refine ⟨by rw [hport]; rfl, by rw [hport]; rfl, by rw [hport]; rfl, ?_, hmgmt, ?_, ?_, ?_⟩
    · unfold State.policy
      rw [hport]
      rfl
    · intro e he hgroup
      obtain ⟨hold, hslot⟩ := (hmem e).1 he
      exact hslot (mem_groupSlots.2 ⟨e, hold, hgroup, rfl⟩)
    · intro e he _ hother
      refine (hmem e).2 ⟨he, fun hslot => ?_⟩
      obtain ⟨x, hx, hgroup, hsame⟩ := mem_groupSlots.1 hslot
      exact hother x hx hgroup hsame
    · intro hd
      constructor
      · rw [htable, freeAll_episodes]
        refine List.filter_congr (fun e he => ?_)
        exact Bool.eq_iff_iff.2 (by simp [slot_mem_groupSlots hd he])
      · intro n hn
        rw [hgeneration, generation_freeAll s (groupSlots_nodup g hd) n hn]
        simp only [mem_groupSlots]
  · exact (completeDrain_eq s g).trans (if_neg (mt (drainComplete_iff hstate).1 hopen))

end Sys2Proof.Machine
end

-- ==== Proofs: the transfer queues ====
section
/-! The bounds of the queues between the blocks and of the staging fill (R50, R68, R70, R90, R150, R153), kept with room to spare
for a packet that has left the open place and is not yet admitted. -/

namespace Sys2Proof.Machine

/-! ### The bounds, with room -/

/-- The bounds of `State.QueuesSound`, with `room` bytes of the staging buffer to spare. -/
structure State.QueuesWithin (s : State) (room : Nat) : Prop where
  queue : s.sched.queue.length ≤ 512
  backlog : s.sched.backlog.length ≤ 16384
  stubs : s.link.stubs.length ≤ 256
  once : s.link.control.Nodup
  words : ∀ w ∈ s.link.control, w.port < 48
  released : s.store.released.length + s.store.reservedPlaces ≤ 16
  staging : s.stagingFill + room ≤ 196608
  pairs : ∀ p, (s.port p).role = .pairEven → p % 2 = 0
  expected : s.link.expected.portCount ≤ 48
  established : s.establishedPorts ≤ 48
  opened : ∀ o, s.link.openPacket = some o → o.staged = true → o.desc.port < 48

/-- A control queue of words for the part's ports, none twice, holds at most a START and a STOP for each (R153). -/
theorem control_length {l : List ControlWord} (hn : l.Nodup) (hp : ∀ w ∈ l, w.port < 48) : l.length ≤ 96 := by
  have hsub : l ⊆ (List.range 48).flatMap (fun p => [⟨true, p⟩, ⟨false, p⟩]) := by
    rintro ⟨start, port⟩ hw
    refine List.mem_flatMap.2 ⟨port, List.mem_range.2 (hp _ hw), ?_⟩
    cases start <;> simp
  exact (hn.subperm hsub).length_le.trans (by decide)

theorem queuesSound_iff {s : State} : s.QueuesSound ↔ s.QueuesWithin 0 := by
  constructor
  · rintro ⟨hq, hb, hs, -, ho, hw, hr, hf, hp, hx, he, hd⟩
    exact ⟨hq, hb, hs, ho, hw, hr, hf, hp, hx, he, hd⟩
  · rintro ⟨hq, hb, hs, ho, hw, hr, hf, hp, hx, he, hd⟩
    exact ⟨hq, hb, hs, control_length ho hw, ho, hw, hr, hf, hp, hx, he, hd⟩

/-- What the bounds are read from. -/
def State.queueView (s : State) :=
  (s.sched, s.link.stubs, s.link.control, s.link.openPacket, s.link.sending, s.link.passList, s.link.expected,
    s.link.established, s.store.writeList, s.store.transfer, s.store.released, setupOf s.ports)

/-- A port beyond the part's is DISABLED and single. -/
theorem port_lt {s : State} {p : Nat} (h : (s.port p).state ≠ .disabled ∨ (s.port p).role ≠ .single) : p < 48 := by
  by_contra hp
  have hport : s.port p = Port.powerOn := dif_neg hp
  rw [hport] at h
  exact h.elim (fun h => h rfl) (fun h => h rfl)

theorem groupOf_le (s : State) (p : Nat) : s.groupOf p ≤ p := by
  unfold State.groupOf
  split <;> omega

/-- A decision is taken while the grant frame queue has a place (R58). -/
theorem decision?_place {s : State} {g : Nat} {c : Candidate} (h : s.decision? g = some c) : s.sched.queue.length < 512 := by
  unfold State.decision? at h
  split at h
  · rename_i hmay
    simp only [State.mayGrant, Bool.and_eq_true, decide_eq_true_eq] at hmay
    exact hmay.2
  · cases h

/-- A read is chosen while the released-packet queue has a place (R86). -/
theorem readerGroup?_place {s : State} {g : Nat} (h : s.readerGroup? = some g) : s.store.released.length < 16 := by
  unfold State.readerGroup? at h
  split at h
  · rename_i hc
    simp only [Bool.and_eq_true, decide_eq_true_eq] at hc
    exact hc.1
  · cases h

/-- The staging room of the link: of its open packet, of the item being sent and of the pass-through list (R150). -/
def Link.room (l : Link) : Nat := l.openRoom + l.sendingRoom + (l.passList.map (fun p => p.desc.length)).sum

theorem stagingFill_eq (s : State) : s.stagingFill = s.link.room + ((s.store.writeList.map (fun p => p.length)).sum +
    (s.store.transfer.written?.toList.map (fun p => p.length)).sum) := by
  simp only [State.stagingFill, Link.room, Nat.add_assoc]

/-- A passed-through packet is sent from the head of the pass-through list. -/
theorem nextItem?_passed {s : State} {p : PassPacket} (h : s.nextItem? = some (.passed p)) :
    ∃ rest, s.link.passList = p :: rest := by
  unfold State.nextItem? at h
  split at h
  · cases h
  · split at h
    · cases h
    · split at h
      · cases h
      · split at h
        · rename_i rest hpass
          cases h
          exact ⟨rest, hpass⟩
        · simp at h

/-- A port that a command may name is one of the part's and no pair's odd port (R125). -/
theorem portRefusal_none {s : State} {p : Nat} (h : s.portRefusal p = none) : p < 48 ∧ (s.port p).role ≠ .pairOdd := by
  unfold State.portRefusal at h
  split at h
  · cases h
  · rename_i hp
    split at h
    · cases h
    · rename_i hrole
      exact ⟨not_le.1 hp, by simpa using hrole⟩

/-- SET_PORT writes the record of a DISABLED port, and bonds only an even port whose partner is DISABLED (R124, R125). -/
theorem setPortEffect_ok {body : List Byte} {s t : State} {b : ReplyBody} (h : setPortEffect body s = .ok t b) :
    ∃ p pol, p < 48 ∧ (s.port p).role ≠ .pairOdd ∧ (s.port p).state = .disabled ∧
      (pol.bond = .pair → p % 2 = 0 ∧ s.partnerDisabled p = true) ∧
      t = (s.updPort p (fun x => { x with policy := pol })).rebond p (s.policy p).bond pol.bond := by
  unfold setPortEffect at h
  dsimp only at h
  split at h
  · cases h
  · rename_i hport
    split at h
    · cases h
    · rename_i hstate
      split at h
      · cases h
      · rename_i pol _
        split at h
        · cases h
        · rename_i hodd
          split at h
          · cases h
          · rename_i hpartner
            cases h
            obtain ⟨hp, hrole⟩ := portRefusal_none hport
            refine ⟨_, pol, hp, hrole, by simpa using hstate, fun hbond => ⟨?_, ?_⟩, rfl⟩
            · have : ¬ portAt body 0 % 2 = 1 := by simpa [hbond] using hodd
              omega
            · simpa [hbond] using hpartner

/-- The ports after a bond is formed (R125). -/
theorem formBond_port (s : State) (p q : Nat) :
    (s.formBond p).port q = if p + 1 = q ∧ q < 48 then
        { s.port q with role := .pairOdd, policy := Policy.default, suspended := false, strayMarkers := 0, fault := none }
      else if p = q ∧ q < 48 then { s.port q with role := .pairEven } else s.port q := by
  refine (port_updPort _ (p + 1) q _).trans ?_
  rw [port_updPort]
  by_cases hq : p + 1 = q
  · rw [if_neg (c := p = q ∧ q < 48) (by omega)]
  · have hodd : ¬ (p + 1 = q ∧ q < 48) := fun h => hq h.1
    rw [if_neg hodd, if_neg hodd]

/-- The ports after a bond is dissolved (R125). -/
theorem dissolveBond_port (s : State) (p q : Nat) :
    (s.dissolveBond p).port q = if p + 1 = q ∧ q < 48 then Port.powerOn
      else if p = q ∧ q < 48 then { s.port q with role := .single } else s.port q := by
  refine (port_updPort _ (p + 1) q _).trans ?_
  rw [port_updPort]

namespace State.QueuesWithin

variable {s t : State} {room : Nat}

theorem frame (h : s.QueuesWithin room) (hv : t.queueView = s.queueView) : t.QueuesWithin room := by
  simp only [State.queueView, Prod.mk.injEq] at hv
  obtain ⟨hsched, hstubs, hcontrol, hopen, hsending, hpass, hexpected, hestablished, hwrites, htransfer, hreleased, hsetup⟩ := hv
  have hfill : t.stagingFill = s.stagingFill := by
    simp only [State.stagingFill, Link.openRoom, Link.sendingRoom, hopen, hsending, hpass, hwrites, htransfer]
  have hreserved : t.store.reservedPlaces = s.store.reservedPlaces := by simp only [Store.reservedPlaces, htransfer]
  refine ⟨?_, ?_, ?_, ?_, ?_, ?_, ?_, fun p => ?_, ?_, ?_, ?_⟩
  · rw [hsched]; exact h.queue
  · rw [hsched]; exact h.backlog
  · rw [hstubs]; exact h.stubs
  · rw [hcontrol]; exact h.once
  · rw [hcontrol]; exact h.words
  · rw [hreleased, hreserved]; exact h.released
  · rw [hfill]; exact h.staging
  · rw [role_of_setup hsetup]; exact h.pairs p
  · rw [hexpected]; exact h.expected
  · unfold State.establishedPorts; rw [hestablished]; exact h.established
  · rw [hopen]; exact h.opened

theorem weaken {less : Nat} (h : s.QueuesWithin room) (hl : less ≤ room) : s.QueuesWithin less :=
  { h with staging := by have := h.staging; omega }

/-- The records of the Episode Table do not matter to the bounds. -/
theorem updEp (h : s.QueuesWithin room) (slot : Nat) (f : Episode → Episode) : (s.updEp slot f).QueuesWithin room :=
  h.frame rfl

theorem updCounters (h : s.QueuesWithin room) (g : Nat) (f : CounterSet → CounterSet) : (s.updCounters g f).QueuesWithin room :=
  h.frame rfl

theorem raise (h : s.QueuesWithin room) (n : Notice) : (s.raise n).QueuesWithin room := h.frame (by simp [State.queueView])

theorem resumeCheck (h : s.QueuesWithin room) : s.resumeCheck.QueuesWithin room := h.frame (by simp [State.queueView])

theorem closeIfEmpty (h : s.QueuesWithin room) (slot : Nat) : (s.closeIfEmpty slot).QueuesWithin room :=
  h.frame (by simp [State.queueView])

theorem afterEmptying (h : s.QueuesWithin room) (slot : Nat) : (s.afterEmptying slot).QueuesWithin room :=
  h.frame (by simp [State.queueView])

theorem testCompletion (h : s.QueuesWithin room) (slot : Nat) : (s.testCompletion slot).QueuesWithin room :=
  h.frame (by simp [State.queueView])

theorem updPort (h : s.QueuesWithin room) (p : Nat) {f : Port → Port}
    (hf : ∀ x, (f x).policy = x.policy ∧ (f x).role = x.role) : (s.updPort p f).QueuesWithin room :=
  h.frame (by simp [State.queueView, hf])

theorem updMembers (h : s.QueuesWithin room) (g : Nat) {f : Port → Port}
    (hf : ∀ x, (f x).policy = x.policy ∧ (f x).role = x.role) : (s.updMembers g f).QueuesWithin room :=
  h.frame (by simp [State.queueView, hf])

/-! ### UNPACE frames and control words -/

/-- The scheduler's queue and backlog are written, within their bounds. -/
theorem schedule (h : s.QueuesWithin room) (hq : t.sched.queue.length ≤ 512) (hb : t.sched.backlog.length ≤ 16384)
    (hv : t.queueView.2 = s.queueView.2) : t.QueuesWithin room := by
  have hsched : ({ s with sched := t.sched } : State).QueuesWithin room :=
    ⟨hq, hb, h.stubs, h.once, h.words, h.released, h.staging, h.pairs, h.expected, h.established, h.opened⟩
  exact hsched.frame (Prod.ext rfl hv)

/-- A produced frame joins where a place is free (R70). -/
theorem join (h : s.QueuesWithin room) (f : GrantFrame) : ({ s with sched := s.sched.join f } : State).QueuesWithin room := by
  have hq := h.queue
  have hb := h.backlog
  unfold Scheduler.join
  split
  · rename_i hc
    simp only [Bool.and_eq_true, decide_eq_true_eq, Config.grantQueuePlaces] at hc
    exact h.schedule (by simpa using hc.2) hb rfl
  · split
    · rename_i hc
      exact h.schedule hq (by simpa using hc) rfl
    · exact h.schedule hq hb rfl

theorem joinAll (h : s.QueuesWithin room) (l : List GrantFrame) :
    ({ s with sched := l.foldl Scheduler.join s.sched } : State).QueuesWithin room := by
  induction l generalizing s with
  | nil => exact h
  | cons f l ih => exact ih (h.join f)

theorem unpaceEpisode (h : s.QueuesWithin room) (slot : Nat) : (s.unpaceEpisode slot).QueuesWithin room := by
  unfold State.unpaceEpisode
  split
  · exact h
  · rename_i e _
    exact (h.updEp slot Episode.unpace).joinAll e.unpaceFrames

theorem unpaceGroup (h : s.QueuesWithin room) (g : Nat) : (s.unpaceGroup g).QueuesWithin room :=
  foldl_inv (fun s => s.QueuesWithin room) _ (fun _ slot h => h.unpaceEpisode slot) _ _ h

/-- A word for one of the part's ports joins the control queue, unless it is in it (R153). -/
theorem handControl (h : s.QueuesWithin room) {w : ControlWord} (hw : w.port < 48) :
    (s.handControl w).QueuesWithin room := by
  unfold State.handControl
  split
  · exact h
  · rename_i hnew
    refine ⟨h.queue, h.backlog, h.stubs, ?_, ?_, h.released, h.staging, h.pairs, h.expected, h.established, h.opened⟩
    · exact List.nodup_append.2 ⟨h.once, List.nodup_singleton _, fun x hx y hy => by
        rintro rfl
        rw [List.mem_singleton.1 hy] at hx
        exact hnew (List.contains_iff_mem.2 hx)⟩
    · intro x hx
      rcases List.mem_append.1 hx with hx | hx
      · exact h.words x hx
      · rw [List.mem_singleton.1 hx]; exact hw

/-- The members of a drain group of the part are ports of the part. -/
theorem member_lt (h : s.QueuesWithin room) {g m : Nat} (hg : g < 48) (hm : m ∈ s.members g) : m < 48 := by
  unfold State.members at hm
  split at hm
  · rename_i hrole
    have heven := h.pairs g (by simpa using hrole)
    simp only [List.mem_cons, List.not_mem_nil, or_false] at hm
    omega
  · simp only [List.mem_singleton] at hm
    omega

theorem handMembers (h : s.QueuesWithin room) {g : Nat} (hg : g < 48) (start : Bool) :
    ((s.members g).foldl (fun s m => s.handControl ⟨start, m⟩) s).QueuesWithin room :=
  List.foldlRecOn (motive := fun t : State => t.QueuesWithin room) _ _ h (fun _ hb _ hm => hb.handControl (h.member_lt hg hm))

theorem handStart (h : s.QueuesWithin room) {g : Nat} (hg : g < 48) : (s.handStart g).QueuesWithin room := by
  unfold State.handStart
  split
  · exact h.handMembers hg true
  · exact h

theorem handStop (h : s.QueuesWithin room) {g : Nat} (hg : g < 48) : (s.handStop g).QueuesWithin room := by
  unfold State.handStop
  split
  · exact h.handMembers hg false
  · exact h.frame (by simp [State.queueView])

theorem enterDrainOut (h : s.QueuesWithin room) {g : Nat} (hg : g < 48) (cause : DrainCause) :
    (s.enterDrainOut g cause).QueuesWithin room :=
  ((h.frame (by simp [State.queueView])).handStop hg).unpaceGroup g

theorem standDown (h : s.QueuesWithin room) (g : Nat) : (s.standDown g).QueuesWithin room := by
  unfold State.standDown
  split
  · rename_i hactive
    have hg : g < 48 := port_lt (s := s) (Or.inl (by simp [eq_of_beq hactive]))
    exact (h.enterDrainOut hg .standDown).frame (by simp [State.queueView])
  · exact h

theorem reached (h : s.QueuesWithin room) (g : Nat) (type : EvType) (n : Nat) : (s.reached g type n).QueuesWithin room := by
  unfold State.reached
  dsimp only
  have hmarked : ∀ t : State, t.queueView = s.queueView →
      (if protects (t.policy g).protect type then t.standDown g else t).QueuesWithin room := by
    intro t ht
    split
    · exact (h.frame ht).standDown g
    · exact h.frame ht
  split
  · exact hmarked _ (by simp [State.queueView])
  · exact hmarked _ (by simp [State.queueView])

theorem count (h : s.QueuesWithin room) (g : Nat) (type : EvType) : (s.count g type).QueuesWithin room := by
  unfold State.count
  dsimp only
  split
  · exact (h.frame (by simp [State.queueView])).reached g type _
  · exact h.frame (by simp [State.queueView])

/-! ### Admission -/

/-- An admitted packet takes its length of the room (R79, R150). -/
theorem joinWriteList (h : s.QueuesWithin room) (e : Episode) (a : Arrival) (kind : HoldKind)
    (hr : room = a.desc.length) : (s.joinWriteList e a kind).QueuesWithin 0 := by
  refine ⟨h.queue, h.backlog, h.stubs, h.once, h.words, h.released, ?_, h.pairs, h.expected, h.established, h.opened⟩
  have := h.staging
  simp only [State.stagingFill, State.joinWriteList, List.map_append, List.map_cons, List.map_nil, List.sum_append,
    List.sum_cons, List.sum_nil] at this ⊢
  omega

theorem passThrough {a : Arrival} (h : s.QueuesWithin a.desc.length) : (s.passThrough a).QueuesWithin 0 := by
  refine ⟨h.queue, h.backlog, h.stubs, h.once, h.words, h.released, ?_, h.pairs, h.expected, h.established, h.opened⟩
  have := h.staging
  simp only [State.stagingFill, State.passThrough, Link.openRoom, Link.sendingRoom, List.map_append, List.map_cons,
    List.map_nil, List.sum_append, List.sum_cons, List.sum_nil] at this ⊢
  omega

theorem makeStub (h : s.QueuesWithin room) (e : Episode) (a : Arrival) : (s.makeStub e a).QueuesWithin room := by
  unfold State.makeStub
  split
  · rename_i hplace
    exact ⟨h.queue, h.backlog, by simpa using hplace, h.once, h.words, h.released, h.staging, h.pairs, h.expected,
      h.established, h.opened⟩
  · exact h

theorem trim (h : s.QueuesWithin room) (slot : Nat) (a : Arrival) (listed : Bool) :
    (s.trim slot a listed).QueuesWithin room := by
  unfold State.trim
  split
  · exact h
  · rename_i e _
    have ht : (s.updEp slot (fun x => { x with trimmed := x.trimmed.add a.desc.length })).resumeCheck.QueuesWithin room :=
      (h.updEp slot _).resumeCheck
    dsimp only
    split
    · exact (ht.count _ _).makeStub e a
    · exact ht.makeStub e a

theorem holdOwn {a : Arrival} (h : s.QueuesWithin a.desc.length) (slot : Nat) : (s.holdOwn slot a).QueuesWithin 0 := by
  unfold State.holdOwn
  split
  · exact h.weaken (Nat.zero_le _)
  · exact (h.updEp slot _).joinWriteList _ a .own rfl

theorem borrowOrTrim {a : Arrival} (h : s.QueuesWithin a.desc.length) (slot : Nat) (listed : Bool) :
    (s.borrowOrTrim slot a listed).QueuesWithin 0 := by
  unfold State.borrowOrTrim
  split
  · exact h.weaken (Nat.zero_le _)
  · dsimp only
    split
    · exact (h.updEp slot _).joinWriteList _ a .borrowed rfl
    · exact (h.trim slot a listed).weaken (Nat.zero_le _)

theorem enterArrival (h : s.QueuesWithin room) (slot : Nat) (a : Arrival) : (s.enter slot a).QueuesWithin room := by
  unfold State.enter
  split
  · exact h
  · split
    · exact h
    · split
      · dsimp only
        split
        · exact ((h.updEp slot _).join _).frame rfl
        · exact h.updEp slot _
      · exact h

theorem judgeAndHold {a : Arrival} (h : s.QueuesWithin a.desc.length) (slot : Nat) (r : Responder) :
    (s.judgeAndHold slot a r).QueuesWithin 0 := by
  unfold State.judgeAndHold
  dsimp only
  split
  · exact (h.count _ _).borrowOrTrim slot true
  · exact (h.count _ _).borrowOrTrim slot true
  · exact (h.count _ _).borrowOrTrim slot true
  · exact h.borrowOrTrim slot true
  · exact (h.updEp slot _).holdOwn slot
  · have hu := h.updEp slot (fun x => x.updResponder r.endpoint Responder.useAllowance)
    split
    · exact hu.weaken (Nat.zero_le _)
    · split
      · exact hu.holdOwn slot
      · exact hu.borrowOrTrim slot true

theorem arriveSighted {a : Arrival} (h : s.QueuesWithin a.desc.length) (slot : Nat) : (s.arriveSighted slot a).QueuesWithin 0 := by
  have hactive : (if (s.ep? slot).any (fun e => e.state == .armed) then
      (s.updEp slot (fun x => { x with state := .active })).applyNextEpisode a.group else s).QueuesWithin a.desc.length :=
    h.frame (by split <;> simp [State.queueView])
  have hnoted := (hactive.enterArrival slot a).updEp slot
    (fun x => { x.noteSender a with arrived := x.arrived.add a.desc.length })
  unfold State.arriveSighted
  dsimp only
  split
  · exact hnoted.borrowOrTrim slot false
  · rename_i r _
    exact (hnoted.judgeAndHold slot r).frame (by simp [State.queueView])

theorem arriveAdopted {a : Arrival} (h : s.QueuesWithin a.desc.length) (slot : Nat) : (s.arriveAdopted slot a).QueuesWithin 0 :=
  ((h.enterArrival slot a).updEp slot _).borrowOrTrim slot _

theorem arriveDraining {a : Arrival} (h : s.QueuesWithin a.desc.length) (slot : Nat) : (s.arriveDraining slot a).QueuesWithin 0 :=
  ((h.count a.group .late).updEp slot _).borrowOrTrim slot _

theorem arriveUnmatched {a : Arrival} (h : s.QueuesWithin a.desc.length) : (s.arriveUnmatched a).QueuesWithin 0 := by
  unfold State.arriveUnmatched
  split
  · split
    · exact h.passThrough
    · exact State.QueuesWithin.arriveAdopted (h.frame (by simp [State.queueView])) _
  · exact h.passThrough

theorem arriveMatched {a : Arrival} (h : s.QueuesWithin a.desc.length) (e : Episode) : (s.arriveMatched e a).QueuesWithin 0 := by
  unfold State.arriveMatched
  split
  · exact h.arriveDraining e.slot
  · exact (h.count _ _).passThrough
  · exact h.arriveSighted e.slot
  · split
    · exact h.arriveSighted e.slot
    · exact h.arriveAdopted e.slot

theorem portFault {a : Arrival} (h : s.QueuesWithin a.desc.length) (hg : a.group < 48) : (s.portFault a).QueuesWithin 0 := by
  have hraised : ∀ t : State, t.QueuesWithin 0 → ((t.handStop a.group).raisePortState a.group .fault).QueuesWithin 0 :=
    fun t ht => (ht.handStop hg).frame (by simp [State.queueView])
  unfold State.portFault
  dsimp only
  split
  · exact hraised _ (h.passThrough.frame (by simp [State.queueView]))
  · exact (hraised _ (h.passThrough.frame (by simp [State.queueView]))).unpaceGroup a.group

/-- A complete packet is passed through, admitted or trimmed: once in each case (R32, R150). -/
theorem arrive {desc : Descriptor} (h : s.QueuesWithin desc.length) (hp : desc.port < 48) (data : List Byte) :
    (s.arrive desc data).QueuesWithin 0 := by
  have hg : s.groupOf desc.port < 48 := (groupOf_le s desc.port).trans_lt hp
  unfold State.arrive
  dsimp only
  split
  · split
    · exact State.QueuesWithin.arriveUnmatched (a := ⟨desc, data, s.groupOf desc.port⟩) h
    · exact State.QueuesWithin.arriveMatched (a := ⟨desc, data, s.groupOf desc.port⟩) h _
  · exact State.QueuesWithin.portFault (a := ⟨desc, data, s.groupOf desc.port⟩) h hg

/-! ### Grants, withdrawals and expiries -/

theorem makeGrant (h : s.QueuesWithin room) (hplace : s.sched.queue.length < 512) (g : Nat) (c : Candidate) :
    (s.makeGrant g c).QueuesWithin room := by
  unfold State.makeGrant
  split
  · exact h
  · split
    · exact h
    · dsimp only
      exact h.schedule (by simpa using hplace) h.backlog rfl

theorem oneDecision (h : s.QueuesWithin room) : s.oneDecision.QueuesWithin room := by
  have hplace : s.readyDecisions ≠ [] → s.sched.queue.length < 512 := by
    intro hne
    obtain ⟨d, hd⟩ := List.exists_mem_of_ne_nil _ hne
    obtain ⟨g, -, hg⟩ := List.mem_filterMap.1 hd
    obtain ⟨c, hc, -⟩ := Option.map_eq_some_iff.1 hg
    exact decision?_place hc
  unfold State.oneDecision
  split
  · exact h
  · rename_i g c hs
    exact h.makeGrant (hplace (by simp [hs])) g c
  · rename_i first rest _ hs
    exact State.QueuesWithin.makeGrant (s := { s with choices := s.choices + 1 }) (h.frame rfl) (hplace (by simp [hs])) _ _

theorem decisions (h : s.QueuesWithin room) (n : Nat) : (State.decisions n s).QueuesWithin room := by
  induction n generalizing s with
  | zero => exact h
  | succ n ih =>
    unfold State.decisions
    split
    · exact h
    · exact ih h.oneDecision

theorem expireGrant (h : s.QueuesWithin room) (slot position number : Nat) :
    (s.expireGrant slot position number).QueuesWithin room := by
  unfold State.expireGrant
  split
  · exact h
  · rename_i e _
    split
    · exact h
    · split
      · have hstruck := h.updEp slot (fun x => { x with roster := x.roster.modify position (fun r => r.strike number) })
        dsimp only
        split
        · exact (((hstruck.updEp slot _).count e.key.group .retire).updEp slot _).testCompletion slot
        · exact hstruck
      · exact h

theorem teardown (h : s.QueuesWithin room) (slot : Nat) (discards : Bool) : (s.teardown slot discards).QueuesWithin room := by
  have hw := (h.unpaceEpisode slot).updEp slot Episode.withdrawAll
  unfold State.teardown
  dsimp only
  split
  · exact hw.updEp slot _
  · exact hw

theorem abortEpisode (h : s.QueuesWithin room) (slot : Nat) : (s.abortEpisode slot).QueuesWithin room :=
  ((h.updEp slot _).teardown slot true).closeIfEmpty slot

theorem unpaceExpiry (h : s.QueuesWithin room) (g : Nat) : (s.unpaceExpiry g).QueuesWithin room := by
  unfold State.unpaceExpiry
  split
  · exact h.unpaceGroup g
  · exact h

/-- What an expiry counts and tells last. -/
theorem tellExpired (h : s.QueuesWithin room) (slot : Nat) (e : Episode) (action : Option ExpiryAction) :
    ((s.count e.key.group .expire).raiseExpired slot e action).QueuesWithin room :=
  (h.count e.key.group .expire).frame (by simp [State.queueView])

theorem expireDeadline (h : s.QueuesWithin room) (slot : Nat) (e : Episode) : (s.expireDeadline slot e).QueuesWithin room := by
  have htorn := fun f discards => ((h.updEp slot f).unpaceExpiry e.key.group).teardown slot discards
  unfold State.expireDeadline
  split
  · exact ((h.updEp slot _).closeIfEmpty slot).tellExpired slot e none
  · split
    · exact ((htorn _ false).afterEmptying slot).tellExpired slot e (some .drain)
    · exact ((htorn _ true).closeIfEmpty slot).tellExpired slot e (some .discard)
  · exact h
  · exact h

theorem takeDeadline (h : s.QueuesWithin room) (slot : Nat) : (s.takeDeadline slot).QueuesWithin room := by
  unfold State.takeDeadline
  split
  · exact h
  · split
    · exact h
    · split
      · split
        · exact h.expireDeadline slot _
        · exact h.updEp slot _
      · exact h

/-! ### The store -/

/-- The store's transfer ends or a write begins: the packets wait or are being written, and no place is reserved (R80, R90). -/
theorem transferOf {c : Store} (h : s.QueuesWithin room) (hreleased : c.released = s.store.released)
    (hreserved : c.reservedPlaces = 0)
    (hlengths : (c.writeList.map (fun p => p.length)).sum + (c.transfer.written?.toList.map (fun p => p.length)).sum ≤
      (s.store.writeList.map (fun p => p.length)).sum + (s.store.transfer.written?.toList.map (fun p => p.length)).sum) :
    ({ s with store := c } : State).QueuesWithin room := by
  refine ⟨h.queue, h.backlog, h.stubs, h.once, h.words, ?_, ?_, h.pairs, h.expected, h.established, h.opened⟩
  · have := h.released
    dsimp only
    rw [hreserved, hreleased]
    omega
  · have := h.staging
    simp only [State.stagingFill] at this ⊢
    omega

theorem endTransfer (h : s.QueuesWithin room) : ({ s with store := { s.store with transfer := .none } } : State).QueuesWithin room :=
  h.transferOf rfl rfl (by simp [Transfer.written?])

theorem grantWrite (h : s.QueuesWithin room) : s.grantWrite.QueuesWithin room := by
  unfold State.grantWrite
  split
  · exact h
  · rename_i p rest hw
    refine (h.frame (t := { s with choices := s.choices + 1 }) rfl).transferOf rfl rfl ?_
    simp only [hw, Transfer.written?, Option.toList_some, List.map_cons, List.map_nil, List.sum_cons, List.sum_nil]
    omega

/-- A read is granted while the released-packet queue has a place, which it reserves (R86, R90). -/
theorem grantRead (h : s.QueuesWithin room) : s.grantRead.QueuesWithin room := by
  unfold State.grantRead
  split
  · exact h
  · rename_i g hg
    have hplace := readerGroup?_place hg
    refine ⟨h.queue, h.backlog, h.stubs, h.once, h.words, ?_, ?_, h.pairs, h.expected, h.established, h.opened⟩
    · simpa [Store.reservedPlaces] using hplace
    · have := h.staging
      simp only [State.stagingFill, State.setRelease, Transfer.written?, Option.toList_none, List.map_nil, List.sum_nil] at this ⊢
      omega

theorem grantCapture (h : s.QueuesWithin room) : s.grantCapture.QueuesWithin room := by
  unfold State.grantCapture
  split
  · exact h
  · rename_i tag handle _
    have hp : ({ s with store := { s.store with passCount := 0 } } : State).QueuesWithin room := h.frame rfl
    dsimp only
    split
    · exact hp.frame rfl
    · split
      · exact hp.frame rfl
      · exact hp.transferOf rfl rfl (by simp [Transfer.written?])

theorem grantDram (h : s.QueuesWithin room) (r : Requester) : (s.grantDram r).QueuesWithin room := by
  cases r with
  | writer => exact h.grantWrite
  | reader => exact h.grantRead
  | capture => exact h.grantCapture

theorem arbitrate (h : s.QueuesWithin room) (n : Nat) : (State.arbitrate n s).QueuesWithin room := by
  induction n generalizing s with
  | zero => exact h
  | succ n ih =>
    unfold State.arbitrate
    split
    · split
      · exact h
      · exact ih (h.grantDram _)
    · exact h

theorem storeArbiter (h : s.QueuesWithin room) (wasIdle : Bool) : (s.storeArbiter wasIdle).QueuesWithin room := by
  unfold State.storeArbiter
  dsimp only
  split
  · exact (State.QueuesWithin.grantDram (s := { s with choices := s.choices + 1 }) (h.frame rfl) _).arbitrate 2
  · exact h.arbitrate 2

theorem finishWrite (h : s.QueuesWithin room) : s.finishWrite.QueuesWithin room := by
  have hr : ({ s with store := { s.store with transfer := .none } } : State).resumeCheck.QueuesWithin room :=
    h.endTransfer.resumeCheck
  unfold State.finishWrite
  split
  · exact h
  · exact h
  · exact h
  · dsimp only
    split
    · exact hr
    · split
      · exact hr.updEp _ _
      · exact (hr.updEp _ _).closeIfEmpty _

/-- A released packet fills a place of the released-packet queue that was reserved for it (R90). -/
theorem joinReleased (h : s.QueuesWithin room) (g : Nat) (e : Episode) (p : HeldPacket)
    (hplace : s.store.released.length + s.store.reservedPlaces < 16) : (s.joinReleased g e p).QueuesWithin room := by
  refine ⟨h.queue, h.backlog, h.stubs, h.once, h.words, ?_, h.staging, h.pairs, h.expected, h.established, h.opened⟩
  simp only [State.joinReleased, List.length_append, List.length_singleton]
  have hreserved : ∀ l, ({ s.store with released := l } : Store).reservedPlaces = s.store.reservedPlaces := fun _ => rfl
  rw [hreserved]
  omega

theorem finishRelease (h : s.QueuesWithin room) {g : Nat} (ht : s.store.transfer = .release g) (p : HeldPacket)
    (uncorrectable : Bool) : (s.finishRelease g p uncorrectable).QueuesWithin room := by
  have hplace : s.store.released.length < 16 := by
    have := h.released
    rw [Store.reservedPlaces, ht] at this
    exact this
  have hended : ({ s.setRelease g none with store := { (s.setRelease g none).store with transfer := .none } } :
      State).QueuesWithin room := h.endTransfer.frame rfl
  unfold State.finishRelease
  dsimp only
  split
  · split
    · exact hended.frame (by simp [State.queueView])
    · exact hended
  · rename_i e _
    have hread := hended.updEp e.slot (fun x => { x with inFlight := false })
    refine State.QueuesWithin.afterEmptying ?_ e.slot
    split
    · exact (hread.updEp e.slot (fun x => { x.discard p with damaged := true })).frame (by simp [State.queueView])
    · split
      · exact (hread.updEp e.slot _).joinReleased g e p hplace
      · exact hread.updEp e.slot _

theorem finishRead (h : s.QueuesWithin room) (corrected : Nat) (uncorrectable : Bool) :
    (s.finishRead corrected uncorrectable).QueuesWithin room := by
  unfold State.finishRead
  split
  · exact h
  · exact h
  · exact h
  · rename_i g ht
    split
    · exact h.endTransfer
    · exact State.QueuesWithin.finishRelease (s := s.noteCorrected corrected) (h.frame rfl) ht _ _

theorem finishCapture (h : s.QueuesWithin room) (corrected : Nat) (uncorrectable : Bool) :
    (s.finishCapture corrected uncorrectable).QueuesWithin room := by
  unfold State.finishCapture
  split
  · exact h
  · exact h
  · exact h
  · dsimp only
    split
    · exact h.endTransfer
    · split
      · exact h.endTransfer.frame rfl
      · exact h.endTransfer.frame rfl

/-! ### The divert link -/

/-- The link is written: no stub, no control word and no staging room is taken, and its parameters stay. -/
theorem relink {l : Link} (h : s.QueuesWithin room) (hstubs : l.stubs.length ≤ s.link.stubs.length)
    (hcontrol : l.control.Sublist s.link.control) (hroom : l.room ≤ s.link.room) (hexpected : l.expected = s.link.expected)
    (hestablished : l.established = s.link.established)
    (hopened : ∀ o, l.openPacket = some o → o.staged = true → o.desc.port < 48) :
    ({ s with link := l } : State).QueuesWithin room := by
  refine ⟨h.queue, h.backlog, hstubs.trans h.stubs, h.once.sublist hcontrol, fun w hw => h.words w (hcontrol.subset hw),
    h.released, ?_, h.pairs, hexpected ▸ h.expected, ?_, hopened⟩
  · have := h.staging
    rw [stagingFill_eq] at this ⊢
    dsimp only
    omega
  · have := h.established
    unfold State.establishedPorts at this ⊢
    rwa [hestablished]

/-- The open packet leaves its place, and its room is released. -/
theorem closeOpen (h : s.QueuesWithin room) : ({ s with link := { s.link with openPacket := none } } : State).QueuesWithin room :=
  h.relink le_rfl (List.Sublist.refl _) (by simp only [Link.room, Link.openRoom, Link.sendingRoom]; omega) rfl rfl
    (fun o ho => by cases ho)

/-- A staged packet that leaves the open place whole makes room for its own length. -/
theorem takeOpen {o : OpenPacket} (h : s.QueuesWithin 0) (ho : s.link.openPacket = some o) (hs : o.staged = true) :
    ({ s with link := { s.link with openPacket := none } } : State).QueuesWithin o.desc.length :=
  { h.closeOpen with
    staging := by
      have := h.staging
      simp only [stagingFill_eq, Link.room, Link.openRoom, Link.sendingRoom, ho, hs, if_true] at this ⊢
      omega }

theorem breakOpen (h : s.QueuesWithin room) (ended : Bool) : (s.breakOpen ended).QueuesWithin room := by
  unfold State.breakOpen
  split
  · exact h
  · rename_i o ho
    split
    · refine State.QueuesWithin.resumeCheck (h.relink le_rfl (List.Sublist.refl _) ?_ rfl rfl ?_)
      · cases ended <;> simp [Link.room, Link.openRoom, Link.sendingRoom]
      · cases ended <;> simp
    · split
      · exact h.closeOpen
      · exact h

theorem finishItem (h : s.QueuesWithin room) : s.finishItem.QueuesWithin room := by
  unfold State.finishItem
  split
  · exact h
  · refine State.QueuesWithin.resumeCheck (h.relink le_rfl (List.Sublist.refl _) ?_ rfl rfl h.opened)
    simp only [Link.room, Link.openRoom, Link.sendingRoom]
    omega

theorem loseItem (h : s.QueuesWithin room) : s.loseItem.QueuesWithin room := by
  have hlost : ∀ discards, ({ s with link := { s.link with
      sending := none, returnLosses := sat32 (s.link.returnLosses + 1), discards := discards } } : State).QueuesWithin room := by
    intro discards
    refine h.relink le_rfl (List.Sublist.refl _) ?_ rfl rfl h.opened
    simp only [Link.room, Link.openRoom, Link.sendingRoom]
    omega
  unfold State.loseItem
  split
  · exact h
  · dsimp only
    split
    · exact (hlost _).resumeCheck
    · exact hlost s.link.discards

theorem loseLink (h : s.QueuesWithin room) (cause : LinkCause) : (s.loseLink cause).QueuesWithin room := by
  have hports : ∀ (l : List Nat) (t : State), t.QueuesWithin room → (l.foldl State.portLoss t).QueuesWithin room :=
    fun l t ht => foldl_inv (fun t => t.QueuesWithin room) _ (fun _ _ h => h.frame (by simp [State.queueView])) l t ht
  have hleft := h.frame (t := ({ s.toAligning with link := { s.toAligning.link with loss := true } } : State).raise (.linkState cause))
    (by simp [State.queueView])
  have hlost := (hleft.breakOpen true).loseItem
  unfold State.loseLink
  refine hports _ _ (hlost.relink le_rfl (List.nil_sublist _) le_rfl rfl rfl hlost.opened)

/-- A group that is restarted is one of the part's (R138, R146). -/
theorem restartGroups (h : s.QueuesWithin room) (u : State) : (u.groups.foldl State.restart s).QueuesWithin room := by
  refine List.foldlRecOn (motive := fun t : State => t.QueuesWithin room) _ _ h (fun t ht g hg => ?_)
  unfold State.restart
  split
  · exact ht.handStart (List.mem_range.1 (List.mem_of_mem_filter hg))
  · exact ht

theorem reachUp (h : s.QueuesWithin room) {p : LinkParams} (hp : p.portCount ≤ 48) : (s.reachUp p).QueuesWithin room := by
  have hup : ({ s with link := { s.link with
      state := .up, established := some p, egressFull := BitVec.allOnes 48, hold := false } } : State).QueuesWithin room :=
    { h with established := hp }
  have hraised := hup.raise (.linkState (.up p))
  unfold State.reachUp
  dsimp only
  split
  · exact (hraised.frame (by simp [State.queueView])).restartGroups _
  · exact hraised.restartGroups _

theorem takeParams (h : s.QueuesWithin room) (p : LinkParams) (checksum : Byte) : (s.takeParams p checksum).QueuesWithin room := by
  unfold State.takeParams
  split
  · dsimp only
    split
    · rename_i heq
      have hp : p.portCount ≤ 48 := by rw [eq_of_beq heq]; exact h.expected
      exact State.QueuesWithin.reachUp (h.frame (t := { s with link := { s.link with lastGood := some p } }) rfl) hp
    · split
      · exact h.frame rfl
      · exact h.frame (by simp [State.queueView])
  · exact h.frame (by simp [State.queueView])

theorem framingError (h : s.QueuesWithin room) (lane : Nat) : (s.framingError lane).QueuesWithin room := by
  unfold State.framingError
  dsimp only
  split
  · exact h
  · exact h.frame (by simp [State.queueView])
  · exact h.frame (by split <;> simp [State.queueView])
  · exact h.frame (by split <;> simp [State.queueView])
  · split
    · exact h.loseLink .framing
    · exact h.frame (by simp [State.queueView])

theorem damagedWord (h : s.QueuesWithin room) (blocks : Vector BlockCheck 4) (typeCode : Byte) (ofPacket : Bool) :
    (s.damagedWord blocks typeCode ofPacket).QueuesWithin room := by
  unfold State.damagedWord
  dsimp only
  split
  · exact h
  · exact h.frame (by simp [State.queueView])
  · exact h.frame (by simp [State.queueView])
  · exact h.frame (by split <;> simp [State.queueView])
  · split
    · exact State.QueuesWithin.breakOpen (h.frame (by simp [State.queueView])) false
    · exact h.frame (by simp [State.queueView])

theorem takeWord (h : s.QueuesWithin room) {inParams inUp : State → State}
    (hp : ∀ t : State, t.QueuesWithin room → (inParams t).QueuesWithin room)
    (hu : ∀ t : State, t.QueuesWithin room → (inUp t).QueuesWithin room) : (s.takeWord inParams inUp).QueuesWithin room := by
  unfold State.takeWord
  dsimp only
  split
  · exact h
  · exact h.frame (by simp [State.queueView])
  · exact h.frame (by simp [State.queueView])
  · exact hp _ (h.frame (by simp [State.queueView]))
  · exact hu _ (h.frame (by simp [State.queueView]))

/-- A staged descriptor is of an established port, and its room is within the staging buffer (R149). -/
theorem takeDescriptor (h : s.QueuesWithin 0) (d : Descriptor) : (s.takeDescriptor d).QueuesWithin 0 := by
  have hb := h.breakOpen true
  have hdropped : ∀ discards drops, ({ s.breakOpen true with link := { (s.breakOpen true).link with
      discards := discards, stagingDrops := drops, openPacket := some ⟨d, false, 0, []⟩ } } : State).QueuesWithin 0 := by
    intro discards drops
    refine hb.relink le_rfl (List.Sublist.refl _) ?_ rfl rfl (fun o ho hs => ?_)
    · simp only [Link.room, Link.openRoom, Link.sendingRoom]
      simp
    · cases ho
      cases hs
  unfold State.takeDescriptor
  dsimp only
  split
  · exact hdropped _ _
  · rename_i hformed
    split
    · exact hdropped _ _
    · rename_i hroom
      have hport : d.port < 48 := by
        simp only [Bool.or_eq_true, decide_eq_true_eq, not_or, not_le] at hformed
        exact hformed.2.trans_le hb.established
      refine State.QueuesWithin.frame (s := { s.breakOpen true with link := { (s.breakOpen true).link with
        openPacket := some ⟨d, true, 0, []⟩ } }) ?_ (by simp [State.queueView])
      refine { hb with
        staging := ?_
        opened := fun o ho _ => by cases ho; exact hport }
      rw [stagingFill_eq] at hroom ⊢
      simp only [Link.room, Link.openRoom, Link.sendingRoom] at hroom ⊢
      simp only [Config.stagingBytes, if_true] at hroom ⊢
      omega

theorem takePayload (h : s.QueuesWithin 0) (last : Bool) (count : Byte) (data : List Byte) :
    (s.takePayload last count data).QueuesWithin 0 := by
  unfold State.takePayload
  split
  · exact h.frame (by simp [State.queueView])
  · rename_i o ho
    dsimp only
    split
    · split
      · exact h.breakOpen _
      · exact h
    · rename_i hs
      have hstaged : o.staged = true := by simpa using hs
      split
      · exact h.breakOpen _
      · split
        · refine h.relink le_rfl (List.Sublist.refl _) ?_ rfl rfl (fun x hx _ => ?_)
          · simp only [Link.room, Link.openRoom, Link.sendingRoom, ho]
            omega
          · cases hx
            exact h.opened o ho hstaged
        · split
          · exact (h.takeOpen ho hstaged).arrive (h.opened o ho hstaged) _
          · exact h.breakOpen _

theorem sightingWord (h : s.QueuesWithin room) (port : Nat) (a : Announcement) : (s.sightingWord port a).QueuesWithin room := by
  unfold State.sightingWord
  exact (h.breakOpen false).frame (by dsimp only; split <;> simp [State.queueView])

theorem markerWord (h : s.QueuesWithin room) (port : Nat) {taken : State → Nat → State}
    (ht : ∀ t, (taken t port).queueView = t.queueView) : (s.markerWord port taken).QueuesWithin room := by
  unfold State.markerWord
  dsimp only
  split
  · exact (h.breakOpen false).frame (by simp [State.queueView])
  · exact (h.breakOpen false).frame (ht _)

theorem unknownWord (h : s.QueuesWithin room) (marker : Bool) : (s.unknownWord marker).QueuesWithin room := by
  unfold State.unknownWord
  split
  · exact (h.breakOpen false).frame (by simp [State.queueView])
  · exact h.frame (by simp [State.queueView])

/-! ### What follows an event -/

theorem sendHead (h : s.QueuesWithin room) : ({ s with sched := s.sched.sendHead } : State).QueuesWithin room := by
  have hq := h.queue
  have hb := h.backlog
  cases hl : s.sched.backlog with
  | nil => exact h.schedule (by simp [Scheduler.sendHead, hl]; omega) (by simp [Scheduler.sendHead, hl]) rfl
  | cons b rest =>
    rw [hl, List.length_cons] at hb
    exact h.schedule (by simp [Scheduler.sendHead, hl]; omega) (by simp [Scheduler.sendHead, hl]; omega) rfl

/-- An item leaves its source; a passed-through packet keeps its room while it is sent (R150, R153). -/
theorem beginItemOf (h : s.QueuesWithin room) (hidle : s.link.sending = none) {item : OutItem}
    (hitem : s.nextItem? = some item) : (s.beginItemOf item).QueuesWithin room := by
  have hsent : item.isPassed = false → ({ s with link := { s.link with sending := some item } } : State).QueuesWithin room := by
    intro hkind
    refine h.relink le_rfl (List.Sublist.refl _) ?_ rfl rfl h.opened
    cases item with
    | passed p => cases hkind
    | _ => simp [Link.room, Link.openRoom, Link.sendingRoom, hidle]
  cases item with
  | control w => exact (hsent rfl).relink le_rfl (List.drop_sublist _ _) le_rfl rfl rfl h.opened
  | grant f => exact (hsent rfl).sendHead
  | stub x => exact (hsent rfl).relink (by simp) (List.Sublist.refl _) le_rfl rfl rfl h.opened
  | passed p =>
    obtain ⟨rest, hpass⟩ := nextItem?_passed hitem
    refine h.relink le_rfl (List.Sublist.refl _) (le_of_eq ?_) rfl rfl h.opened
    simp only [Link.room, Link.openRoom, Link.sendingRoom, hidle, hpass, List.drop_succ_cons, List.drop_zero, List.map_cons,
      List.sum_cons]
    omega
  | released p =>
    have hplaces : (s.store.released.drop 1).length + s.store.reservedPlaces ≤ 16 := by
      have := h.released
      rw [List.length_drop]
      omega
    exact { hsent rfl with released := hplaces }

theorem beginItem (h : s.QueuesWithin room) : s.beginItem.QueuesWithin room := by
  unfold State.beginItem
  split
  · rename_i hfree
    simp only [Bool.and_eq_true, Option.isNone_iff_eq_none] at hfree
    split
    · exact h
    · rename_i item hitem
      exact (h.beginItemOf hfree.1.2 hitem).frame (by simp [State.queueView])
  · exact h

theorem consequences (h : s.QueuesWithin room) (wasIdle : Bool) : (s.consequences wasIdle).QueuesWithin room := by
  have hdrained : s.completeDrains.QueuesWithin room := h.frame (by simp [State.queueView])
  have hreleased : s.completeDrains.beginItem.beginReleases.QueuesWithin room :=
    hdrained.beginItem.frame (by simp [State.queueView])
  exact ((((hreleased.storeArbiter wasIdle).decisions 512).beginItem).decisions 512)

/-! ### The commands of the host -/

/-- A port's bond role becomes PAIR_EVEN only at an even port (R125). -/
theorem setPortEffect (h : s.QueuesWithin room) {body : List Byte} {b : ReplyBody} (ht : setPortEffect body s = .ok t b) :
    t.QueuesWithin room := by
  have hrest : ({ t with ports := s.ports } : State).QueuesWithin room :=
    h.frame (by simp [State.queueView, setPortEffect_keeps ht])
  obtain ⟨p, pol, hp, -, -, hbond, rfl⟩ := setPortEffect_ok ht
  have hpolicy : ∀ q, ((s.updPort p (fun x => { x with policy := pol })).port q).role = (s.port q).role :=
    fun q => by rw [port_updPort]; split <;> rfl
  refine { hrest with pairs := fun q hq => ?_ }
  unfold State.rebond at hq
  split at hq
  · rename_i hpair
    rw [formBond_port] at hq
    by_cases hpq : p = q
    · exact hpq ▸ (hbond hpair).1
    · split at hq
      · cases hq
      · rw [if_neg (fun h => hpq h.1), hpolicy] at hq
        exact h.pairs q hq
  · rw [dissolveBond_port] at hq
    split at hq
    · cases hq
    · split at hq
      · cases hq
      · rw [hpolicy] at hq
        exact h.pairs q hq
  · rw [hpolicy] at hq
    exact h.pairs q hq
  · rw [hpolicy] at hq
    exact h.pairs q hq

theorem enable (h : s.QueuesWithin room) {g : Nat} (hg : g < 48) : (s.enable g).QueuesWithin room := by
  refine (((h.updPort g ?_).updMembers g ?_).handStart hg).updCounters g _
  · exact fun _ => ⟨rfl, rfl⟩
  · exact fun _ => ⟨rfl, rfl⟩

theorem enablePortEffect (h : s.QueuesWithin room) {body : List Byte} {b : ReplyBody} (ht : enablePortEffect body s = .ok t b) :
    t.QueuesWithin room := by
  unfold Machine.enablePortEffect at ht
  dsimp only at ht
  split at ht
  · cases ht
  · rename_i hport
    (repeat' split at ht) <;> cases ht
    exact h.enable (portRefusal_none hport).1

theorem abortGroup (h : s.QueuesWithin room) (g : Nat) : (s.abortGroup g).QueuesWithin room :=
  foldl_inv (fun t => t.QueuesWithin room) _ (fun _ slot h => h.abortEpisode slot) _ _ h

theorem disablePortEffect (h : s.QueuesWithin room) {body : List Byte} {b : ReplyBody}
    (ht : disablePortEffect body s = .ok t b) : t.QueuesWithin room := by
  have ha := h.abortGroup (portAt body 0)
  unfold Machine.disablePortEffect at ht
  split at ht
  · unfold disableFlushEffect at ht
    dsimp only at ht
    split at ht
    · cases ht
    · rename_i hport
      have hp := (portRefusal_none hport).1
      split at ht <;> cases ht
      · exact ha.enterDrainOut hp .flush
      · exact ha.enterDrainOut hp .flush
      · exact ha.updPort _ (fun _ => ⟨rfl, rfl⟩)
      · exact ha.updPort _ (fun _ => ⟨rfl, rfl⟩)
  · unfold disableDrainEffect at ht
    dsimp only at ht
    split at ht
    · cases ht
    · rename_i hport
      have hp := (portRefusal_none hport).1
      split at ht
      · cases ht
      · split at ht <;> cases ht
        · exact h.enterDrainOut hp .host
        · exact h.enterDrainOut hp .host
        · exact h.updPort _ (fun _ => ⟨rfl, rfl⟩)

theorem expectParams (h : s.QueuesWithin room) {p : LinkParams} (hp : p.portCount ≤ 48) : (s.expectParams p).QueuesWithin room := by
  have hset : ({ s with link := { s.link with expected := p } } : State).QueuesWithin room := { h with expected := hp }
  unfold State.expectParams
  dsimp only
  split
  · exact hset.reachUp hp
  · exact hset

theorem setLinkParamsEffect (h : s.QueuesWithin room) {body : List Byte} {b : ReplyBody}
    (ht : setLinkParamsEffect body s = .ok t b) : t.QueuesWithin room := by
  unfold Machine.setLinkParamsEffect at ht
  split at ht
  · cases ht
  · rename_i p hp
    cases ht
    refine h.expectParams ?_
    unfold linkParamsAt at hp
    dsimp only at hp
    split at hp
    · rename_i hc
      cases hp
      simp only [inRange, Bool.and_eq_true, decide_eq_true_eq] at hc
      exact hc.1.2.2
    · cases hp

theorem relinkEffect (h : s.QueuesWithin room) {body : List Byte} {b : ReplyBody} (ht : relinkEffect body s = .ok t b) :
    t.QueuesWithin room := by
  unfold Machine.relinkEffect at ht
  cases ht
  split
  · exact h.loseLink .relink
  · exact h.frame (by simp [State.queueView])

/-- The effect of every command of the host. -/
theorem performed (h : s.QueuesWithin room) {f : Frame} {b : ReplyBody} (ht : performed f s = .ok t b) : t.QueuesWithin room := by
  unfold Machine.performed at ht
  split at ht
  · rw [identifyEffect_keeps ht]; exact h
  · cases ht
  · exact h.setPortEffect ht
  · exact h.enablePortEffect ht
  · exact h.disablePortEffect ht
  · unfold resumePortEffect at ht
    dsimp only at ht
    (repeat' split at ht) <;> cases ht
    exact h.updPort _ (fun _ => ⟨rfl, rfl⟩)
  · unfold portStatusEffect at ht
    dsimp only at ht
    (repeat' split at ht) <;> cases ht
    exact h.updPort _ (fun x => by split <;> exact ⟨rfl, rfl⟩)
  · exact h.frame (by simp [State.queueView, setRateEffect_keeps ht])
  · exact h.frame (by simp [State.queueView, commitRateEffect_keeps ht])
  · rw [rateStatusEffect_keeps ht]; exact h
  · rw [listEpisodesEffect_keeps ht]; exact h
  · rw [episodeStatusEffect_keeps ht]; exact h
  · exact h.frame (by simp [State.queueView, haltEffect_keeps ht])
  · exact h.frame (by simp [State.queueView, haltEffect_keeps ht])
  · unfold abortEffect at ht
    (repeat' split at ht) <;> cases ht
    exact h.abortEpisode _
  · exact h.frame (by simp [State.queueView, extendEffect_keeps ht])
  · exact h.frame (by simp [State.queueView, addReservationEffect_keeps ht])
  · unfold captureEffect at ht; split at ht <;> cases ht
  · rw [readCountersEffect_keeps ht]; exact h
  · exact h.frame (by simp [State.queueView, clearCountersEffect_keeps ht])
  · exact h.frame (by simp [State.queueView, setThresholdEffect_keeps ht])
  · rw [storeStatusEffect_keeps ht]; exact h
  · exact h.frame (by simp [State.queueView, setPoolEffect_keeps ht])
  · exact h.frame (by simp [State.queueView, linkStatusEffect_keeps ht])
  · exact h.setLinkParamsEffect ht
  · exact h.relinkEffect ht
  · cases ht

/-! ### Resets and steps -/

/-- Every reset of the link, the ports, the scheduler and the store is within the bounds; the expected parameters are kept or
those of power-on (R158, R177). -/
theorem ofReset {state : LinkState} {expected : LinkParams} {initialising : Bool} (hsched : s.sched = Scheduler.powerOn)
    (hstore : s.store = Store.powerOn initialising) (hports : s.ports = Vector.replicate 48 Port.powerOn)
    (hlink : s.link = Link.afterReset state expected) (hp : expected.portCount ≤ 48) : s.QueuesWithin 0 := by
  have hrole : ∀ p, s.port p = Port.powerOn := fun p => by unfold State.port; rw [hports]; exact vget_replicate _ _ _
  refine ⟨?_, ?_, ?_, ?_, ?_, ?_, ?_, fun p hq => ?_, ?_, ?_, ?_⟩
  · rw [hsched]; decide
  · rw [hsched]; decide
  · rw [hlink]; exact Nat.zero_le _
  · rw [hlink]; exact List.nodup_nil
  · rw [hlink]; exact fun w hw => absurd hw List.not_mem_nil
  · rw [hstore]; exact Nat.zero_le _
  · rw [stagingFill_eq, hstore, hlink]; exact Nat.zero_le _
  · rw [hrole] at hq; cases hq
  · rw [hlink]; exact hp
  · unfold State.establishedPorts; rw [hlink]; exact Nat.zero_le _
  · rw [hlink]; exact fun o ho => by cases ho

theorem transmitDone (h : s.QueuesWithin 0) : s.transmitDone.QueuesWithin 0 := by
  unfold State.transmitDone
  split
  · exact h
  · dsimp only
    split
    · exact h.frame rfl
    · split
      · exact ofReset (by simp [State.resetPart]) (by simp [State.resetPart]; rfl) (by simp [State.resetPart])
          (by simp [State.resetPart]; rfl) h.expected
      · exact h.frame rfl

/-- The effect of every row that is an event of its own. -/
theorem eventOf {i : Instr} {effect : State → State} (hi : eventOf? i = some effect) (h : s.QueuesWithin 0) :
    (effect s).QueuesWithin 0 := by
  cases i with
  | transmitComplete => cases hi; exact h.transmitDone
  | grantTimerExpiry slot position number => cases hi; exact h.expireGrant slot position number
  | deadlineExpiry slot => cases hi; exact h.takeDeadline slot
  | framingError lane => cases hi; exact h.framingError lane
  | damagedWord blocks typeCode ofPacket => cases hi; exact h.damagedWord blocks typeCode ofPacket
  | parameterBlock linkId laneCount portCount maxLength checksum =>
    cases hi
    exact h.takeWord (fun t ht => ht.takeParams _ checksum) (fun t ht => ht.frame (by simp [State.queueView]))
  | packetDescriptor port flags length dest src tag grant =>
    cases hi; exact h.takeWord (fun _ => id) (fun t ht => ht.takeDescriptor _)
  | payloadWord last count data => cases hi; exact h.takeWord (fun _ => id) (fun t ht => ht.takePayload last count data)
  | sighting port requester tag n e cls report =>
    cases hi; exact h.takeWord (fun _ => id) (fun t ht => ht.sightingWord port.toNat _)
  | divertStarted port =>
    cases hi; exact h.takeWord (fun _ => id) (fun t ht => ht.markerWord port.toNat (by simp [State.queueView]))
  | divertStopped port =>
    cases hi; exact h.takeWord (fun _ => id) (fun t ht => ht.markerWord port.toNat (by simp [State.queueView]))
  | statusWord full => cases hi; exact h.takeWord (fun _ => id) (fun t ht => ht.frame (by simp [State.queueView]))
  | holdReturn => cases hi; exact h.takeWord (fun _ => id) (fun t ht => ht.frame (by simp [State.queueView]))
  | resumeReturn => cases hi; exact h.takeWord (fun _ => id) (fun t ht => ht.frame (by simp [State.queueView]))
  | idleWord => cases hi; exact h.takeWord (fun _ => id) (fun _ => id)
  | unknownTypeWord marker => cases hi; exact h.takeWord (fun _ => id) (fun t ht => ht.unknownWord marker)
  | storeWriteComplete => cases hi; exact h.finishWrite
  | releaseReadComplete corrected uncorrectable => cases hi; exact h.finishRead corrected uncorrectable
  | captureReadComplete corrected uncorrectable => cases hi; exact h.finishCapture corrected uncorrectable
  | returnItemComplete => cases hi; exact h.finishItem
  | _ => cases hi <;> exact h.frame (by simp [State.queueView])

theorem resets (h : s.QueuesWithin 0) : s.assertReset.QueuesWithin 0 ∧ s.releaseReset.QueuesWithin 0 := by
  refine ⟨ofReset rfl rfl rfl rfl (by decide), ?_⟩
  unfold State.releaseReset
  split
  · exact ofReset rfl rfl rfl rfl (by decide)
  · exact h

end State.QueuesWithin

/-- Settles O54: the bounds are kept with the staging room that a whole packet leaves until it is admitted
(`State.QueuesWithin.arrive`), so by every effect and by what follows it. -/
theorem stepsKeepTransferQueuesBounded : Obligations.StepsKeepTransferQueuesBounded := by
  intro s t hstep h
  rw [queuesSound_iff] at h ⊢
  exact step_inv (P := fun s => s.QueuesWithin 0) (fun _ _ h => h.frame rfl) (fun _ _ h => h.frame rfl)
    (fun _ _ h => h.frame rfl) (fun _ _ h => h.frame rfl) (fun _ w h => h.consequences w) (fun _ _ _ _ ht h => h.performed ht)
    (fun _ _ hi _ h => h.eventOf hi) (fun _ h => h.resets) s t hstep h

end Sys2Proof.Machine
end

-- ==== Proofs: the reservations ====
section
/-! Held-own cells and granted packets within the reservation (R42, R48, R62, R75). Most operations only ease a record: its own
cells and its granted packets do not rise, and its reservation does not fall (`State.Eases`). The own admissions, the grants, a new
record, the end of a drain-out and SET_PORT are the others, each with its own argument. -/

namespace Sys2Proof.Machine

/-! ### Easing a responder and a record -/

/-- No outstanding grant of a responder is used up. -/
def Responder.Live (r : Responder) : Prop := ∀ g ∈ r.grants, 1 ≤ g.remaining

/-- A responder with no more packets granted, and none of its grants used up. -/
structure Responder.Eases (x y : Responder) : Prop where
  remaining : y.remaining ≤ x.remaining
  live : x.Live → y.Live

theorem Responder.eases_of_grants {x y : Responder} (h : y.grants = x.grants) : x.Eases y :=
  ⟨by unfold Responder.remaining; rw [h], fun hx => by unfold Responder.Live; rw [h]; exact hx⟩

theorem Responder.Eases.refl (x : Responder) : x.Eases x := Responder.eases_of_grants rfl

/-- A responder that loses grants. -/
theorem Responder.eases_of_sublist {x y : Responder} (h : y.grants.Sublist x.grants) : x.Eases y :=
  ⟨(h.map _).sum_le_sum (by simp), fun hx g hg => hx g (h.subset hg)⟩

theorem Responder.eases_of_nil (x : Responder) {y : Responder} (h : y.grants = []) : x.Eases y :=
  Responder.eases_of_sublist (by rw [h]; exact List.nil_sublist _)

theorem Responder.strike_eases (r : Responder) (number : Nat) : r.Eases (r.strike number) :=
  Responder.eases_of_sublist List.filter_sublist

theorem Responder.tick_eases (r : Responder) : r.Eases { r with grants := r.grants.map Grant.tick } := by
  have htick : ∀ g : Grant, g.tick.remaining = g.remaining := fun g => by unfold Grant.tick; split <;> rfl
  refine ⟨le_of_eq ?_, fun h g hg => ?_⟩
  · simp only [Responder.remaining, List.map_map, Function.comp_def, htick]
  · obtain ⟨x, hx, rfl⟩ := List.mem_map.1 hg
    rw [htick]
    exact h x hx

/-- A grant after a packet cited a number (R45). -/
def Grant.cited (g : Grant) (number timeout : Nat) : Grant :=
  if g.number == number then { g with remaining := g.remaining - 1, timer := timeout, due := false } else g

theorem Responder.useGrant_grants (r : Responder) (number timeout : Nat) : (r.useGrant number timeout).grants =
    (r.grants.map (fun g => g.cited number timeout)).filter (fun g => !(g.number == number && g.remaining == 0)) := rfl

theorem Grant.cited_remaining_le (g : Grant) (number timeout : Nat) : (g.cited number timeout).remaining ≤ g.remaining := by
  unfold Grant.cited
  split
  · exact Nat.sub_le _ _
  · exact le_rfl

/-- A cited grant loses a packet, and goes when none remains (R45). -/
theorem Responder.useGrant_eases (r : Responder) (number timeout : Nat) : r.Eases (r.useGrant number timeout) := by
  refine ⟨?_, fun h g hg => ?_⟩
  · unfold Responder.remaining
    rw [r.useGrant_grants]
    refine ((List.filter_sublist.map _).sum_le_sum (by simp)).trans ?_
    rw [List.map_map]
    exact List.sum_le_sum (fun g _ => g.cited_remaining_le number timeout)
  · rw [r.useGrant_grants, List.mem_filter] at hg
    obtain ⟨hused, hleft⟩ := hg
    obtain ⟨x, hx, rfl⟩ := List.mem_map.1 hused
    have hlive := h x hx
    unfold Grant.cited at hleft ⊢
    split
    · rename_i hn
      simp only [hn, if_true, Bool.true_and, Bool.not_eq_true', beq_eq_false_iff_ne] at hleft
      exact Nat.one_le_iff_ne_zero.2 hleft
    · exact hlive

/-- A responder that is cited for one of its grants has a packet less granted (R45). -/
theorem Responder.useGrant_lt {r : Responder} {number : Nat} (timeout : Nat) (h : r.Live)
    (hg : r.grants.any (fun g => g.number == number) = true) : (r.useGrant number timeout).remaining < r.remaining := by
  obtain ⟨g, hmem, hn⟩ := List.any_eq_true.1 hg
  unfold Responder.remaining
  rw [r.useGrant_grants]
  refine ((List.filter_sublist.map _).sum_le_sum (by simp)).trans_lt ?_
  rw [List.map_map]
  refine List.sum_lt_sum _ _ (fun g _ => g.cited_remaining_le number timeout) ⟨g, hmem, ?_⟩
  have := h g hmem
  simp only [Function.comp, Grant.cited, hn, if_true]
  omega

/-- A record with no more own cells, no more granted packets and no smaller reservation. -/
structure Episode.Eases (x y : Episode) : Prop where
  slot : y.slot = x.slot
  key : y.key = x.key
  heldOwn : y.heldOwn ≤ x.heldOwn
  granted : y.granted ≤ x.granted
  reservation : x.reservation ≤ y.reservation
  live : (∀ r ∈ x.roster, r.Live) → ∀ r ∈ y.roster, r.Live

theorem Episode.Eases.refl (x : Episode) : x.Eases x := ⟨rfl, rfl, le_rfl, le_rfl, le_rfl, id⟩

theorem Episode.Eases.trans {x y z : Episode} (h : x.Eases y) (k : y.Eases z) : x.Eases z where
  slot := k.slot.trans h.slot
  key := k.key.trans h.key
  heldOwn := k.heldOwn.trans h.heldOwn
  granted := k.granted.trans h.granted
  reservation := h.reservation.trans k.reservation
  live := k.live ∘ h.live

/-- A rewriting of fields other than those of the reservation. -/
theorem Episode.eases_of_eq {x y : Episode} (hslot : y.slot = x.slot) (hkey : y.key = x.key) (hown : y.heldOwn = x.heldOwn)
    (hroster : y.roster = x.roster) (hr : y.reservation = x.reservation) : x.Eases y :=
  ⟨hslot, hkey, hown.le, by unfold Episode.granted; rw [hroster], hr.ge, by rw [hroster]; exact id⟩

/-- Every responder eased. -/
theorem Episode.eases_mapRoster (x : Episode) {f : Responder → Responder} (hf : ∀ r : Responder, r.Eases (f r)) :
    x.Eases { x with roster := x.roster.map f } where
  slot := rfl
  key := rfl
  heldOwn := le_rfl
  granted := by
    simp only [Episode.granted, List.map_map]
    exact List.sum_le_sum (fun r _ => (hf r).remaining)
  reservation := le_rfl
  live h r hr := by
    obtain ⟨y, hy, rfl⟩ := List.mem_map.1 hr
    exact (hf y).live (h y hy)

theorem Episode.updResponder_eases (x : Episode) (src : Endpoint) {f : Responder → Responder}
    (hf : ∀ r : Responder, r.Eases (f r)) :
    x.Eases (x.updResponder src f) := by
  refine x.eases_mapRoster (fun r => ?_)
  split
  · exact hf r
  · exact Responder.Eases.refl r

/-- A sum over a list of which one place was rewritten, that figure rising by at most n. -/
theorem sum_modify_le {α : Type} (l : List α) (i n : Nat) (f : α → α) (g : α → Nat) (h : ∀ x, g (f x) ≤ g x + n) :
    ((l.modify i f).map g).sum ≤ (l.map g).sum + n := by
  induction l generalizing i with
  | nil => simp
  | cons x l ih =>
    cases i with
    | zero =>
      have := h x
      simp only [List.modify_zero_cons, List.map_cons, List.sum_cons]
      omega
    | succ i =>
      have := ih i
      simp only [List.modify_succ_cons, List.map_cons, List.sum_cons]
      omega

theorem Episode.eases_modifyRoster (x : Episode) (position : Nat) {f : Responder → Responder}
    (hf : ∀ r : Responder, r.Eases (f r)) :
    x.Eases { x with roster := x.roster.modify position f } where
  slot := rfl
  key := rfl
  heldOwn := le_rfl
  granted := sum_modify_le _ _ 0 _ _ (fun r => (hf r).remaining)
  reservation := le_rfl
  live h r hr := by
    rcases mem_modify hr with hr | ⟨y, hy, rfl⟩
    · exact h r hr
    · exact (hf y).live (h y (List.mem_of_getElem? hy))

theorem Episode.unpace_eases (x : Episode) : x.Eases x.unpace := by
  unfold Episode.unpace
  split
  · refine x.eases_mapRoster (fun r => ?_)
    split
    · exact r.eases_of_nil (y := r.unpace) rfl
    · exact Responder.Eases.refl r
  · exact Episode.Eases.refl x

theorem Episode.withdrawAll_eases (x : Episode) : x.Eases x.withdrawAll :=
  x.eases_mapRoster (fun r => r.eases_of_nil (y := r.withdraw) rfl)

theorem Episode.uncharge_eases (x : Episode) (p : HeldPacket) : x.Eases (x.uncharge p) := by
  unfold Episode.uncharge
  split
  · exact ⟨rfl, rfl, Nat.sub_le _ _, le_rfl, le_rfl, id⟩
  · exact Episode.eases_of_eq rfl rfl rfl rfl rfl

theorem Episode.discard_eases (x : Episode) (p : HeldPacket) : x.Eases (x.discard p) :=
  (x.uncharge_eases p).trans (Episode.eases_of_eq rfl rfl rfl rfl rfl)

theorem Episode.discardHeld_eases (x : Episode) : x.Eases x.discardHeld := by
  have hfold : ∀ (l : List HeldPacket) (y : Episode), x.Eases y → x.Eases (l.foldl Episode.discard y) := by
    intro l
    induction l with
    | nil => exact fun y h => h
    | cons p l ih => exact fun y h => ih _ (h.trans (y.discard_eases p))
  exact (hfold x.holdQueue x (Episode.Eases.refl x)).trans (Episode.eases_of_eq rfl rfl rfl rfl rfl)

theorem Episode.noteSender_eases (x : Episode) (a : Arrival) : x.Eases (x.noteSender a) := by
  unfold Episode.noteSender
  split
  · exact x.updResponder_eases _ (fun _ => Responder.eases_of_grants rfl)
  · exact Episode.eases_of_eq rfl rfl rfl rfl rfl

theorem Episode.grantTick_eases (x : Episode) : x.Eases x.grantTick := x.eases_mapRoster (fun r => r.tick_eases)

/-- A responder entered without grants. -/
theorem Episode.enter_eases (x : Episode) {r : Responder} (hr : r.grants = []) :
    x.Eases { x with roster := x.roster ++ [r] } where
  slot := rfl
  key := rfl
  heldOwn := le_rfl
  granted := by simp [Episode.granted, Responder.remaining, hr]
  reservation := le_rfl
  live h y hy := by
    rcases List.mem_append.1 hy with hy | hy
    · exact h y hy
    · rw [List.mem_singleton.1 hy]
      unfold Responder.Live
      rw [hr]
      exact fun g hg => absurd hg List.not_mem_nil

/-! ### Easing a state -/

/-- Every record is eased, no policy and no role is written, and no port becomes DISABLED. -/
structure State.Eases (s t : State) : Prop where
  records : ∃ f : Episode → Episode, t.table.episodes = s.table.episodes.map f ∧ ∀ e ∈ s.table.episodes, e.Eases (f e)
  setup : setupOf t.ports = setupOf s.ports
  enabled : ∀ p, (t.port p).state = .disabled → (s.port p).state = .disabled

/-- A port record rewritten, with its policy and role, and not to DISABLED. -/
def Port.Stays (f : Port → Port) : Prop :=
  ∀ x, (f x).policy = x.policy ∧ (f x).role = x.role ∧ ((f x).state = .disabled → x.state = .disabled)

namespace State.Eases

variable {s t u : State}

theorem refl (s : State) : s.Eases s :=
  ⟨⟨id, by rw [List.map_id], fun e _ => Episode.Eases.refl e⟩, rfl, fun _ => id⟩

theorem trans (h : s.Eases t) (k : t.Eases u) : s.Eases u := by
  obtain ⟨f, hf, hfe⟩ := h.records
  obtain ⟨g, hg, hge⟩ := k.records
  refine ⟨⟨g ∘ f, by rw [hg, hf, List.map_map], fun e he => ?_⟩, k.setup.trans h.setup, fun p => h.enabled p ∘ k.enabled p⟩
  exact (hfe e he).trans (hge _ (hf ▸ List.mem_map_of_mem he))

/-- A change of neither the records nor the ports. -/
theorem frame (h : u.Eases s) (he : t.table.episodes = s.table.episodes) (hp : t.ports = s.ports) : u.Eases t :=
  h.trans ⟨⟨id, by rw [he, List.map_id], fun e _ => Episode.Eases.refl e⟩, by rw [hp], fun p => by
    unfold State.port; rw [hp]; exact id⟩

theorem updAll (h : u.Eases s) {f : Episode → Episode} (hf : ∀ x : Episode, x.Eases (f x)) : u.Eases (s.updAll f) :=
  h.trans ⟨⟨f, rfl, fun e _ => hf e⟩, rfl, fun _ => id⟩

theorem updEp (h : u.Eases s) (slot : Nat) {f : Episode → Episode} (hf : ∀ x : Episode, x.Eases (f x)) :
    u.Eases (s.updEp slot f) := by
  refine h.updAll (f := fun x => if x.slot == slot then f x else x) (fun x => ?_)
  split
  · exact hf x
  · exact Episode.Eases.refl x

theorem updPort (h : u.Eases s) (p : Nat) {f : Port → Port} (hf : Port.Stays f) : u.Eases (s.updPort p f) := by
  refine h.trans ⟨⟨id, by rw [List.map_id]; rfl, fun e _ => Episode.Eases.refl e⟩,
    updPort_setup s p f (fun x => ⟨(hf x).1, (hf x).2.1⟩), fun q hq => ?_⟩
  rw [port_updPort] at hq
  split at hq
  · exact (hf _).2.2 hq
  · exact hq

theorem updMembers (h : u.Eases s) (g : Nat) {f : Port → Port} (hf : Port.Stays f) : u.Eases (s.updMembers g f) :=
  foldl_inv (fun t => u.Eases t) _ (fun _ m h => h.updPort m hf) _ _ h

/-- The record of a slot is one that was eased. -/
theorem ep? (h : s.Eases t) {slot : Nat} {e : Episode} (he : s.ep? slot = some e) : ∃ x, t.ep? slot = some x ∧ e.Eases x := by
  obtain ⟨f, hf, hfe⟩ := h.records
  refine ⟨f e, ?_, hfe e (ep?_some he).1⟩
  unfold State.ep? at he ⊢
  rw [hf]
  generalize s.table.episodes = l at he hfe
  induction l with
  | nil => cases he
  | cons x l ih =>
    have hslot := (hfe x List.mem_cons_self).slot
    rw [List.find?_cons] at he
    rw [List.map_cons, List.find?_cons, hslot]
    split
    · rename_i hx
      rw [hx] at he
      cases he
      rfl
    · rename_i hx
      rw [hx] at he
      exact ih he (fun e he => hfe e (List.mem_cons_of_mem _ he))

/-! ### UNPACE, stand-down and counts -/

theorem raisePortState (h : u.Eases s) (g : Nat) (cause : PortCause) : u.Eases (s.raisePortState g cause) :=
  h.frame (by simp) (by simp)

theorem handStop (h : u.Eases s) (g : Nat) : u.Eases (s.handStop g) := by
  unfold State.handStop
  split
  · exact foldl_inv (fun t => u.Eases t) _ (fun _ m h => h.frame (by simp) (by simp)) _ _ h
  · exact h.updMembers g (fun _ => ⟨rfl, rfl, id⟩)

theorem unpaceEpisode (h : u.Eases s) (slot : Nat) : u.Eases (s.unpaceEpisode slot) := by
  unfold State.unpaceEpisode
  split
  · exact h
  · exact (h.updEp slot Episode.unpace_eases).frame rfl rfl

theorem unpaceGroup (h : u.Eases s) (g : Nat) : u.Eases (s.unpaceGroup g) :=
  foldl_inv (fun t => u.Eases t) _ (fun _ slot h => h.unpaceEpisode slot) _ _ h

theorem enterDrainOut (h : u.Eases s) (g : Nat) (cause : DrainCause) : u.Eases (s.enterDrainOut g cause) := by
  refine (((h.updPort g ?_).updMembers g ?_).handStop g).unpaceGroup g
  · exact fun _ => ⟨rfl, rfl, nofun⟩
  · exact fun _ => ⟨rfl, rfl, id⟩

theorem standDown (h : u.Eases s) (g : Nat) : u.Eases (s.standDown g) := by
  unfold State.standDown
  split
  · exact (h.enterDrainOut g .standDown).frame (by simp) (by simp)
  · exact h

theorem reached (h : u.Eases s) (g : Nat) (type : EvType) (n : Nat) : u.Eases (s.reached g type n) := by
  have hmarked : ∀ t : State, t.table.episodes = s.table.episodes → t.ports = s.ports →
      u.Eases (if protects (t.policy g).protect type then t.standDown g else t) := by
    intro t he hp
    split
    · exact (h.frame he hp).standDown g
    · exact h.frame he hp
  unfold State.reached
  dsimp only
  split
  · exact hmarked _ (by simp) (by simp)
  · exact hmarked _ (by simp) (by simp)

theorem count (h : u.Eases s) (g : Nat) (type : EvType) : u.Eases (s.count g type) := by
  unfold State.count
  dsimp only
  split
  · exact (h.frame (by simp) (by simp)).reached g type _
  · exact h.frame (by simp) (by simp)

/-! ### Closing, completing, tearing down -/

theorem closeEpisode (h : u.Eases s) (slot : Nat) : u.Eases (s.closeEpisode slot) := by
  unfold State.closeEpisode
  split
  · exact h
  · rename_i e _
    exact (h.updEp slot (f := fun x => { x with linger := some ⟨(s.policy e.key.group).linger, false⟩ })
      (fun _ => Episode.eases_of_eq rfl rfl rfl rfl rfl)).frame (by simp) (by simp)

theorem closeIfEmpty (h : u.Eases s) (slot : Nat) : u.Eases (s.closeIfEmpty slot) := by
  unfold State.closeIfEmpty
  split
  · exact h
  · split
    · exact h.closeEpisode slot
    · exact h

theorem afterEmptying (h : u.Eases s) (slot : Nat) : u.Eases (s.afterEmptying slot) := by
  unfold State.afterEmptying
  split
  · exact h
  · split
    · refine (h.updEp slot ?_).closeIfEmpty slot
      exact fun _ => Episode.eases_of_eq rfl rfl rfl rfl rfl
    · exact h.closeIfEmpty slot

theorem testCompletion (h : u.Eases s) (slot : Nat) : u.Eases (s.testCompletion slot) := by
  unfold State.testCompletion
  split
  · exact h
  · split
    · refine (h.updEp slot ?_).afterEmptying slot
      exact fun x => x.withdrawAll_eases.trans (Episode.eases_of_eq rfl rfl rfl rfl rfl)
    · exact h

theorem teardown (h : u.Eases s) (slot : Nat) (discards : Bool) : u.Eases (s.teardown slot discards) := by
  have hw := (h.unpaceEpisode slot).updEp slot Episode.withdrawAll_eases
  unfold State.teardown
  dsimp only
  split
  · exact hw.updEp slot Episode.discardHeld_eases
  · exact hw

theorem abortEpisode (h : u.Eases s) (slot : Nat) : u.Eases (s.abortEpisode slot) := by
  refine ((h.updEp slot ?_).teardown slot true).closeIfEmpty slot
  exact fun _ => Episode.eases_of_eq rfl rfl rfl rfl rfl

/-! ### Arriving packets -/

theorem trim (h : u.Eases s) (slot : Nat) (a : Arrival) (listed : Bool) : u.Eases (s.trim slot a listed) := by
  unfold State.trim
  split
  · exact h
  · rename_i e _
    have ht : u.Eases (s.updEp slot (fun x => { x with trimmed := x.trimmed.add a.desc.length })).resumeCheck :=
      (h.updEp slot (f := fun x => { x with trimmed := x.trimmed.add a.desc.length })
        (fun _ => Episode.eases_of_eq rfl rfl rfl rfl rfl)).frame (by simp) (by simp)
    dsimp only
    split
    · exact (ht.count e.key.group .trim).frame (by simp) (by simp)
    · exact ht.frame (by simp) (by simp)

/-- What is borrowed or trimmed takes nothing of the reservation (R49). -/
theorem borrowOrTrim (h : u.Eases s) (slot : Nat) (a : Arrival) (listed : Bool) : u.Eases (s.borrowOrTrim slot a listed) := by
  unfold State.borrowOrTrim
  split
  · exact h
  · dsimp only
    split
    · exact (h.updEp slot (f := fun x => { x with borrowed := x.borrowed + cellsOf a.desc.length })
        (fun _ => Episode.eases_of_eq rfl rfl rfl rfl rfl)).frame (by simp) (by simp)
    · exact h.trim slot a listed

theorem enterArrival (h : u.Eases s) (slot : Nat) (a : Arrival) : u.Eases (s.enter slot a) := by
  unfold State.enter
  split
  · exact h
  · rename_i e _
    split
    · exact h
    · split
      · dsimp only
        cases e.origin with
        | adopted => exact h.updEp slot (fun x => x.enter_eases rfl)
        | sighted =>
          split
          · have hin := h.updEp slot (fun x => x.enter_eases (r := newResponder a.desc.src (s.policy e.key.group).allowance) rfl)
            have hunpaced := hin.updEp slot (fun x =>
              x.updResponder_eases a.desc.src (fun r => r.eases_of_nil (y := r.unpace) rfl))
            exact hunpaced.frame rfl rfl
          · exact h.updEp slot (fun x => x.enter_eases rfl)
      · exact h

theorem noteArrival (h : u.Eases s) (slot : Nat) (a : Arrival) :
    u.Eases (s.updEp slot (fun x => { x.noteSender a with arrived := x.arrived.add a.desc.length })) :=
  h.updEp slot (fun x => (x.noteSender_eases a).trans (Episode.eases_of_eq rfl rfl rfl rfl rfl))

theorem applyLast (h : u.Eases s) (slot : Nat) (a : Arrival) (r : Responder) : u.Eases (s.applyLast slot a r) := by
  unfold State.applyLast
  split
  · exact h.updEp slot (fun x => (x.updResponder_eases r.endpoint (fun y => y.eases_of_nil (y := y.finish .finished) rfl)).trans
      (Episode.eases_of_eq rfl rfl rfl rfl rfl))
  · exact h

theorem arriveAdopted (h : u.Eases s) (slot : Nat) (a : Arrival) : u.Eases (s.arriveAdopted slot a) := by
  refine ((h.enterArrival slot a).updEp slot ?_).borrowOrTrim slot a _
  exact fun x => (x.noteSender_eases a).trans (Episode.eases_of_eq rfl rfl rfl rfl rfl)

theorem arriveDraining (h : u.Eases s) (slot : Nat) (a : Arrival) : u.Eases (s.arriveDraining slot a) :=
  ((h.count a.group .late).noteArrival slot a).borrowOrTrim slot a _

theorem portFault (h : u.Eases s) (a : Arrival) : u.Eases (s.portFault a) := by
  have hraised : ∀ t : State, u.Eases t → u.Eases (((t.updMembers a.group (fun p => { p with stoppedSeen := false })).handStop
      a.group).raisePortState a.group .fault) := by
    intro t ht
    refine ((ht.updMembers a.group ?_).handStop a.group).raisePortState a.group .fault
    exact fun _ => ⟨rfl, rfl, id⟩
  have hpassed : u.Eases (s.passThrough a) := h.frame rfl rfl
  unfold State.portFault
  dsimp only
  split
  · refine hraised _ (hpassed.updPort a.group ?_)
    exact fun _ => ⟨rfl, rfl, nofun⟩
  · refine (hraised _ (hpassed.updPort a.group ?_)).unpaceGroup a.group
    exact fun _ => ⟨rfl, rfl, nofun⟩

/-! ### Grants withdrawn and expiries -/

theorem retire (h : u.Eases s) (slot position : Nat) (e : Episode) : u.Eases (s.retire slot position e) := by
  refine (((h.updEp slot ?_).count e.key.group .retire).updEp slot ?_).testCompletion slot
  · exact fun x => x.eases_modifyRoster position (fun r => r.eases_of_nil (y := r.finish .retired) rfl)
  · exact fun _ => Episode.eases_of_eq rfl rfl rfl rfl rfl

theorem expireGrant (h : u.Eases s) (slot position number : Nat) : u.Eases (s.expireGrant slot position number) := by
  have hstruck : u.Eases (s.updEp slot (fun x => { x with roster := x.roster.modify position (fun r => r.strike number) })) :=
    h.updEp slot (fun x => x.eases_modifyRoster position (fun r => r.strike_eases number))
  unfold State.expireGrant
  split
  · exact h
  · split
    · exact h
    · split
      · dsimp only
        split
        · exact hstruck.retire slot position _
        · exact hstruck
      · exact h

theorem unpaceExpiry (h : u.Eases s) (g : Nat) : u.Eases (s.unpaceExpiry g) := by
  unfold State.unpaceExpiry
  split
  · exact h.unpaceGroup g
  · exact h

theorem expireDeadline (h : u.Eases s) (slot : Nat) (e : Episode) : u.Eases (s.expireDeadline slot e) := by
  have htold : ∀ t action, u.Eases t → u.Eases ((t.count e.key.group .expire).raiseExpired slot e action) :=
    fun t action ht => (ht.count e.key.group .expire).frame (by simp) (by simp)
  have htorn : ∀ f discards, (∀ x : Episode, x.Eases (f x)) →
      u.Eases (((s.updEp slot f).unpaceExpiry e.key.group).teardown slot discards) :=
    fun f discards hf => ((h.updEp slot hf).unpaceExpiry e.key.group).teardown slot discards
  unfold State.expireDeadline
  split
  · refine htold _ none ((h.updEp slot ?_).closeIfEmpty slot)
    exact fun _ => Episode.eases_of_eq rfl rfl rfl rfl rfl
  · split
    · refine htold _ (some .drain) ((htorn _ false ?_).afterEmptying slot)
      exact fun _ => Episode.eases_of_eq rfl rfl rfl rfl rfl
    · refine htold _ (some .discard) ((htorn _ true ?_).closeIfEmpty slot)
      exact fun _ => Episode.eases_of_eq rfl rfl rfl rfl rfl
  · exact h
  · exact h

theorem takeDeadline (h : u.Eases s) (slot : Nat) : u.Eases (s.takeDeadline slot) := by
  unfold State.takeDeadline
  split
  · exact h
  · split
    · exact h
    · split
      · split
        · exact h.expireDeadline slot _
        · exact h.updEp slot (fun _ => Episode.eases_of_eq rfl rfl rfl rfl rfl)
      · exact h

theorem takeIdle (h : u.Eases s) (slot : Nat) : u.Eases (s.takeIdle slot) := by
  unfold State.takeIdle
  split
  · exact h
  · split
    · refine (h.updEp slot ?_).afterEmptying slot
      exact fun _ => Episode.eases_of_eq rfl rfl rfl rfl rfl
    · exact h

theorem pacerTick (h : u.Eases s) : u.Eases s.pacerTick := by
  have hpaced : ∀ time, u.Eases ({ s with time := time } : State).pacersTick := fun time => h.frame (by simp) (by simp)
  have hgranted : ∀ (p : Prop) [Decidable p] time,
      u.Eases (if p then ({ s with time := time } : State).pacersTick.updAll Episode.grantTick
        else ({ s with time := time } : State).pacersTick) := by
    intro p _ time
    split
    · exact (hpaced time).updAll Episode.grantTick_eases
    · exact hpaced time
  unfold State.pacerTick
  dsimp only
  split
  · exact h
  · split
    · refine (hgranted _ _).updAll ?_
      exact fun _ => Episode.eases_of_eq rfl rfl rfl rfl rfl
    · exact hgranted _ _

/-! ### The store -/

theorem beginRelease (h : u.Eases s) (g : Nat) : u.Eases (s.beginRelease g) := by
  unfold State.beginRelease
  split
  · exact h
  · rename_i e _
    split
    · exact h
    · have hbegun : u.Eases (s.updEp e.slot (fun x => { x with holdQueue := x.holdQueue.drop 1, inFlight := true })) :=
        h.updEp e.slot (fun _ => Episode.eases_of_eq rfl rfl rfl rfl rfl)
      exact hbegun.frame (by simp) (by simp)

theorem beginReleases (h : u.Eases s) : u.Eases s.beginReleases :=
  foldl_inv (fun t => u.Eases t) _ (fun _ g h => h.beginRelease g) _ _ h

theorem finishWrite (h : u.Eases s) : u.Eases s.finishWrite := by
  have hr : u.Eases ({ s with store := { s.store with transfer := .none } } : State).resumeCheck :=
    h.frame (by simp) (by simp)
  unfold State.finishWrite
  split
  · exact h
  · exact h
  · exact h
  · dsimp only
    split
    · exact hr
    · split
      · exact hr.updEp _ (fun _ => Episode.eases_of_eq rfl rfl rfl rfl rfl)
      · refine (hr.updEp _ ?_).closeIfEmpty _
        exact fun x => x.discard_eases _

theorem suspend (h : u.Eases s) (port : Nat) : u.Eases (s.suspend port) := by
  unfold State.suspend
  dsimp only
  split
  · exact h
  · refine (h.updPort (s.groupOf port) ?_).raisePortState _ _
    exact fun _ => ⟨rfl, rfl, id⟩

theorem finishRelease (h : u.Eases s) (g : Nat) (p : HeldPacket) (uncorrectable : Bool) :
    u.Eases (s.finishRelease g p uncorrectable) := by
  have hended : u.Eases ({ s.setRelease g none with store := { (s.setRelease g none).store with transfer := .none } } : State) :=
    h.frame rfl rfl
  unfold State.finishRelease
  dsimp only
  split
  · split
    · exact hended.suspend g
    · exact hended
  · rename_i e _
    refine State.Eases.afterEmptying ?_ e.slot
    have hread := hended.updEp e.slot (f := fun x => { x with inFlight := false })
      (fun _ => Episode.eases_of_eq rfl rfl rfl rfl rfl)
    split
    · refine (hread.updEp e.slot ?_).suspend g
      exact fun x => (x.discard_eases p).trans (Episode.eases_of_eq rfl rfl rfl rfl rfl)
    · split
      · refine (hread.updEp e.slot (f := fun x => { x.uncharge p with released := x.released.add p.length }) ?_).frame rfl rfl
        exact fun x => (x.uncharge_eases p).trans (Episode.eases_of_eq rfl rfl rfl rfl rfl)
      · exact hread.updEp e.slot (fun x => x.discard_eases p)

theorem finishRead (h : u.Eases s) (corrected : Nat) (uncorrectable : Bool) :
    u.Eases (s.finishRead corrected uncorrectable) := by
  unfold State.finishRead
  split
  · exact h
  · exact h
  · exact h
  · rename_i g _
    split
    · exact h.frame rfl rfl
    · exact State.Eases.finishRelease (s := s.noteCorrected corrected) (h.frame rfl rfl) g _ _

/-! ### The link and its words -/

theorem portLoss (h : u.Eases s) (g : Nat) : u.Eases (s.portLoss g) := by
  unfold State.portLoss
  split
  · refine (h.updPort g ?_).updMembers g ?_
    · exact fun _ => ⟨rfl, rfl, nofun⟩
    · exact fun _ => ⟨rfl, rfl, id⟩
  · exact h.updMembers g (fun _ => ⟨rfl, rfl, id⟩)
  · exact h.updMembers g (fun _ => ⟨rfl, rfl, id⟩)
  · exact h.updMembers g (fun _ => ⟨rfl, rfl, id⟩)
  · exact h

theorem loseLink (h : u.Eases s) (cause : LinkCause) : u.Eases (s.loseLink cause) := by
  unfold State.loseLink
  exact foldl_inv (fun t => u.Eases t) _ (fun _ g h => h.portLoss g) _ _ (h.frame (by simp) (by simp))

theorem framingError (h : u.Eases s) (lane : Nat) : u.Eases (s.framingError lane) := by
  unfold State.framingError
  dsimp only
  split
  · exact h
  · exact h.frame (by simp) (by simp)
  · exact h.frame (by split <;> simp) (by split <;> simp)
  · exact h.frame (by split <;> simp) (by split <;> simp)
  · split
    · exact h.loseLink .framing
    · exact h.frame (by simp) (by simp)

theorem strayMarker (h : u.Eases s) (g : Nat) : u.Eases (s.strayMarker g) := h.updPort g (fun _ => ⟨rfl, rfl, id⟩)

theorem started (h : u.Eases s) (member : Nat) : u.Eases (s.started member) := by
  unfold State.started
  dsimp only
  split
  · have hseen : u.Eases (s.updPort member (fun p => { p with startedSeen := true })) :=
      h.updPort member (fun _ => ⟨rfl, rfl, id⟩)
    split
    · refine (hseen.updPort (s.groupOf member) ?_).raisePortState _ _
      exact fun _ => ⟨rfl, rfl, nofun⟩
    · exact hseen
  · exact h.strayMarker _

theorem stopped (h : u.Eases s) (member : Nat) : u.Eases (s.stopped member) := by
  unfold State.stopped
  dsimp only
  split
  · exact h.updPort member (fun _ => ⟨rfl, rfl, id⟩)
  · exact h.strayMarker _

theorem markerWord (h : u.Eases s) (port : Nat) {taken : State → Nat → State}
    (ht : ∀ t : State, u.Eases t → u.Eases (taken t port)) : u.Eases (s.markerWord port taken) := by
  have hb : u.Eases (s.breakOpen false) := h.frame (by simp) (by simp)
  unfold State.markerWord
  dsimp only
  split
  · exact hb.frame rfl rfl
  · exact ht _ hb

/-! ### The commands of the host -/

theorem enable (h : u.Eases s) (g : Nat) : u.Eases (s.enable g) := by
  have hstarting : u.Eases ((s.updPort g (fun x => { x with
      state := .starting, clearing := .none, fault := if x.state == .faulted then none else x.fault,
      drainCause := none, strayMarkers := 0 })).updMembers g (fun x => { x with startedSeen := false })) := by
    refine (h.updPort g ?_).updMembers g ?_
    · exact fun _ => ⟨rfl, rfl, nofun⟩
    · exact fun _ => ⟨rfl, rfl, id⟩
  exact hstarting.frame (by simp) (by simp [State.enable])

theorem drainFaulted (h : u.Eases s) (g : Nat) (cause : DrainCause) : u.Eases (s.drainFaulted g cause) :=
  h.updPort g (fun _ => ⟨rfl, rfl, nofun⟩)

theorem abortGroup (h : u.Eases s) (g : Nat) : u.Eases (s.abortGroup g) :=
  foldl_inv (fun t => u.Eases t) _ (fun _ slot h => h.abortEpisode slot) _ _ h

theorem disablePortEffect (h : u.Eases s) {body : List Byte} {b : ReplyBody} (ht : disablePortEffect body s = .ok t b) :
    u.Eases t := by
  have ha := h.abortGroup (portAt body 0)
  unfold Machine.disablePortEffect at ht
  split at ht
  · unfold disableFlushEffect at ht
    dsimp only at ht
    (repeat' split at ht) <;> cases ht
    · exact ha.enterDrainOut _ .flush
    · exact ha.enterDrainOut _ .flush
    · exact ha.updPort _ (fun _ => ⟨rfl, rfl, id⟩)
    · exact ha.drainFaulted _ .flush
  · unfold disableDrainEffect at ht
    dsimp only at ht
    (repeat' split at ht) <;> cases ht
    · exact h.enterDrainOut _ .host
    · exact h.enterDrainOut _ .host
    · exact h.drainFaulted _ .host

/-- The effect of every command of the host but SET_PORT. -/
theorem performed (h : u.Eases s) {f : Frame} {b : ReplyBody} (ht : performed f s = .ok t b)
    (hset : ∀ body, setPortEffect body s ≠ .ok t b) : u.Eases t := by
  unfold Machine.performed at ht
  split at ht
  · rw [identifyEffect_keeps ht]; exact h
  · cases ht
  · exact absurd ht (hset _)
  · unfold enablePortEffect at ht
    dsimp only at ht
    (repeat' split at ht) <;> cases ht
    exact h.enable _
  · exact h.disablePortEffect ht
  · unfold resumePortEffect at ht
    dsimp only at ht
    (repeat' split at ht) <;> cases ht
    exact h.updPort _ (fun _ => ⟨rfl, rfl, id⟩)
  · unfold portStatusEffect at ht
    dsimp only at ht
    (repeat' split at ht) <;> cases ht
    exact h.updPort _ (fun x => by split <;> exact ⟨rfl, rfl, id⟩)
  · exact h.frame (by simp [setRateEffect_keeps ht]) (by simp [setRateEffect_keeps ht])
  · exact h.frame (by simp [commitRateEffect_keeps ht]) (by simp [commitRateEffect_keeps ht])
  · rw [rateStatusEffect_keeps ht]; exact h
  · rw [listEpisodesEffect_keeps ht]; exact h
  · rw [episodeStatusEffect_keeps ht]; exact h
  · unfold haltEffect at ht
    (repeat' split at ht) <;> cases ht
    exact h.updEp _ (fun _ => Episode.eases_of_eq rfl rfl rfl rfl rfl)
  · unfold haltEffect at ht
    (repeat' split at ht) <;> cases ht
    exact h.updEp _ (fun _ => Episode.eases_of_eq rfl rfl rfl rfl rfl)
  · unfold abortEffect at ht
    (repeat' split at ht) <;> cases ht
    exact h.abortEpisode _
  · unfold extendEffect at ht
    dsimp only at ht
    (repeat' split at ht) <;> cases ht
    exact h.updEp _ (fun _ => Episode.eases_of_eq rfl rfl rfl rfl rfl)
  · unfold addReservationEffect at ht
    dsimp only at ht
    (repeat' split at ht) <;> cases ht
    exact h.updEp _ (fun _ => ⟨rfl, rfl, le_rfl, le_rfl, Nat.le_add_right _ _, id⟩)
  · unfold captureEffect at ht; split at ht <;> cases ht
  · rw [readCountersEffect_keeps ht]; exact h
  · exact h.frame (by simp [clearCountersEffect_keeps ht]) (by simp [clearCountersEffect_keeps ht])
  · exact h.frame (by simp [setThresholdEffect_keeps ht]) (by simp [setThresholdEffect_keeps ht])
  · rw [storeStatusEffect_keeps ht]; exact h
  · exact h.frame (by simp [setPoolEffect_keeps ht]) (by simp [setPoolEffect_keeps ht])
  · exact h.frame (by simp [linkStatusEffect_keeps ht]) (by simp [linkStatusEffect_keeps ht])
  · unfold setLinkParamsEffect at ht
    (repeat' split at ht) <;> cases ht
    exact h.frame (by simp) (by simp)
  · unfold relinkEffect at ht
    cases ht
    split
    · exact h.loseLink .relink
    · exact h.frame (by simp) (by simp)
  · cases ht

end State.Eases

/-! ### The law of a record -/

/-- The record of a slot that was written. -/
theorem ep?_updEp {s : State} {slot : Nat} {e : Episode} {f : Episode → Episode} (he : s.ep? slot = some e)
    (hslot : ∀ x, (f x).slot = x.slot) : (s.updEp slot f).ep? slot = some (f e) := by
  have hsame : ((fun x : Episode => x.slot == slot) ∘ fun x => if x.slot = slot then f x else x) = fun x => x.slot == slot := by
    funext x
    simp only [Function.comp]
    split <;> simp [hslot]
  rw [updEp_eq]
  unfold State.ep? at he ⊢
  rw [List.find?_map, hsame, he, Option.map_some, if_pos (ep?_some he).2]

/-- What the law of the reservations says of one record. -/
structure State.Reserves (s : State) (e : Episode) : Prop where
  within : e.heldOwn + s.k e.key.group * e.granted ≤ e.reservation
  live : ∀ r ∈ e.roster, r.Live
  enabled : (s.port e.key.group).state ≠ .disabled
  notOdd : (s.port e.key.group).role ≠ .pairOdd

/-- `State.ReservationLaw`, clause by clause. -/
structure State.Reserved (s : State) : Prop where
  distinct : s.SlotsDistinct
  bonds : ∀ p, (s.policy p).bond = .pair → (s.port (p + 1)).role = .pairOdd
  odd : ∀ p, (s.port p).role = .pairOdd → p % 2 = 1
  records : ∀ e ∈ s.table.episodes, s.Reserves e

theorem reservationLaw_iff {s : State} : s.ReservationLaw ↔ s.Reserved := by
  constructor
  · rintro ⟨hd, hb, ho, hr⟩
    refine ⟨hd, hb, ho, fun e he => ?_⟩
    obtain ⟨hwithin, hlive, henabled, hrole⟩ := hr e he
    exact ⟨hwithin, hlive, henabled, hrole⟩
  · exact fun h => ⟨h.distinct, h.bonds, h.odd, fun e he =>
      ⟨(h.records e he).within, (h.records e he).live, (h.records e he).enabled, (h.records e he).notOdd⟩⟩

/-- The record's law reads the port of its group alone. -/
theorem State.Reserves.of_port {s t : State} {e : Episode} (h : s.Reserves e) (hp : t.port e.key.group = s.port e.key.group) :
    t.Reserves e := by
  refine ⟨?_, h.live, hp ▸ h.enabled, hp ▸ h.notOdd⟩
  have hk : t.k e.key.group = s.k e.key.group := by unfold State.k State.policy; rw [hp]
  rw [hk]
  exact h.within

/-- An eased record stays within its reservation. -/
theorem State.Reserves.eases {s t : State} {x y : Episode} (h : s.Reserves x) (hst : s.Eases t) (hxy : x.Eases y) :
    t.Reserves y := by
  have hk : t.k x.key.group = s.k x.key.group := by unfold State.k; rw [policy_of_setup hst.setup]
  have hgranted := Nat.mul_le_mul_left (s.k x.key.group) hxy.granted
  have hwithin := h.within
  have hown := hxy.heldOwn
  have hreservation := hxy.reservation
  refine ⟨?_, hxy.live h.live, ?_, ?_⟩
  · rw [hxy.key, hk]
    omega
  · rw [hxy.key]
    exact fun hd => h.enabled (hst.enabled _ hd)
  · rw [hxy.key, role_of_setup hst.setup]
    exact h.notOdd

/-- A decision's candidate is of a record of the drain group and passes the reservation check (R61, R62). -/
theorem decision?_passes {s : State} {g : Nat} {c : Candidate} (h : s.decision? g = some c) :
    ∃ e ∈ s.table.episodes, e.slot = c.slot ∧ e.key.group = g ∧ 1 ≤ c.size ∧
      e.heldOwn + s.k g * (e.granted + c.size) ≤ e.reservation := by
  unfold State.decision? at h
  split at h
  · obtain ⟨cls, -, hcls⟩ := List.exists_of_findSome?_eq_some h
    obtain ⟨e, he, hcand⟩ := List.exists_of_findSome?_eq_some hcls
    obtain ⟨⟨r, i⟩, -, hat⟩ := List.exists_of_findSome?_eq_some hcand
    rw [mem_ringAfter, List.mem_filter] at he
    obtain ⟨hmem, hgroup⟩ := List.mem_filter.1 he.1
    simp only [candidateAt] at hat
    split at hat
    · rename_i hc
      simp only [Bool.and_eq_true, decide_eq_true_eq, passesReservation] at hc
      cases hat
      exact ⟨e, hmem, rfl, by simpa using hgroup, hc.1.2, hc.2⟩
    · cases hat
  · cases h

/-- The port that a drain group is filed under is no pair's odd port (R125). -/
theorem State.Reserved.groupOf_role {s : State} (h : s.Reserved) (p : Nat) : (s.port (s.groupOf p)).role ≠ .pairOdd := by
  unfold State.groupOf
  split
  · rename_i hp
    intro hr
    have hodd := h.odd p (by simpa using hp)
    have hprev := h.odd _ hr
    omega
  · rename_i hp
    simpa using hp

/-- What SET_PORT does to the ports: it writes the record of a DISABLED port p, and that of its partner only where the partner is
DISABLED or the odd port of p's pair, which no episode is filed under (R124, R125). -/
structure State.PortSet (s t : State) (p : Nat) : Prop where
  disabled : (s.port p).state = .disabled
  notOdd : (s.port p).role ≠ .pairOdd
  notOddAfter : (t.port p).role ≠ .pairOdd
  bonded : (t.policy p).bond = .pair → (t.port (p + 1)).role = .pairOdd
  partner : t.port (p + 1) = s.port (p + 1) ∨
    ((s.port (p + 1)).state = .disabled ∨ (s.port (p + 1)).role = .pairOdd) ∧ (t.port (p + 1)).policy.bond = .none ∧
      ((t.port (p + 1)).role = .pairOdd → (p + 1) % 2 = 1)
  other : ∀ {q}, q ≠ p → q ≠ p + 1 → t.port q = s.port q

/-- A port that is bonded after SET_PORT of another was bonded before. -/
theorem State.PortSet.pair_of_ne {s t : State} {p q : Nat} (h : s.PortSet t p) (hq : q ≠ p) (hb : (t.policy q).bond = .pair) :
    (s.policy q).bond = .pair := by
  unfold State.policy at hb ⊢
  by_cases hn : q = p + 1
  · subst hn
    rcases h.partner with hsame | ⟨-, hnone, -⟩
    · exact hsame ▸ hb
    · cases hb.symm.trans hnone
  · exact h.other hq hn ▸ hb

/-- The odd port whose group is DISABLED is DISABLED, or is its pair's odd port (R124). -/
theorem partnerDisabled_port {s : State} {p : Nat} (h : s.partnerDisabled p = true) :
    (s.port (p + 1)).state = .disabled ∨ (s.port (p + 1)).role = .pairOdd := by
  unfold State.partnerDisabled State.groupOf at h
  split at h
  · rename_i hrole
    exact Or.inr (eq_of_beq hrole)
  · exact Or.inl (eq_of_beq h)

theorem setPortEffect_portSet {s t : State} {body : List Byte} {b : ReplyBody}
    (hbonds : ∀ p, (s.policy p).bond = .pair → (s.port (p + 1)).role = .pairOdd) (ht : setPortEffect body s = .ok t b) :
    ∃ p, s.PortSet t p := by
  obtain ⟨p, pol, hp, hrole, hdisabled, hbond, rfl⟩ := setPortEffect_ok ht
  have hown : (s.updPort p (fun x => { x with policy := pol })).port p = { s.port p with policy := pol } := by
    rw [port_updPort, if_pos ⟨rfl, hp⟩]
  have hother : ∀ q, q ≠ p → (s.updPort p (fun x => { x with policy := pol })).port q = s.port q := fun q hq => by
    rw [port_updPort, if_neg (fun h => hq h.1.symm)]
  have hnext := hother (p + 1) (by omega)
  refine ⟨p, ?_⟩
  unfold State.rebond
  split
  · rename_i hpair
    obtain ⟨heven, hpartner⟩ := hbond hpair
    have hq := formBond_port (s.updPort p (fun x => { x with policy := pol })) p
    have hself := hq p
    have hodd := hq (p + 1)
    rw [if_neg (by omega), if_pos ⟨rfl, hp⟩] at hself
    rw [if_pos ⟨rfl, by omega⟩] at hodd
    refine ⟨hdisabled, hrole, by rw [hself]; nofun, fun _ => by rw [hodd], Or.inr ⟨partnerDisabled_port hpartner, ?_, ?_⟩,
      fun {q} hqp hqn => ?_⟩
    · rw [hodd]; rfl
    · omega
    · rw [hq, if_neg (by omega), if_neg (by omega), hother q hqp]
  · rename_i hpair hnone
    have hq := dissolveBond_port (s.updPort p (fun x => { x with policy := pol })) p
    have hpartner := hbonds p hpair
    have hin : p + 1 < 48 := port_lt (Or.inr (by rw [hpartner]; decide))
    have hself := hq p
    have hodd := hq (p + 1)
    rw [if_neg (by omega), if_pos ⟨rfl, hp⟩] at hself
    rw [if_pos ⟨rfl, hin⟩] at hodd
    refine ⟨hdisabled, hrole, by rw [hself]; nofun, fun hb => ?_, Or.inr ⟨Or.inr hpartner, ?_, ?_⟩, fun {q} hqp hqn => ?_⟩
    · unfold State.policy at hb
      rw [hself, hown] at hb
      cases hnone.symm.trans hb
    · rw [hodd]; rfl
    · rw [hodd]; nofun
    · rw [hq, if_neg (by omega), if_neg (by omega), hother q hqp]
  · rename_i hnone
    refine ⟨hdisabled, hrole, by rw [hown]; exact hrole, fun hb => ?_, Or.inl hnext, fun {q} hqp _ => hother q hqp⟩
    unfold State.policy at hb
    rw [hown] at hb
    cases hnone.symm.trans hb
  · rename_i hpair _
    exact ⟨hdisabled, hrole, by rw [hown]; exact hrole, fun _ => hnext ▸ hbonds p hpair, Or.inl hnext,
      fun {q} hqp _ => hother q hqp⟩

namespace State.Reserved

variable {s t : State}

theorem eases (h : s.Reserved) (hst : s.Eases t) : t.Reserved := by
  obtain ⟨f, hf, hfe⟩ := hst.records
  refine ⟨slotsDistinct_of_map ?_ h.distinct, fun p hp => ?_, fun p hp => ?_, fun y hy => ?_⟩
  · rw [hf, List.map_map]
    exact List.map_congr_left (fun e he => (hfe e he).slot)
  · rw [policy_of_setup hst.setup] at hp
    rw [role_of_setup hst.setup]
    exact h.bonds p hp
  · rw [role_of_setup hst.setup] at hp
    exact h.odd p hp
  · rw [hf] at hy
    obtain ⟨x, hx, rfl⟩ := List.mem_map.1 hy
    exact (h.records x hx).eases hst (hfe x hx)

theorem frame (h : s.Reserved) (he : t.table.episodes = s.table.episodes) (hp : t.ports = s.ports) : t.Reserved :=
  h.eases ((Eases.refl s).frame he hp)

/-- Records are lost; the ports stay. -/
theorem sublist (h : s.Reserved) (he : t.table.episodes.Sublist s.table.episodes) (hp : t.ports = s.ports) : t.Reserved := by
  have hport : ∀ p, t.port p = s.port p := fun p => by unfold State.port; rw [hp]
  refine ⟨List.Nodup.sublist (he.map _) h.distinct, fun p hb => ?_, fun p hr => ?_, fun e hm => ?_⟩
  · rw [hport]
    exact h.bonds p (by unfold State.policy at hb ⊢; rwa [hport] at hb)
  · rw [hport] at hr
    exact h.odd p hr
  · exact (h.records e (he.subset hm)).of_port (hport _)

/-- The record of one slot is written, within its law. -/
theorem updEp (h : s.Reserved) {slot : Nat} {e : Episode} {f : Episode → Episode} (he : s.ep? slot = some e)
    (hslot : ∀ x, (f x).slot = x.slot) (hf : s.Reserves (f e)) : (s.updEp slot f).Reserved := by
  refine ⟨slotsDistinct_of_map ?_ h.distinct, h.bonds, h.odd, fun y hy => ?_⟩
  · rw [updEp_eq]
    simp only [List.map_map]
    exact List.map_congr_left (fun x _ => by simp only [Function.comp]; split <;> simp [hslot])
  · rw [updEp_eq] at hy
    obtain ⟨x, hx, rfl⟩ := List.mem_map.1 hy
    split
    · rename_i hxs
      rw [eq_of_slot h.distinct he hx hxs]
      exact hf.of_port rfl
    · exact (h.records x hx).of_port rfl

/-! ### Admission -/

/-- An own admission, within what the granted packets leave of the reservation (R42). -/
theorem holdOwn (h : s.Reserved) {slot : Nat} {e : Episode} {a : Arrival} (he : s.ep? slot = some e)
    (hfits : e.heldOwn + s.k e.key.group * e.granted + cellsOf a.desc.length ≤ e.reservation) : (s.holdOwn slot a).Reserved := by
  have hlaw := h.records e (ep?_some he).1
  have hheld : s.Reserves { e with heldOwn := e.heldOwn + cellsOf a.desc.length } := by
    refine ⟨?_, hlaw.live, hlaw.enabled, hlaw.notOdd⟩
    have hgranted : ({ e with heldOwn := e.heldOwn + cellsOf a.desc.length } : Episode).granted = e.granted := rfl
    rw [hgranted]
    dsimp only
    omega
  unfold State.holdOwn
  rw [he]
  exact (h.updEp (f := fun x => { x with heldOwn := x.heldOwn + cellsOf a.desc.length }) he (fun _ => rfl) hheld).frame rfl rfl

/-- A grant-cited packet's cells are those of the granted packet that it uses (R42, R45). -/
theorem holdCited (h : s.Reserved) {slot number timeout : Nat} {e : Episode} {r : Responder} {a : Arrival}
    (he : s.ep? slot = some e) (hg : e.key.group = a.group) (hr : r ∈ e.roster) (hmtu : a.desc.length ≤ (s.policy a.group).mtu)
    (hcited : r.grants.any (fun g => g.number == number) = true) :
    ((s.updEp slot (fun x => x.updResponder r.endpoint (fun y => y.useGrant number timeout))).holdOwn slot a).Reserved := by
  have hlaw := h.records e (ep?_some he).1
  have hused := fun x : Episode => x.updResponder_eases r.endpoint (fun y => y.useGrant_eases number timeout)
  have hs := (Eases.refl s).updEp slot hused
  have hlt : (e.updResponder r.endpoint (fun y => y.useGrant number timeout)).granted < e.granted := by
    unfold Episode.granted Episode.updResponder
    rw [List.map_map]
    refine List.sum_lt_sum _ _ (fun y _ => ?_) ⟨r, hr, ?_⟩
    · simp only [Function.comp]
      split
      · exact (y.useGrant_eases number timeout).remaining
      · exact le_rfl
    · simp only [Function.comp, beq_self_eq_true, if_true]
      exact Responder.useGrant_lt timeout (hlaw.live r hr) hcited
  have hfound : (s.updEp slot (fun x => x.updResponder r.endpoint (fun y => y.useGrant number timeout))).ep? slot =
      some (e.updResponder r.endpoint (fun y => y.useGrant number timeout)) := ep?_updEp he (fun _ => rfl)
  refine (h.eases hs).holdOwn hfound ?_
  have hwithin := hlaw.within
  have hcells : cellsOf a.desc.length ≤ s.k e.key.group := by
    rw [hg]
    exact Nat.div_le_div_right (Nat.add_le_add_right hmtu _)
  have hmul : s.k e.key.group * ((e.updResponder r.endpoint (fun y => y.useGrant number timeout)).granted + 1) ≤
      s.k e.key.group * e.granted := Nat.mul_le_mul_left _ hlt
  rw [Nat.mul_succ] at hmul
  change e.heldOwn + s.k e.key.group * _ + cellsOf a.desc.length ≤ e.reservation
  omega

/-- A judged packet is held within the reservation, or takes nothing of it (R41 to R46). -/
theorem judgeAndHold (h : s.Reserved) {slot : Nat} {e : Episode} {r : Responder} {a : Arrival} (he : s.ep? slot = some e)
    (hg : e.key.group = a.group) (hr : r ∈ e.roster) : (s.judgeAndHold slot a r).Reserved := by
  have hkeep := Eases.refl s
  unfold State.judgeAndHold
  dsimp only
  split
  · exact h.eases ((hkeep.count _ _).borrowOrTrim slot a true)
  · exact h.eases ((hkeep.count _ _).borrowOrTrim slot a true)
  · exact h.eases ((hkeep.count _ _).borrowOrTrim slot a true)
  · exact h.eases (hkeep.borrowOrTrim slot a true)
  · rename_i number hjudged
    have hcited : a.desc.length ≤ (s.policy a.group).mtu ∧ r.grants.any (fun g => g.number == number) = true := by
      unfold judge at hjudged
      (repeat' split at hjudged) <;> cases hjudged
      rename_i hmtu _ _ _ hany
      exact ⟨not_lt.1 hmtu, hany⟩
    exact h.holdCited he hg hr hcited.1 hcited.2
  · have hused : s.Eases (s.updEp slot (fun x => x.updResponder r.endpoint Responder.useAllowance)) :=
      hkeep.updEp slot (fun x => x.updResponder_eases r.endpoint (fun y => Responder.eases_of_grants rfl))
    split
    · exact h.eases hused
    · rename_i x hx
      obtain ⟨y, hy, hey⟩ := hused.ep? he
      cases hx.symm.trans hy
      split
      · rename_i hfits
        refine (h.eases hused).holdOwn hx ?_
        rw [hey.key, hg]
        simpa [fitsOwn] using hfits
      · exact h.eases (hused.borrowOrTrim slot a true)

theorem arriveSighted (h : s.Reserved) {slot : Nat} {e : Episode} {a : Arrival} (he : s.ep? slot = some e)
    (hg : e.key.group = a.group) : (s.arriveSighted slot a).Reserved := by
  have hactive : s.Eases (if (s.ep? slot).any (fun e => e.state == .armed) then
      (s.updEp slot (fun x => { x with state := .active })).applyNextEpisode a.group else s) := by
    split
    · exact ((Eases.refl s).updEp slot (f := fun x => { x with state := .active })
        (fun _ => Episode.eases_of_eq rfl rfl rfl rfl rfl)).frame (by simp) (by simp)
    · exact Eases.refl s
  have hnoted := (hactive.enterArrival slot a).noteArrival slot a
  obtain ⟨x, hx, hex⟩ := hnoted.ep? he
  unfold State.arriveSighted
  dsimp only
  rw [hx, Option.bind_some]
  split
  · exact h.eases (hnoted.borrowOrTrim slot a false)
  · rename_i r hr
    have hjudged := (h.eases hnoted).judgeAndHold (a := a) hx (hex.key ▸ hg) (List.mem_of_find?_eq_some hr)
    exact hjudged.eases (((Eases.refl _).applyLast slot a r).testCompletion slot)

theorem passThrough (h : s.Reserved) (a : Arrival) : (s.passThrough a).Reserved := h.frame rfl rfl

/-- A new record holds and grants nothing (R6, R9). -/
theorem placeEpisode (h : s.Reserved) {e : Episode} (hslot : s.freeSlot? = some e.slot) (hown : e.heldOwn = 0)
    (hroster : e.roster = []) (henabled : (s.port e.key.group).state ≠ .disabled)
    (hrole : (s.port e.key.group).role ≠ .pairOdd) : (s.placeEpisode e).Reserved := by
  refine ⟨placeEpisode_slots h.distinct hslot, h.bonds, h.odd, fun x hx => ?_⟩
  rcases List.mem_cons.1 ((insertEpisode_perm e s.table.episodes).mem_iff.1 hx) with rfl | hx
  · refine ⟨?_, ?_, henabled, hrole⟩
    · simp [Episode.granted, hown, hroster]
    · rw [hroster]
      exact fun r hr => absurd hr List.not_mem_nil
  · exact (h.records x hx).of_port rfl

theorem arriveUnmatched (h : s.Reserved) {a : Arrival} (hrole : (s.port a.group).role ≠ .pairOdd) :
    (s.arriveUnmatched a).Reserved := by
  unfold State.arriveUnmatched
  split
  · rename_i hadopt
    simp only [Bool.and_eq_true, beq_iff_eq] at hadopt
    split
    · exact h.passThrough a
    · rename_i slot hslot
      have hplaced := h.placeEpisode
        (e := { newEpisode slot a.key .adopted .active with idle := some ⟨(s.policy a.group).idle, false⟩ })
        hslot rfl rfl (fun hd => by cases hadopt.1.symm.trans hd) hrole
      exact (hplaced.frame (by simp) (by simp)).eases ((Eases.refl _).arriveAdopted slot a)
  · exact h.passThrough a

theorem arriveMatched (h : s.Reserved) {e : Episode} {a : Arrival} (he : s.lookup a.key = some e) :
    (s.arriveMatched e a).Reserved := by
  obtain ⟨hmem, hkey⟩ := lookup_eq_some he
  have hslot := ep?_of_mem h.distinct hmem
  have hgroup : e.key.group = a.group := by rw [hkey]; rfl
  unfold State.arriveMatched
  split
  · exact h.eases ((Eases.refl s).arriveDraining e.slot a)
  · exact (h.eases ((Eases.refl s).count a.group .late)).passThrough a
  · exact h.arriveSighted hslot hgroup
  · split
    · exact h.arriveSighted hslot hgroup
    · exact h.eases ((Eases.refl s).arriveAdopted e.slot a)

theorem arrive (h : s.Reserved) (desc : Descriptor) (data : List Byte) : (s.arrive desc data).Reserved := by
  unfold State.arrive
  dsimp only
  split
  · split
    · exact h.arriveUnmatched (h.groupOf_role desc.port)
    · rename_i e he
      exact h.arriveMatched he
  · exact h.eases ((Eases.refl s).portFault _)

/-! ### Sightings -/

theorem freeEpisode (h : s.Reserved) (slot : Nat) : (s.freeEpisode slot).Reserved :=
  h.sublist (freeEpisode_sublist s slot) (by simp)

theorem takeLinger (h : s.Reserved) (slot : Nat) : (s.takeLinger slot).Reserved := by
  unfold State.takeLinger
  split
  · exact h
  · split
    · exact h.freeEpisode slot
    · exact h

theorem createSighted (h : s.Reserved) {a : Announcement} (hactive : (s.port a.key.group).state = .active)
    (hrole : (s.port a.key.group).role ≠ .pairOdd) : (s.createSighted a).Reserved := by
  have hrefused : ∀ cause, (s.refuseSighting cause).Reserved := by
    intro cause
    unfold State.refuseSighting
    split
    · exact h
    · exact h.frame (by simp) (by simp)
  unfold State.createSighted
  split
  · exact hrefused .table
  · rename_i slot hslot
    split
    · exact hrefused .store
    · refine h.placeEpisode hslot rfl rfl ?_ hrole
      intro hdisabled
      cases hactive.symm.trans hdisabled

theorem takeSighting (h : s.Reserved) {a : Announcement} (hrole : (s.port a.key.group).role ≠ .pairOdd) :
    (s.takeSighting a).Reserved := by
  have hignored : s.ignoreSighting.Reserved := h.frame rfl rfl
  unfold State.takeSighting
  split
  · rename_i hc
    simp only [Bool.and_eq_true, beq_iff_eq] at hc
    have hactive := hc.1.1
    split
    · exact h.createSighted hactive hrole
    · rename_i e _
      unfold State.sightAgain
      split
      · exact hignored
      · have hclosed : (if e.linger.isNone then s.closeEpisode e.slot else s).Reserved := by
          split
          · exact h.eases ((Eases.refl s).closeEpisode e.slot)
          · exact h
        have hport : ∀ p, ((if e.linger.isNone then s.closeEpisode e.slot else s).freeEpisode e.slot).port p = s.port p := by
          intro p
          unfold State.port
          split <;> simp
        exact (hclosed.freeEpisode e.slot).createSighted (by rw [hport]; exact hactive) (by rw [hport]; exact hrole)
  · exact hignored

theorem sightingWord (h : s.Reserved) (port : Nat) (a : Announcement) : (s.sightingWord port a).Reserved := by
  have hb : (s.breakOpen false).Reserved := h.frame (by simp) (by simp)
  unfold State.sightingWord
  dsimp only
  split
  · exact hb.frame rfl rfl
  · exact hb.takeSighting (hb.groupOf_role port)

/-! ### Decisions -/

/-- A grant within the reservation check (R51, R62, R66). -/
theorem makeGrant (h : s.Reserved) {g : Nat} {c : Candidate} (hc : s.decision? g = some c) : (s.makeGrant g c).Reserved := by
  obtain ⟨e, he, hslot, hgroup, hsize, hpasses⟩ := decision?_passes hc
  have hfound : s.ep? c.slot = some e := hslot ▸ ep?_of_mem h.distinct he
  have hlaw := h.records e he
  have hrecorded : s.Reserves (e.recordGrant c.position c.size (s.policy g).grantTimeout) := by
    refine ⟨?_, fun r hr => ?_, hlaw.enabled, hlaw.notOdd⟩
    · have hgranted : (e.recordGrant c.position c.size (s.policy g).grantTimeout).granted ≤ e.granted + c.size :=
        sum_modify_le _ _ _ _ _ (fun r => by simp [Responder.remaining, Responder.recordGrant])
      have hmul := Nat.mul_le_mul_left (s.k g) hgranted
      have hkey : (e.recordGrant c.position c.size (s.policy g).grantTimeout).key.group = g := hgroup
      rw [hkey]
      change e.heldOwn + _ ≤ e.reservation
      omega
    · rcases mem_modify hr with hr | ⟨y, hy, rfl⟩
      · exact hlaw.live r hr
      · intro x hx
        rcases List.mem_append.1 hx with hx | hx
        · exact hlaw.live y (List.mem_of_getElem? hy) x hx
        · rw [List.mem_singleton.1 hx]
          exact hsize
  unfold State.makeGrant
  rw [hfound]
  dsimp only
  split
  · exact h
  · exact (h.updEp (f := fun x => x.recordGrant c.position c.size (s.policy g).grantTimeout) hfound (fun _ => rfl)
      hrecorded).frame rfl rfl

theorem oneDecision (h : s.Reserved) : s.oneDecision.Reserved := by
  have hready : ∀ d ∈ s.readyDecisions, s.decision? d.1 = some d.2 := by
    intro d hd
    obtain ⟨g, -, hg⟩ := List.mem_filterMap.1 hd
    obtain ⟨c, hc, rfl⟩ := Option.map_eq_some_iff.1 hg
    exact hc
  unfold State.oneDecision
  split
  · exact h
  · rename_i g c hs
    exact h.makeGrant (hready (g, c) (by simp [hs]))
  · rename_i first rest _ hs
    have hchosen : (first :: rest).getD (Config.choice s.choices % (first :: rest).length) first ∈ s.readyDecisions := by
      rw [hs, List.getD_eq_getElem _ _ (Nat.mod_lt _ (by simp))]
      exact List.getElem_mem _
    exact State.Reserved.makeGrant (s := { s with choices := s.choices + 1 }) (h.frame rfl rfl) (hready _ hchosen)

theorem decisions (h : s.Reserved) (n : Nat) : (State.decisions n s).Reserved := by
  induction n generalizing s with
  | zero => exact h
  | succ n ih =>
    unfold State.decisions
    split
    · exact h
    · exact ih h.oneDecision

/-! ### The end of a drain-out -/

/-- The group that goes to DISABLED has no record left (R132). -/
theorem completeDrain (h : s.Reserved) (g : Nat) : (s.completeDrain g).Reserved := by
  rw [completeDrain_eq]
  split
  · have hfreed : (s.freeAll (s.groupSlots g)).Reserved := by
      refine h.sublist ?_ (freeAll_keeps s _).1
      rw [freeAll_episodes]
      exact List.filter_sublist
    have hother : ∀ e ∈ (s.freeAll (s.groupSlots g)).table.episodes, e.key.group ≠ g := by
      intro e he
      rw [freeAll_episodes, List.mem_filter, decide_eq_true_eq] at he
      exact fun hg => he.2 ((slot_mem_groupSlots h.distinct he.1).2 hg)
    refine State.Reserved.frame (s := (s.freeAll (s.groupSlots g)).updPort g Port.drained) ?_ (by simp) (by simp)
    have hsetup : setupOf ((s.freeAll (s.groupSlots g)).updPort g Port.drained).ports =
        setupOf (s.freeAll (s.groupSlots g)).ports := updPort_setup _ g _ (fun _ => ⟨rfl, rfl⟩)
    refine ⟨hfreed.distinct, fun p hb => ?_, fun p hr => ?_, fun e he => ?_⟩
    · rw [policy_of_setup hsetup] at hb
      rw [role_of_setup hsetup]
      exact hfreed.bonds p hb
    · rw [role_of_setup hsetup] at hr
      exact hfreed.odd p hr
    · refine (hfreed.records e he).of_port ?_
      rw [port_updPort, if_neg (fun hg => hother e he hg.1.symm)]
  · exact h

theorem consequences (h : s.Reserved) (wasIdle : Bool) : (s.consequences wasIdle).Reserved := by
  have hdrained : s.completeDrains.Reserved := foldl_inv State.Reserved _ (fun _ g h => h.completeDrain g) _ _ h
  have hbegun : s.completeDrains.beginItem.beginReleases.Reserved :=
    (hdrained.frame (t := s.completeDrains.beginItem) (by simp) (by simp)).eases (Eases.refl _).beginReleases
  have harbited : (s.completeDrains.beginItem.beginReleases.storeArbiter wasIdle).Reserved := hbegun.frame (by simp) (by simp)
  exact ((harbited.decisions 512).frame (t := State.beginItem _) (by simp) (by simp)).decisions 512

/-! ### SET_PORT -/

theorem setPortEffect (h : s.Reserved) {body : List Byte} {b : ReplyBody} (ht : setPortEffect body s = .ok t b) :
    t.Reserved := by
  have hepisodes : t.table.episodes = s.table.episodes := by simp [setPortEffect_keeps ht]
  obtain ⟨p, hset⟩ := setPortEffect_portSet h.bonds ht
  refine ⟨slotsDistinct_of_map (by rw [hepisodes]) h.distinct, fun q hq => ?_, fun q hq => ?_, fun e he => ?_⟩
  · by_cases hqp : q = p
    · exact hqp ▸ hset.bonded (hqp ▸ hq)
    · have hold : (s.policy q).bond = .pair := hset.pair_of_ne hqp hq
      by_cases hnext : q + 1 = p
      · exact absurd (hnext ▸ h.bonds q hold) hset.notOdd
      · unfold State.policy at hq
        rw [hset.other hnext (by omega)]
        exact h.bonds q hold
  · by_cases hqp : q = p
    · exact absurd (hqp ▸ hq) hset.notOddAfter
    · by_cases hqn : q = p + 1
      · subst hqn
        rcases hset.partner with hsame | ⟨-, -, hodd⟩
        · exact h.odd _ (hsame ▸ hq)
        · exact hodd hq
      · exact h.odd q (hset.other hqp hqn ▸ hq)
  · rw [hepisodes] at he
    have hlaw := h.records e he
    refine hlaw.of_port ?_
    by_cases hgp : e.key.group = p
    · exact absurd (hgp ▸ hset.disabled) hlaw.enabled
    · by_cases hgn : e.key.group = p + 1
      · rcases hset.partner with hsame | ⟨hidle | hodd, -, -⟩
        · rw [hgn, hsame]
        · exact absurd (hgn ▸ hidle) hlaw.enabled
        · exact absurd (hgn ▸ hodd) hlaw.notOdd
      · exact hset.other hgp hgn

theorem performed (h : s.Reserved) {f : Frame} {b : ReplyBody} (ht : performed f s = .ok t b) : t.Reserved := by
  by_cases hset : ∃ body, Machine.setPortEffect body s = .ok t b
  · obtain ⟨body, hbody⟩ := hset
    exact h.setPortEffect hbody
  · exact h.eases ((Eases.refl s).performed ht (fun body hbody => hset ⟨body, hbody⟩))

/-! ### Resets and steps -/

/-- Every reset empties the Episode Table and returns the ports to power-on (R177). -/
theorem ofReset (htable : s.table.episodes = []) (hports : s.ports = Vector.replicate 48 Port.powerOn) : s.Reserved := by
  have hport : ∀ p, s.port p = Port.powerOn := fun p => by unfold State.port; rw [hports]; exact vget_replicate _ _ _
  refine ⟨?_, fun p hb => ?_, fun p hr => ?_, fun e he => ?_⟩
  · unfold State.SlotsDistinct; rw [htable]; exact List.nodup_nil
  · unfold State.policy at hb; rw [hport] at hb; cases hb
  · rw [hport] at hr; cases hr
  · rw [htable] at he; cases he

theorem transmitDone (h : s.Reserved) : s.transmitDone.Reserved := by
  unfold State.transmitDone
  split
  · exact h
  · dsimp only
    split
    · exact h.frame rfl rfl
    · split
      · exact ofReset (by simp [State.resetPart]) (by simp [State.resetPart])
      · exact h.frame rfl rfl

theorem takePayload (h : s.Reserved) (last : Bool) (count : Byte) (data : List Byte) :
    (s.takePayload last count data).Reserved := by
  have hbroken : ∀ ended, (s.breakOpen ended).Reserved := fun ended => h.frame (by simp) (by simp)
  unfold State.takePayload
  split
  · exact h.frame rfl rfl
  · dsimp only
    split
    · split
      · exact hbroken true
      · exact h
    · split
      · exact hbroken last
      · split
        · exact h.frame rfl rfl
        · split
          · exact State.Reserved.arrive (s := { s with link := { s.link with openPacket := none } }) (h.frame rfl rfl) _ _
          · exact hbroken true

theorem takeWord (h : s.Reserved) {inParams inUp : State → State} (hp : ∀ t : State, t.Reserved → (inParams t).Reserved)
    (hu : ∀ t : State, t.Reserved → (inUp t).Reserved) : (s.takeWord inParams inUp).Reserved := by
  unfold State.takeWord
  dsimp only
  split
  · exact h
  · exact h.frame (by simp) (by simp)
  · exact h.frame (by simp) (by simp)
  · exact hp _ (h.frame (by simp) (by simp))
  · exact hu _ (h.frame (by simp) (by simp))

/-- The effect of every row that is an event of its own. -/
theorem eventOf {i : Instr} {effect : State → State} (hi : eventOf? i = some effect) (h : s.Reserved) : (effect s).Reserved := by
  have hkeep := Eases.refl s
  cases i with
  | transmitComplete => cases hi; exact h.transmitDone
  | pacerTick => cases hi; exact h.eases hkeep.pacerTick
  | grantTimerExpiry slot position number => cases hi; exact h.eases (hkeep.expireGrant slot position number)
  | deadlineExpiry slot => cases hi; exact h.eases (hkeep.takeDeadline slot)
  | idleExpiry slot => cases hi; exact h.eases (hkeep.takeIdle slot)
  | lingerExpiry slot => cases hi; exact h.takeLinger slot
  | framingError lane => cases hi; exact h.eases (hkeep.framingError lane)
  | damagedWord blocks typeCode ofPacket => cases hi; exact h.frame (by simp) (by simp)
  | parameterBlock linkId laneCount portCount maxLength checksum =>
    cases hi; exact h.takeWord (fun t ht => ht.frame (by simp) (by simp)) (fun t ht => ht.frame (by simp) (by simp))
  | packetDescriptor port flags length dest src tag grant =>
    cases hi; exact h.takeWord (fun _ => id) (fun t ht => ht.frame (by simp) (by simp))
  | payloadWord last count data => cases hi; exact h.takeWord (fun _ => id) (fun t ht => ht.takePayload last count data)
  | sighting port requester tag n e cls report =>
    cases hi; exact h.takeWord (fun _ => id) (fun t ht => ht.sightingWord port.toNat _)
  | divertStarted port =>
    cases hi
    exact h.takeWord (fun _ => id) (fun t ht => ht.eases ((Eases.refl t).markerWord port.toNat (fun u hu => hu.started _)))
  | divertStopped port =>
    cases hi
    exact h.takeWord (fun _ => id) (fun t ht => ht.eases ((Eases.refl t).markerWord port.toNat (fun u hu => hu.stopped _)))
  | statusWord full => cases hi; exact h.takeWord (fun _ => id) (fun t ht => ht.frame (by simp) (by simp))
  | holdReturn => cases hi; exact h.takeWord (fun _ => id) (fun t ht => ht.frame (by simp) (by simp))
  | resumeReturn => cases hi; exact h.takeWord (fun _ => id) (fun t ht => ht.frame (by simp) (by simp))
  | idleWord => cases hi; exact h.takeWord (fun _ => id) (fun _ => id)
  | unknownTypeWord marker => cases hi; exact h.takeWord (fun _ => id) (fun t ht => ht.frame (by simp) (by simp))
  | storeWriteComplete => cases hi; exact h.eases hkeep.finishWrite
  | releaseReadComplete corrected uncorrectable => cases hi; exact h.eases (hkeep.finishRead corrected uncorrectable)
  | _ => cases hi <;> exact h.frame (by simp) (by simp)

theorem resets (h : s.Reserved) : s.assertReset.Reserved ∧ s.releaseReset.Reserved := by
  refine ⟨ofReset rfl rfl, ?_⟩
  unfold State.releaseReset
  split
  · exact ofReset rfl rfl
  · exact h

end State.Reserved

/-- Settles O60: what does not ease every record is an own admission within the reservation or of a granted packet, a grant
within the reservation check, a new record, the end of a drain-out whose group has no record left, or SET_PORT. -/
theorem stepsKeepGrantsWithinReservations : Obligations.StepsKeepGrantsWithinReservations := by
  intro s t hstep h
  rw [reservationLaw_iff] at h ⊢
  exact step_inv (P := State.Reserved) (fun _ _ h => h.frame rfl rfl) (fun _ _ h => h.frame rfl rfl)
    (fun _ _ h => h.frame rfl rfl) (fun _ _ h => h.frame rfl rfl) (fun _ w h => h.consequences w)
    (fun _ _ _ _ ht h => h.performed ht) (fun _ _ hi _ h => h.eventOf hi) (fun _ h => h.resets) s t hstep h

end Sys2Proof.Machine
end

-- ==== Proofs: rosters, judgement and borrowing ====
section
/-! The responders of an arriving packet: their entry, counts, grants and strikes (R34 to R54), the judgement (R41 to R46),
borrow-or-trim (R49, R50) and the expiry of a grant (R53, R54), each operation in the words of its rule. -/

namespace Sys2Proof.Machine

/-! ### A grant's timer expires -/

/-- A due expiry strikes the responder, and retires it at its third strike (R53, R54). -/
theorem expireGrant_due {s : State} {slot position number : Nat} {e : Episode} {r : Responder}
    (h : GrantDue s slot position number e r) :
    s.expireGrant slot position number =
      let struck := s.updEp slot (fun x => { x with roster := x.roster.modify position (fun y => y.strike number) })
      if r.strikes + 1 = 3 then struck.retire slot position e else struck := by
  obtain ⟨he, hr, hdue⟩ := h
  unfold State.expireGrant
  rw [he]
  dsimp only
  rw [hr]
  exact if_pos hdue

/-- Settles O26. -/
theorem grantExpiryStrikesAndRetires : Obligations.GrantExpiryStrikesAndRetires := by
  intro s slot position number e r hr hdue
  exact endsAt_event rfl hr (expireGrant_due (s := s.begun) hdue)

/-! ### Borrow-or-trim -/

/-- A packet within the borrow cap and the store is borrowed (R49). -/
theorem borrowOrTrim_fits {s : State} {slot : Nat} {e : Episode} (he : s.ep? slot = some e) (a : Arrival) (listed : Bool)
    (hcap : e.borrowed + cellsOf a.desc.length ≤ (s.policy e.key.group).borrowCap)
    (hstore : s.sumR + s.sumB + cellsOf a.desc.length ≤ 2097152) :
    s.borrowOrTrim slot a listed =
      (s.updEp slot (fun x => { x with borrowed := x.borrowed + cellsOf a.desc.length })).joinWriteList e a .borrowed := by
  unfold State.borrowOrTrim
  rw [he]
  exact if_pos (by simpa [Config.cellCount] using ⟨hcap, hstore⟩)

/-- Any other packet is trimmed (R49). -/
theorem borrowOrTrim_over {s : State} {slot : Nat} {e : Episode} (he : s.ep? slot = some e) (a : Arrival) (listed : Bool)
    (hover : ¬ (e.borrowed + cellsOf a.desc.length ≤ (s.policy e.key.group).borrowCap ∧
      s.sumR + s.sumB + cellsOf a.desc.length ≤ 2097152)) :
    s.borrowOrTrim slot a listed = s.trim slot a listed := by
  unfold State.borrowOrTrim
  rw [he]
  exact if_neg (by simpa [Config.cellCount] using hover)

theorem trim_some {s : State} {slot : Nat} {e : Episode} (he : s.ep? slot = some e) (a : Arrival) (listed : Bool) :
    s.trim slot a listed =
      let u := (s.updEp slot (fun x => { x with trimmed := x.trimmed.add a.desc.length })).resumeCheck
      (if listed then u.count e.key.group .trim else u).makeStub e a := by
  unfold State.trim
  rw [he]

/-- Settles O34. -/
theorem borrowOrTrimKeepsWithinCapAndStore : Obligations.BorrowOrTrimKeepsWithinCapAndStore := by
  intro s slot a listed e he
  refine ⟨fun hfits => ?_, fun hover => ?_⟩
  · rw [borrowOrTrim_fits he a listed hfits.1 hfits.2, updEp_eq]
    rfl
  · rw [borrowOrTrim_over he a listed hover, trim_some he]
    rfl

/-! ### The judgement -/

theorem Responder.isFinal_iff {r : Responder} : r.isFinal = true ↔ r.state = .finished ∨ r.state = .retired := by
  simp [Responder.isFinal]

theorem fitsOwn_iff {e : Episode} {k length : Nat} :
    fitsOwn e k length = true ↔ e.heldOwn + k * e.granted + cellsOf length ≤ e.reservation := by
  simp [fitsOwn]

/-- The conditions of R41 in their order. -/
theorem judge_eq (r : Responder) (mtu length grant : Nat) :
    judge r mtu length grant =
      if mtu < length ∨ r.state = .finished ∨ r.state = .retired then .overrun
      else if r.unpaced = true then .unpaced
      else if grant = 0 then (if r.allowance = 0 then .overAllowance else .opening)
      else if ∃ g ∈ r.grants, g.number = grant then .cited grant
      else .stray := by
  have hany : (∃ g ∈ r.grants, g.number = grant) ↔ r.grants.any (fun g => g.number == grant) = true := by simp
  unfold judge
  by_cases hlong : mtu < length
  · rw [if_pos hlong, if_pos (Or.inl hlong)]
  · simp only [Responder.isFinal_iff, hlong, if_false, false_or, hany, Nat.pos_iff_ne_zero, ite_not]

/-- Settles O33: each verdict of R41 is followed as the table says. -/
theorem judgementFollowsTheTable : Obligations.JudgementFollowsTheTable := by
  intro s slot a r
  dsimp only
  unfold State.judgeAndHold
  dsimp only
  rw [judge_eq]
  by_cases hover : (s.policy a.group).mtu < a.desc.length ∨ r.state = .finished ∨ r.state = .retired
  · simp only [if_pos hover]
  by_cases hunpaced : r.unpaced = true
  · simp only [if_neg hover, if_pos hunpaced]
  by_cases hopening : a.desc.grantNumber.toNat = 0
  · by_cases hspent : r.allowance = 0
    · simp only [if_neg hover, if_neg hunpaced, if_pos hopening, if_pos hspent]
    · simp only [if_neg hover, if_neg hunpaced, if_pos hopening, if_neg hspent]
      cases (s.updEp slot (fun x => x.updResponder r.endpoint Responder.useAllowance)).ep? slot with
      | none => rfl
      | some e => exact ite_congr (propext fitsOwn_iff) (fun _ => rfl) (fun _ => rfl)
  by_cases hcited : ∃ g ∈ r.grants, g.number = a.desc.grantNumber.toNat
  · simp only [if_neg hover, if_neg hunpaced, if_neg hopening, if_pos hcited]
  · simp only [if_neg hover, if_neg hunpaced, if_neg hopening, if_neg hcited]

/-! ### A responder's entry -/

/-- A pool entry is free while the rosters do not fill the pool (R35). -/
theorem freeEntries_pos {s : State} : 0 < s.freeEntries ↔ (s.table.episodes.map (fun x => x.roster.length)).sum < 16384 := by
  simp only [State.freeEntries, Config.rosterEntries]
  omega

/-- A record with one more responder. -/
def Episode.entered (x : Episode) (r : Responder) : Episode := { x with roster := x.roster ++ [r] }

/-- A responder is not entered twice, nor into a full roster or from an exhausted pool (R36, R48). -/
theorem enter_skipped {s : State} {slot : Nat} {a : Arrival} {e : Episode} (he : s.ep? slot = some e)
    (h : (∃ r ∈ e.roster, r.endpoint = a.desc.src) ∨ e.rosterLimit ≤ e.roster.length ∨
      16384 ≤ (s.table.episodes.map (fun x => x.roster.length)).sum) : s.enter slot a = s := by
  unfold State.enter
  rw [he]
  dsimp only
  split
  · rfl
  · rename_i hfind
    rw [e.find?_isSome] at hfind
    refine if_neg (fun hroom => ?_)
    rw [Bool.and_eq_true, decide_eq_true_eq, decide_eq_true_eq, freeEntries_pos] at hroom
    rcases h with ⟨r, hr, hsrc⟩ | hfull | hpool
    · exact hfind (List.any_eq_true.2 ⟨r, hr, by simpa using hsrc⟩)
    · omega
    · omega

/-- With room, the sender is entered by the episode's origin; into a SIGHTED episode of a group in DRAIN_OUT or FAULTED with its
UNPACE produced (R34, R38). -/
theorem enter_room {s : State} {slot : Nat} {a : Arrival} {e : Episode} (he : s.ep? slot = some e)
    (habsent : ∀ r ∈ e.roster, r.endpoint ≠ a.desc.src) (hroster : e.roster.length < e.rosterLimit)
    (hpool : (s.table.episodes.map (fun x => x.roster.length)).sum < 16384) :
    s.enter slot a =
      match e.origin with
      | .adopted => s.updEp slot (fun x => x.entered { newResponder a.desc.src 0 with state := .waiting })
      | .sighted =>
        let r := newResponder a.desc.src (s.policy e.key.group).allowance
        if (s.port e.key.group).state = .drainOut ∨ (s.port e.key.group).state = .faulted then
          { (s.updEp slot (fun x => x.entered r)).updEp slot (fun x => x.updResponder a.desc.src Responder.unpace) with
            sched := s.sched.join (unpaceFrame e r) }
        else s.updEp slot (fun x => x.entered r) := by
  have hfind : ¬ (e.find? a.desc.src).isSome = true := by
    rw [e.find?_isSome, List.any_eq_true]
    rintro ⟨r, hr, hsrc⟩
    exact habsent r hr (by simpa using hsrc)
  have hroom : (decide (e.roster.length < e.rosterLimit) && decide (0 < s.freeEntries)) = true := by
    rw [Bool.and_eq_true, decide_eq_true_eq, decide_eq_true_eq, freeEntries_pos]
    exact ⟨hroster, hpool⟩
  unfold State.enter
  rw [he]
  dsimp only
  rw [if_neg hfind, if_pos hroom]
  cases e.origin with
  | adopted => rfl
  | sighted => exact ite_congr (by simp) (fun _ => rfl) (fun _ => rfl)

/-- What a record of a slot is written to depends on that record alone. -/
theorem updEp_congr {s : State} {slot : Nat} {e : Episode} {f g : Episode → Episode} (hd : s.SlotsDistinct)
    (he : s.ep? slot = some e) (h : f e = g e) : s.updEp slot f = s.updEp slot g := by
  rw [updEp_eq, updEp_eq]
  have hmap : s.table.episodes.map (fun x => if x.slot = slot then f x else x) =
      s.table.episodes.map (fun x => if x.slot = slot then g x else x) :=
    List.map_congr_left (fun x hx => ite_congr rfl (fun hs => by rw [eq_of_slot hd he hx hs, h]) (fun _ => rfl))
  rw [hmap]

/-- An UNPACE for a new entry reaches no other (R34, R36). -/
theorem Episode.entered_updResponder {e : Episode} {r : Responder} (f : Responder → Responder)
    (habsent : ∀ y ∈ e.roster, y.endpoint ≠ r.endpoint) : (e.entered r).updResponder r.endpoint f = e.entered (f r) := by
  have hold : e.roster.map (fun y => if y.endpoint == r.endpoint then f y else y) = e.roster := by
    refine (List.map_congr_left (fun y hy => ?_)).trans (List.map_id _)
    exact if_neg (by simpa using habsent y hy)
  unfold Episode.entered Episode.updResponder
  rw [List.map_append, hold, List.map_singleton, if_pos (beq_self_eq_true _)]

/-- A responder whose UNPACE is produced as it is entered (R34, R38). -/
theorem enter_unpaced {s : State} {slot : Nat} {e : Episode} {r : Responder} (hd : s.SlotsDistinct) (he : s.ep? slot = some e)
    (habsent : ∀ y ∈ e.roster, y.endpoint ≠ r.endpoint) :
    (s.updEp slot (fun x => x.entered r)).updEp slot (fun x => x.updResponder r.endpoint Responder.unpace) =
      s.updEp slot (fun x => x.entered r.unpace) := by
  rw [updEp_updEp s slot (fun x => x.entered r) _ (fun _ => rfl)]
  exact updEp_congr hd he (Episode.entered_updResponder Responder.unpace habsent)

/-! ### A packet's figures -/

theorem unlistedSum_small {old n : Nat} (h : old + n < 4294967296) : unlistedSum old n = old + n := if_pos h

theorem noteSender_listed {e : Episode} {a : Arrival} (h : ∃ r ∈ e.roster, r.endpoint = a.desc.src) :
    e.noteSender a = { e with roster := e.roster.map (fun r =>
      if r.endpoint = a.desc.src then { r with packetsArrived := bump32 r.packetsArrived } else r) } := by
  unfold Episode.noteSender
  rw [if_pos (by rw [e.find?_isSome]; simpa using h)]
  simp only [Episode.updResponder, sat32_succ, beq_iff_eq]

theorem noteSender_unlisted {e : Episode} {a : Arrival} (h : ∀ r ∈ e.roster, r.endpoint ≠ a.desc.src) :
    e.noteSender a = { e with unlisted := e.unlisted.addUnlisted a.desc.length } := by
  unfold Episode.noteSender
  rw [if_neg (by rw [e.find?_isSome]; simpa using h)]

/-! ### A responder's own rules -/

theorem Responder.useAllowance_eq (r : Responder) : r.useAllowance =
    { r with allowance := r.allowance - 1,
             state := if r.allowance - 1 = 0 ∧ r.state = .opening then .waiting else r.state } := by
  simp [Responder.useAllowance]

theorem Responder.followGrants_eq (r : Responder) :
    r.followGrants = { r with state := if r.state = .granted ∧ r.grants = [] then .waiting else r.state } := by
  simp [Responder.followGrants]

/-- A used-up grant is removed, any other stays (R45). -/
theorem Responder.useGrant_eq (r : Responder) (number timeout : Nat) :
    let left := (r.grants.map (fun g =>
      if g.number = number then { g with remaining := g.remaining - 1, timer := timeout, due := false } else g)).filter
        (fun g => !decide (g.number = number ∧ g.remaining = 0))
    r.useGrant number timeout =
      { r with grants := left, state := if r.state = .granted ∧ left = [] then .waiting else r.state } := by
  have hused : ∀ g : Grant, (!(g.number == number && g.remaining == 0)) = !decide (g.number = number ∧ g.remaining = 0) :=
    fun g => by rw [Bool.decide_and]; rfl
  unfold Responder.useGrant
  dsimp only
  rw [Responder.followGrants_eq]
  simp only [hused, beq_iff_eq]

theorem Responder.strike_eq (r : Responder) (number : Nat) :
    let left := r.grants.filter (fun g => !decide (g.number = number))
    r.strike number =
      { r with grants := left, strikes := r.strikes + 1,
               state := if r.state = .granted ∧ left = [] then .waiting else r.state } := by
  unfold Responder.strike
  rw [Responder.followGrants_eq]
  rfl

/-- The last flag of a tagged packet is bit 1 of its flags (R32). -/
theorem Descriptor.lastFlag_eq (d : Descriptor) :
    d.lastFlag = (d.flags.getLsbD 0 && decide (d.tag ≠ 0) && d.flags.getLsbD 1) := by
  have htagged : d.tagged = (d.flags.getLsbD 0 && decide (d.tag ≠ 0)) := by
    unfold Descriptor.tagged Descriptor.paceTag Descriptor.hasHeader
    cases d.flags.getLsbD 0 with
    | false => rfl
    | true => exact Bool.eq_iff_iff.2 (by simp)
  rw [Descriptor.lastFlag, htagged]

theorem applyLast_eq (s : State) (slot : Nat) (a : Arrival) (r : Responder) :
    let last : Bool := a.desc.flags.getLsbD 0 && decide (a.desc.tag ≠ 0) && a.desc.flags.getLsbD 1
    s.applyLast slot a r =
      if last = true ∧ r.state ≠ .finished ∧ r.state ≠ .retired then
        s.updEp slot (fun x => { x with finished := x.finished + 1, roster := x.roster.map (fun y =>
          if y.endpoint = r.endpoint then { y with state := .finished, grants := [] } else y) })
      else s := by
  dsimp only
  rw [← a.desc.lastFlag_eq]
  unfold State.applyLast
  refine ite_congr ?_ (fun _ => ?_) (fun _ => rfl)
  · simp [Responder.isFinal]
  · simp only [Episode.updResponder, Responder.finish, beq_iff_eq]

/-- Settles O32. -/
theorem respondersAreEnteredCountedAndStruck : Obligations.RespondersAreEnteredCountedAndStruck := by
  refine ⟨fun s slot a e hd he => ?_, fun e a => ⟨noteSender_listed, fun h => ?_⟩, Responder.useAllowance_eq,
    Responder.useGrant_eq, Responder.strike_eq, applyLast_eq, fun s slot a e he => ?_⟩
  · dsimp only
    by_cases hskip : (∃ r ∈ e.roster, r.endpoint = a.desc.src) ∨ e.rosterLimit ≤ e.roster.length ∨
        16384 ≤ (s.table.episodes.map (fun x => x.roster.length)).sum
    · exact (enter_skipped he hskip).trans (if_pos hskip).symm
    · refine Eq.trans ?_ (if_neg hskip).symm
      obtain ⟨hunlisted, hroster, hpool⟩ : _ ∧ _ ∧ _ := by simpa only [not_or, not_le] using hskip
      have habsent : ∀ r ∈ e.roster, r.endpoint ≠ a.desc.src := fun r hr hsrc => hunlisted ⟨r, hr, hsrc⟩
      rw [enter_room he habsent hroster hpool]
      cases e.origin with
      | adopted => exact updEp_eq s slot _
      | sighted =>
        refine ite_congr rfl (fun _ => ?_) (fun _ => updEp_eq s slot _)
        have hunpaced := enter_unpaced (r := newResponder a.desc.src (s.policy e.key.group).allowance) hd he habsent
        exact congrArg (fun t : State => { t with sched := s.sched.join (unpaceFrame e (newResponder a.desc.src 0)) })
          (hunpaced.trans (updEp_eq s slot _))
  · refine ⟨_, noteSender_unlisted h, fun hpackets => ?_, fun hbytes => ?_⟩
    · exact unlistedSum_small (by omega)
    · exact unlistedSum_small hbytes
  · dsimp only
    unfold State.holdOwn
    rw [he]
    rfl

end Sys2Proof.Machine
end

-- ==== Proofs: the grant scheduler ====
section
/-! The decisions of the Grant Scheduler and the frames it queues: whose turn a decision takes and what it grants (R51, R58 to
R66), and how UNPACE frames are produced and queued (R34, R68 to R70). -/

namespace Sys2Proof.Machine

/-! ### Candidates -/

/-- A responder that a decision for the drain group may grant to, and its episode (R59 to R62). -/
def State.IsCandidate (s : State) (g : Nat) (x : Episode) (y : Responder) : Prop :=
  x ∈ s.table.episodes ∧ x.key.group = g ∧ x.origin = .sighted ∧ x.state = .active ∧ x.halted = false ∧
  y.unpaced = false ∧ (y.state = .waiting ∨ (y.state = .granted ∧ y.grants.length < 2)) ∧
  1 ≤ grantSizeFor (s.policy g).grantSize x.e y ∧
  x.heldOwn + s.k g * (x.granted + grantSizeFor (s.policy g).grantSize x.e y) ≤ x.reservation

theorem Responder.eligible_iff {r : Responder} : r.eligible = true ↔
    r.unpaced = false ∧ (r.state = .waiting ∨ (r.state = .granted ∧ r.grants.length < 2)) := by
  simp [Responder.eligible]

theorem Episode.grantable_iff {e : Episode} : e.grantable = true ↔ e.origin = .sighted ∧ e.state = .active ∧ e.halted = false := by
  simp [Episode.grantable, and_assoc]

theorem candidateAt_eq_some {e : Episode} {k n position : Nat} {r : Responder} {c : Candidate} :
    candidateAt e k n position r = some c ↔
      (r.eligible = true ∧ 1 ≤ grantSizeFor n e.e r ∧ passesReservation e k (grantSizeFor n e.e r) = true) ∧
        c = ⟨e.slot, position, grantSizeFor n e.e r⟩ := by
  unfold candidateAt
  simp only [Option.ite_none_right_eq_some, Bool.and_eq_true, decide_eq_true_eq, Option.some.injEq, and_assoc,
    eq_comm (a := c)]

/-- The candidates of a drain group are the responders at which a search of one of its episodes stops. -/
theorem isCandidate_iff {s : State} {g : Nat} {x : Episode} {y : Responder} (position : Nat) : s.IsCandidate g x y ↔
    (x ∈ s.groupEpisodes g ∧ x.grantable = true) ∧
      (candidateAt x (s.k g) (s.policy g).grantSize position y).isSome = true := by
  simp only [State.IsCandidate, mem_groupEpisodes, Episode.grantable_iff, Option.isSome_iff_exists, candidateAt_eq_some,
    exists_and_left, exists_eq, and_true, Responder.eligible_iff, passesReservation, decide_eq_true_eq, and_assoc]

/-! ### Turns -/

/-- An episode's candidate is the first after its roster cursor in ring order (R65). -/
theorem candidate?_first {e : Episode} {k n : Nat} {c : Candidate} (h : e.candidate? k n = some c) :
    ∃ r, e.roster[c.position]? = some r ∧ candidateAt e k n c.position r = some c ∧
      ∀ p y, e.roster[p]? = some y → (candidateAt e k n p y).isSome = true → p ≠ c.position →
        RingBefore e.rosterCursor c.position p := by
  have hplaces : e.roster.zipIdx.Pairwise (fun a b => a.2 < b.2) := by
    rw [← List.pairwise_map (f := Prod.snd) (R := fun a b : Nat => a < b), List.zipIdx_map_snd]
    exact List.pairwise_lt_range'
  obtain ⟨⟨r, i⟩, hr, hat, hfirst⟩ := findSome?_first _ _ _ (ringAfter_pairwise _ e.rosterCursor _ hplaces) c h
  obtain ⟨-, rfl⟩ := candidateAt_eq_some.1 hat
  rw [mem_ringAfter, List.mk_mem_zipIdx_iff_getElem?] at hr
  refine ⟨r, hr, hat, fun p y hy hc hne => ?_⟩
  have hmem : (y, p) ∈ ringAfter (fun q : Responder × Nat => q.2) e.rosterCursor e.roster.zipIdx :=
    (mem_ringAfter _ _ _ _).2 (List.mk_mem_zipIdx_iff_getElem?.2 hy)
  exact (hfirst _ hmem hc).resolve_left (fun heq => hne (congrArg Prod.snd heq))

/-- An episode with a responder to grant to has a candidate. -/
theorem candidate?_isSome {e : Episode} {k n p : Nat} {y : Responder} (hy : e.roster[p]? = some y)
    (h : (candidateAt e k n p y).isSome = true) : (e.candidate? k n).isSome = true :=
  findSome?_isSome _ _ (y, p) ((mem_ringAfter _ _ _ _).2 (List.mk_mem_zipIdx_iff_getElem?.2 hy)) h

/-- The episodes among which a class's candidate is searched (R59, R64). -/
theorem mem_class {s : State} {g cls : Nat} {x : Episode} :
    x ∈ (s.groupEpisodes g).filter (fun e => e.grantable && e.cls == cls) ↔
      (x ∈ s.groupEpisodes g ∧ x.grantable = true) ∧ x.cls = cls := by
  simp [and_assoc]

/-- A class's candidate is that of its first episode after the class cursor in ring order (R64). -/
theorem classCandidate?_first {s : State} {g cls : Nat} {c : Candidate} (h : s.classCandidate? g cls = some c) :
    ∃ e, ((e ∈ s.groupEpisodes g ∧ e.grantable = true) ∧ e.cls = cls) ∧
      e.candidate? (s.k g) (s.policy g).grantSize = some c ∧
      ∀ x, (x ∈ s.groupEpisodes g ∧ x.grantable = true) ∧ x.cls = cls →
        (x.candidate? (s.k g) (s.policy g).grantSize).isSome = true →
        s.SlotOrder → x.slot ≠ e.slot → RingBefore (s.classCursor g cls) e.slot x.slot := by
  have hturns : (ringAfter (fun e : Episode => e.slot) (s.classCursor g cls)
      ((s.groupEpisodes g).filter (fun e => e.grantable && e.cls == cls))).Pairwise
      (fun a b => s.SlotOrder → RingBefore (s.classCursor g cls) a.slot b.slot) := by
    by_cases ho : s.SlotOrder
    · refine (ringAfter_pairwise _ _ _ ?_).imp (fun hab _ => hab)
      exact ((List.pairwise_map.1 ho).filter _).filter _
    · exact List.pairwise_of_forall (fun _ _ hs => absurd hs ho)
  obtain ⟨e, he, hc, hfirst⟩ := findSome?_first _ _ _ hturns c h
  refine ⟨e, mem_class.1 ((mem_ringAfter _ _ _ _).1 he), hc, fun x hx hsome ho hne => ?_⟩
  rcases hfirst x ((mem_ringAfter _ _ _ _).2 (mem_class.2 hx)) hsome with rfl | hbefore
  · exact absurd rfl hne
  · exact hbefore ho

/-- A class with an episode that has a candidate has one. -/
theorem classCandidate?_isSome {s : State} {g : Nat} {x : Episode} (hx : x ∈ s.groupEpisodes g ∧ x.grantable = true)
    (h : (x.candidate? (s.k g) (s.policy g).grantSize).isSome = true) : (s.classCandidate? g x.cls).isSome = true :=
  findSome?_isSome _ _ x ((mem_ringAfter _ _ _ _).2 (mem_class.2 ⟨hx, rfl⟩)) h

/-! ### Decisions -/

theorem mayGrant_iff {s : State} {g : Nat} : s.mayGrant g = true ↔
    (s.port g).state = .active ∧ 0 < (s.pacer g).grantCredit ∧ s.sched.backlog = [] ∧ s.sched.queue.length < 512 := by
  simp [State.mayGrant, and_assoc]

theorem decision?_eq_some {s : State} {g : Nat} {c : Candidate} : s.decision? g = some c ↔
    s.mayGrant g = true ∧ (List.range 4).findSome? (fun cls => s.classCandidate? g cls) = some c := by
  simp [State.decision?]

/-- A decision is for the candidate whose turn it is, with its size (R58 to R65). -/
theorem decision?_turn {s : State} {g : Nat} {c : Candidate} (h : s.decision? g = some c) :
    ∃ (e : Episode) (r : Responder), e.slot = c.slot ∧ e.roster[c.position]? = some r ∧ s.IsCandidate g e r ∧ e.cls ≤ 3 ∧
      c.size = grantSizeFor (s.policy g).grantSize e.e r ∧
      (∀ (p : Nat) (y : Responder), e.roster[p]? = some y → s.IsCandidate g e y → p ≠ c.position →
        RingBefore e.rosterCursor c.position p) ∧
      ∀ (x : Episode) (p : Nat) (y : Responder), x.roster[p]? = some y → s.IsCandidate g x y →
        e.cls ≤ x.cls ∧ (s.SlotOrder → x.cls = e.cls → x.slot ≠ e.slot → RingBefore (s.classCursor g e.cls) e.slot x.slot) := by
  obtain ⟨cls, hcls, hclass, hlowest⟩ := findSome?_first (fun a b : Nat => a < b) _ _ List.pairwise_lt_range c
    (decision?_eq_some.1 h).2
  obtain ⟨e, ⟨he, rfl⟩, hcand, hturn⟩ := classCandidate?_first hclass
  obtain ⟨r, hr, hat, hfirst⟩ := candidate?_first hcand
  have hsize := congrArg Candidate.size (candidateAt_eq_some.1 hat).2
  have hslot := congrArg Candidate.slot (candidateAt_eq_some.1 hat).2
  refine ⟨e, r, hslot.symm, hr, (isCandidate_iff c.position).2 ⟨he, by rw [hat]; rfl⟩,
    Nat.lt_succ_iff.1 (List.mem_range.1 hcls), hsize, fun p y hy hc => hfirst p y hy ((isCandidate_iff p).1 hc).2,
    fun x p y hy hc => ?_⟩
  obtain ⟨hx, hsome⟩ := (isCandidate_iff p).1 hc
  have hxcand := candidate?_isSome hy hsome
  refine ⟨?_, fun ho hcls => hturn x ⟨hx, hcls⟩ hxcand ho⟩
  by_contra hlower
  have := List.mem_range.1 hcls
  rcases hlowest x.cls (List.mem_range.2 (by omega)) (classCandidate?_isSome hx hxcand) with heq | hlt <;> omega

/-- A group with a candidate and the conditions for a decision has one ready (R58). -/
theorem decision?_isSome {s : State} {g p : Nat} {x : Episode} {y : Responder} (hmay : s.mayGrant g = true)
    (hy : x.roster[p]? = some y) (hc : s.IsCandidate g x y) (hcls : x.cls ≤ 3) : (s.decision? g).isSome = true := by
  obtain ⟨hx, hsome⟩ := (isCandidate_iff p).1 hc
  unfold State.decision?
  rw [if_pos hmay]
  exact findSome?_isSome _ _ x.cls (List.mem_range.2 (by omega)) (classCandidate?_isSome hx (candidate?_isSome hy hsome))

/-- What a grant records (R51, R63 to R66). -/
theorem makeGrant_some {s : State} {g : Nat} {c : Candidate} {e : Episode} {r : Responder} (he : s.ep? c.slot = some e)
    (hr : e.roster[c.position]? = some r) : s.makeGrant g c =
      { (s.updEp c.slot (fun x => x.recordGrant c.position c.size (s.policy g).grantTimeout)).updPacer g
          (fun p => { p with grantCredit := p.grantCredit - (c.size * (s.policy g).mtu : Nat) }) with
        sched := { s.sched with
          queue := s.sched.queue ++ [grantFrame e r c.size],
          classCursors := vupd s.sched.classCursors g (fun v => vupd v e.cls (fun _ => some c.slot)) } } := by
  unfold State.makeGrant
  simp only [he, hr]
  rfl

/-- Settles O27. -/
theorem grantDecisionsAreConditionedAndRecorded : Obligations.GrantDecisionsAreConditionedAndRecorded := by
  refine ⟨fun _ _ => rfl, fun s g => ⟨fun c hc => ⟨?_, ?_⟩, fun hmay hcand => ?_⟩, fun s g c e r he hr => ?_⟩
  · exact mayGrant_iff.1 (decision?_eq_some.1 hc).1
  · exact decision?_turn hc
  · obtain ⟨x, p, y, hy, hc, hcls⟩ := hcand
    exact decision?_isSome (mayGrant_iff.2 hmay) hy hc hcls
  · rw [makeGrant_some he hr, updEp_eq]
    rfl

/-! ### UNPACE -/

theorem Scheduler.join_eq (c : Scheduler) (f : GrantFrame) : c.join f =
    if c.backlog = [] ∧ c.queue.length < 512 then { c with queue := c.queue ++ [f] }
    else if c.backlog.length < 16384 then { c with backlog := c.backlog ++ [f] }
    else { c with notMade := bump32 c.notMade } := by
  unfold Scheduler.join
  simp only [Bool.and_eq_true, List.isEmpty_iff, decide_eq_true_eq, sat32_succ]

/-- The responders that UNPACE is produced for (R69). -/
theorem Responder.wantsUnpace_eq (r : Responder) :
    r.wantsUnpace = (r.state != .finished && r.state != .retired && !r.unpaced) := by
  simp only [Responder.wantsUnpace, Responder.isFinal, Bool.not_or, bne]

/-- A responder that UNPACE is produced for waits without grants (R34). -/
theorem Responder.unpace_of_wants {r : Responder} (h : r.wantsUnpace = true) :
    r.unpace = { r with unpaced := true, grants := [], state := .waiting } := by
  rw [Responder.wantsUnpace_eq] at h
  unfold Responder.unpace
  cases hs : r.state <;> simp_all

theorem Episode.unpace_adopted {e : Episode} (h : e.origin = .adopted) : e.unpace = e ∧ e.unpaceFrames = [] := by
  simp [Episode.unpace, Episode.unpaceFrames, h]

theorem Episode.unpaceFrames_sighted {e : Episode} (h : e.origin = .sighted) :
    e.unpaceFrames = (e.roster.filter Responder.wantsUnpace).map (unpaceFrame e) := by
  simp [Episode.unpaceFrames, h]

theorem Episode.unpace_eq (e : Episode) : e.unpace =
    if e.origin = .sighted then
      { e with roster := e.roster.map (fun r => if r.wantsUnpace then
          { r with unpaced := true, grants := [], state := .waiting } else r) }
    else e := by
  have hroster : (fun r : Responder => if r.wantsUnpace then r.unpace else r) = fun r => if r.wantsUnpace then
      { r with unpaced := true, grants := [], state := .waiting } else r :=
    funext (fun r => ite_congr rfl Responder.unpace_of_wants (fun _ => rfl))
  unfold Episode.unpace
  simp only [beq_iff_eq, hroster]

/-- UNPACE produced for the record of a slot (R69). -/
theorem unpaceEpisode_some {s : State} {slot : Nat} {e : Episode} (he : s.ep? slot = some e) : s.unpaceEpisode slot =
    { s.updEp slot Episode.unpace with sched := e.unpaceFrames.foldl Scheduler.join s.sched } := by
  unfold State.unpaceEpisode
  rw [he]

/-- Settles O28. -/
theorem unpaceIsProducedAndKeepsItsOrder : Obligations.UnpaceIsProducedAndKeepsItsOrder := by
  refine ⟨Scheduler.join_eq, fun c h rest hq => ⟨fun hb => ?_, fun b more hb => ?_⟩, fun s slot e he => ?_, fun _ _ => rfl⟩
  · simp [Scheduler.sendHead, hb, hq]
  · simp [Scheduler.sendHead, hb, hq]
  · dsimp only
    simp only [← Responder.wantsUnpace_eq]
    rw [unpaceEpisode_some he]
    refine ⟨fun ho => ?_, fun ho => ?_⟩
    · rw [Episode.unpaceFrames_sighted ho, updEp_eq]
      simp only [Episode.unpace_eq]
      rfl
    · obtain ⟨hrecord, hframes⟩ := Episode.unpace_adopted ho
      refine ⟨by rw [hframes]; rfl, ?_⟩
      exact (ep?_updEp he Episode.unpace_slot).trans (congrArg some hrecord)

end Sys2Proof.Machine
end

-- ==== Proofs: grant decisions and drain-outs in an event ====
section
/-! SUPPORT. What the turns of the Grant Scheduler and of the completed drain-outs leave in an event: no decision is ready and no
drain-out complete (R58, R132). Both need distinct slots. -/

namespace Sys2Proof.Machine

/-! ### Figures of the records -/

/-- A record with a figure that another table's records have too. -/
theorem exists_of_map {α : Type} {s t : State} {f : Episode → α} (h : t.table.episodes.map f = s.table.episodes.map f)
    {x : Episode} (hx : x ∈ t.table.episodes) : ∃ e ∈ s.table.episodes, f e = f x := by
  have hmem := List.mem_map_of_mem (f := f) hx
  rw [h] at hmem
  exact List.mem_map.1 hmem

theorem slotsDistinct_tableInvariant : TableInvariant State.SlotsDistinct where
  frame h ht := slotsDistinct_of_map (by rw [ht]) h
  distinct h := h
  empty h := by unfold State.SlotsDistinct; rw [h]; simp
  reviseAll h hf := slotsDistinct_of_map (updAll_map _ (fun e he => (hf e he).slot)) h
  charge _ _ h _ _ := slotsDistinct_of_map (updEp_map _ (fun _ => rfl)) h
  enter h _ _ _ _ _ := slotsDistinct_of_map (updEp_map _ (fun _ => rfl)) h
  place h hs _ _ _ _ _ := placeEpisode_slots h hs
  free slot h := freeEpisode_slots slot h

/-- A fold over the drain groups: what each turn brings about for its own group, and no turn undoes, holds of every group at the
end. -/
theorem foldl_each {α : Type} {P : State → Prop} {Q : State → α → Prop} {f : State → α → State} (hP : ∀ s a, P s → P (f s a))
    (hnew : ∀ s a, P s → Q (f s a) a) (hkeep : ∀ s a b, P s → Q s b → Q (f s a) b) (l : List α) {s : State} (hs : P s) :
    ∀ a ∈ l, Q (l.foldl f s) a := by
  induction l generalizing s with
  | nil => exact fun a ha => absurd ha List.not_mem_nil
  | cons x l ih =>
    intro a ha
    rcases List.mem_cons.1 ha with rfl | ha
    · have hstays := foldl_inv (fun t => P t ∧ Q t a) f (fun t b h => ⟨hP t b h.1, hkeep t b a h.1 h.2⟩) l
      exact (hstays _ ⟨hP s a hs, hnew s a hs⟩).2
    · exact ih (hP s x hs) a ha

theorem groups_of_setup {s t : State} (h : setupOf t.ports = setupOf s.ports) : t.groups = s.groups := by
  unfold State.groups
  simp only [role_of_setup h]

theorem mem_groups_lt {s : State} {g : Nat} (h : g ∈ s.groups) : g < 48 :=
  List.mem_range.1 (List.mem_filter.1 h).1

/-! ### Grant decisions -/

theorem readyDecisions_eq_nil {s : State} : s.readyDecisions = [] ↔ ∀ g ∈ s.groups, s.decision? g = none := by
  simp [State.readyDecisions]

/-- Where a decision is ready, one that is ready is taken (R58; which, is a free value). -/
theorem oneDecision_of_ready {s : State} (h : s.readyDecisions ≠ []) : ∃ n g c, s.decision? g = some c ∧
    s.oneDecision = ({ s with choices := n } : State).makeGrant g c := by
  have hready : ∀ d ∈ s.readyDecisions, s.decision? d.1 = some d.2 := by
    intro d hd
    obtain ⟨g, -, hg⟩ := List.mem_filterMap.1 hd
    obtain ⟨c, hc, rfl⟩ := Option.map_eq_some_iff.1 hg
    exact hc
  unfold State.oneDecision
  split
  · rename_i hnil
    exact absurd hnil h
  · rename_i g c hs
    exact ⟨s.choices, g, c, hready (g, c) (by simp [hs]), rfl⟩
  · rename_i first rest _ hs
    refine ⟨s.choices + 1, _, _, hready _ ?_, rfl⟩
    rw [hs, List.getD_eq_getElem _ _ (Nat.mod_lt _ (by simp))]
    exact List.getElem_mem _

/-- What every grant keeps to, a run of decisions keeps to. -/
theorem decisions_rel {R : State → State → Prop} (hrefl : ∀ s, R s s) (htrans : ∀ s t u, R s t → R t u → R s u)
    (hgrant : ∀ s n g c, R s (({ s with choices := n } : State).makeGrant g c)) (n : Nat) (s : State) :
    R s (State.decisions n s) := by
  induction n generalizing s with
  | zero => exact hrefl s
  | succ n ih =>
    unfold State.decisions
    split
    · exact hrefl s
    · rename_i hready
      obtain ⟨m, g, c, -, heq⟩ := oneDecision_of_ready (by simpa using hready)
      exact htrans _ _ _ (heq ▸ hgrant s m g c) (ih s.oneDecision)

theorem decisions_of_none {s : State} (h : s.readyDecisions = []) (n : Nat) : State.decisions n s = s := by
  cases n with
  | zero => rfl
  | succ n => simp [State.decisions, h]

/-- A decision puts one frame into the grant frame queue (R66). -/
theorem oneDecision_queue {s : State} (hd : s.SlotsDistinct) (h : s.readyDecisions ≠ []) :
    s.oneDecision.sched.queue.length = s.sched.queue.length + 1 := by
  obtain ⟨n, g, c, hc, heq⟩ := oneDecision_of_ready h
  obtain ⟨e, he, hslot, r, hr, -⟩ := decision?_eligible hc
  have hfound : ({ s with choices := n } : State).ep? c.slot = some e := hslot ▸ ep?_of_mem hd he
  rw [heq, makeGrant_some hfound hr]
  simp

/-- A run of decisions ends when none is ready, the queue's places being enough for it (R58, R68). -/
theorem decisions_exhaust (n : Nat) {s : State} (hd : s.SlotsDistinct) (h : 512 ≤ s.sched.queue.length + n) :
    (State.decisions n s).readyDecisions = [] := by
  induction n generalizing s with
  | zero =>
    refine readyDecisions_eq_nil.2 (fun g _ => ?_)
    by_contra hready
    obtain ⟨c, hc⟩ := Option.ne_none_iff_exists'.1 hready
    have hplace : s.sched.queue.length < 512 := decision?_place hc
    omega
  | succ n ih =>
    unfold State.decisions
    split
    · rename_i hnone
      exact List.isEmpty_iff.1 hnone
    · rename_i hready
      have hqueue := oneDecision_queue hd (by simpa using hready)
      exact ih (slotsDistinct_tableInvariant.oneDecision s hd) (by omega)

/-- A grant changes nothing of a record but its roster and roster cursor (R51). -/
theorem makeGrant_map {α : Type} (f : Episode → α) (hf : ∀ e position size timeout, f (e.recordGrant position size timeout) = f e)
    (s : State) (g : Nat) (c : Candidate) : (s.makeGrant g c).table.episodes.map f = s.table.episodes.map f := by
  unfold State.makeGrant
  split
  · rfl
  · split
    · rfl
    · exact updEp_map f (fun e => hf e _ _ _)

theorem decisions_map {α : Type} (f : Episode → α) (hf : ∀ e position size timeout, f (e.recordGrant position size timeout) = f e)
    (n : Nat) (s : State) : (State.decisions n s).table.episodes.map f = s.table.episodes.map f :=
  decisions_rel (R := fun s t => t.table.episodes.map f = s.table.episodes.map f) (fun _ => rfl) (fun _ _ _ h k => k.trans h)
    (fun s n => makeGrant_map f hf { s with choices := n }) n s

theorem makeGrant_releaseCredit (s : State) (g p : Nat) (c : Candidate) :
    ((s.makeGrant g c).pacer p).releaseCredit = (s.pacer p).releaseCredit := by
  unfold State.makeGrant
  split
  · rfl
  · split
    · rfl
    · refine (congrArg Pacer.releaseCredit (pacer_updPacer _ g p _)).trans ?_
      split <;> rfl

/-! ### Drain-outs -/

/-- What the completion condition of a drain-out reads of a record (R132). -/
def Episode.ending (e : Episode) : Key × EpState × Option Countdown := (e.key, e.state, e.linger)

theorem drainComplete_congr {s t : State} (hports : t.ports = s.ports)
    (hrecords : t.table.episodes.map Episode.ending = s.table.episodes.map Episode.ending) (g : Nat) :
    t.drainComplete g = s.drainComplete g := by
  have hclosed (u : State) : (u.groupEpisodes g).all Episode.isClosed = (u.table.episodes.map Episode.ending).all
      (fun v => !(v.1.group == g) || (v.2.1 == .linger && v.2.2.isSome)) := by
    rw [State.groupEpisodes, List.all_filter, List.all_map]
    rfl
  unfold State.drainComplete
  rw [hclosed, hclosed, hrecords]
  unfold State.allStopped State.members State.port
  rw [hports]

theorem completeDrain_of_open {s : State} {g : Nat} (h : s.drainComplete g = false) : s.completeDrain g = s := by
  rw [completeDrain_eq, h]
  rfl

/-- A completed drain-out leaves the port records of the other groups, and every stopped-seen flag (R132). -/
theorem completeDrain_port (s : State) (g q : Nat) :
    (g ≠ q → (s.completeDrain g).port q = s.port q) ∧ ((s.completeDrain g).port q).stoppedSeen = (s.port q).stoppedSeen := by
  cases h : s.drainComplete g with
  | false =>
    rw [completeDrain_of_open h]
    exact ⟨fun _ => rfl, rfl⟩
  | true =>
    have hport : (s.completeDrain g).port q = if g = q ∧ q < 48 then (s.port q).drained else s.port q := by
      have hfreed : (s.freeAll (s.groupSlots g)).port q = s.port q := by
        unfold State.port
        rw [(freeAll_keeps s _).1]
      rw [completeDrain_eq, if_pos h, ← hfreed, ← port_updPort]
      unfold State.port
      simp only [raisePortState_keeps]
    rw [hport]
    refine ⟨fun hne => if_neg (fun hq => hne hq.1), ?_⟩
    split <;> rfl

/-- With distinct slots, a completed drain-out frees no record of another group (R16). -/
theorem completeDrain_groupEpisodes {s : State} {g q : Nat} (hd : s.SlotsDistinct) (hne : g ≠ q) :
    (s.completeDrain g).groupEpisodes q = s.groupEpisodes q := by
  cases h : s.drainComplete g with
  | false => rw [completeDrain_of_open h]
  | true =>
    have hepisodes : (s.completeDrain g).table.episodes = (s.freeAll (s.groupSlots g)).table.episodes := by
      rw [completeDrain_eq, if_pos h]
      simp only [raisePortState_keeps, updPort_keeps]
    rw [State.groupEpisodes, State.groupEpisodes, hepisodes, freeAll_episodes, List.filter_filter]
    refine List.filter_congr (fun e he => ?_)
    have hslot := slot_mem_groupSlots (g := g) hd he
    by_cases hq : e.key.group = q
    · have hout : e.slot ∉ s.groupSlots g := fun hin => hne ((hslot.1 hin).symm.trans hq)
      simp [hq, hout]
    · simp [hq]

theorem completeDrain_done {s : State} {g : Nat} (hg : g < 48) : (s.completeDrain g).drainComplete g = false := by
  cases h : s.drainComplete g with
  | false => rw [completeDrain_of_open h, h]
  | true =>
    unfold State.drainComplete
    rw [(completeDrain_complete hg h).1]
    rfl

theorem completeDrain_other {s : State} {g q : Nat} (hd : s.SlotsDistinct) (hne : g ≠ q) :
    (s.completeDrain g).drainComplete q = s.drainComplete q := by
  unfold State.drainComplete State.allStopped State.members
  simp only [(completeDrain_port s g _).1 hne, (completeDrain_port s g _).2, completeDrain_groupEpisodes hd hne]

/-- After the completions no drain-out is complete (R132). -/
theorem completeDrains_done {s : State} (hd : s.SlotsDistinct) : ∀ g ∈ s.groups, s.completeDrains.drainComplete g = false := by
  have hall := foldl_each (P := State.SlotsDistinct) (Q := fun t g => g < 48 → t.drainComplete g = false)
    slotsDistinct_tableInvariant.completeDrain (fun t g _ hg => completeDrain_done hg) (fun t g q ht hq hlt => ?_) s.groups hd
  · exact fun g hg => hall g hg (mem_groups_lt hg)
  · by_cases hne : g = q
    · subst hne
      exact completeDrain_done hlt
    · rw [completeDrain_other ht hne]
      exact hq hlt

end Sys2Proof.Machine
end

-- ==== Proofs: releases in an event ====
section
/-! SUPPORT. The release decisions of an event leave none ready, and the turns after them bring none back (`State.Restrains`; R107,
R108). -/

namespace Sys2Proof.Machine

/-- What a release decision reads of a record (R107). -/
def Episode.releasing (e : Episode) : Key × Nat × EpState × Bool × List HeldPacket :=
  (e.key, e.cls, e.state, e.halted, e.holdQueue)

/-- No release is ready for a group: a condition other than the episode fails, or no episode has a packet to release (R107). -/
theorem releaseChoice?_eq_none {s : State} {g : Nat} : s.releaseChoice? g = none ↔ (s.mayRelease g = true →
    ∀ e ∈ s.table.episodes, e.key.group = g → e.cls < 4 → e.releasable = false) := by
  have hclass (cls : Nat) : (ringAfter (fun e : Episode => e.slot) (vget (s.pacer g).cursors cls none)
      ((s.groupEpisodes g).filter (fun e => e.releasable && e.cls == cls))).head? = none ↔
      ∀ e ∈ s.table.episodes, e.key.group = g → e.cls = cls → e.releasable = false := by
    rw [List.head?_eq_none_iff, List.eq_nil_iff_forall_not_mem]
    simp only [mem_ringAfter, List.mem_filter, mem_groupEpisodes, Bool.and_eq_true, beq_iff_eq, not_and, and_imp]
    exact forall₃_congr (fun e _ _ => ⟨fun h hcls => by simpa using fun hr => h hr hcls, fun h hr hcls => by simp [h hcls] at hr⟩)
  unfold State.releaseChoice?
  split
  · rename_i hmay
    simp only [List.findSome?_eq_none_iff, List.mem_range, hclass, hmay, true_imp_iff]
    exact ⟨fun h e he hg hcls => h e.cls hcls e he hg rfl, fun h cls hcls e he hg heq => h e he hg (heq ▸ hcls)⟩
  · rename_i hmay
    exact iff_of_true rfl (fun h => absurd h hmay)

/-- The episode a release decision chooses has a packet to release. -/
theorem releaseChoice?_releasable {s : State} {g : Nat} {e : Episode} (h : s.releaseChoice? g = some e) : e.releasable = true := by
  unfold State.releaseChoice? at h
  split at h
  · obtain ⟨cls, -, hcls⟩ := List.exists_of_findSome?_eq_some h
    have hmem := (mem_ringAfter _ _ _ _).1 (List.mem_of_head? hcls)
    exact (Bool.and_eq_true_iff.1 (List.mem_filter.1 hmem).2).1
  · cases h

/-- What a release decision does (R88, R107, R108). -/
theorem beginRelease_of_choice {s : State} {g : Nat} {e : Episode} (h : s.releaseChoice? g = some e) :
    ∃ head : HeldPacket, s.beginRelease g =
      ((s.updEp e.slot (fun x => { x with holdQueue := x.holdQueue.drop 1, inFlight := true })).updPacer g (fun p =>
        { p with releaseCredit := p.releaseCredit - (head.length : Nat),
                 cursors := vupd p.cursors e.cls (fun _ => some e.slot) })).setRelease g (some ⟨head, false⟩) := by
  have hqueue : e.holdQueue ≠ [] := by
    have := releaseChoice?_releasable h
    simp only [Episode.releasable, Bool.and_eq_true, Bool.not_eq_true', List.isEmpty_eq_false_iff] at this
    exact this.2
  obtain ⟨head, rest, hhead⟩ := List.exists_cons_of_ne_nil hqueue
  refine ⟨head, ?_⟩
  unfold State.beginRelease
  simp only [h, hhead]

theorem release?_setRelease (s : State) (g q : Nat) (r : Option Release) :
    (s.setRelease g r).release? q = if g = q ∧ q < 48 then r else s.release? q := vget_vupd _ _ _ _ _

/-- A change after which no release is ready that was not ready before. -/
structure State.Restrains (s t : State) : Prop where
  may : ∀ g, t.mayRelease g = true → s.mayRelease g = true
  records : ∀ x ∈ t.table.episodes, ∃ e ∈ s.table.episodes, e.key = x.key ∧ e.cls = x.cls ∧
    (x.releasable = true → e.releasable = true)

theorem State.Restrains.refl (s : State) : s.Restrains s := ⟨fun _ h => h, fun x hx => ⟨x, hx, rfl, rfl, id⟩⟩

theorem State.Restrains.trans {s t u : State} (h : s.Restrains t) (k : t.Restrains u) : s.Restrains u := by
  refine ⟨fun g hg => h.may g (k.may g hg), fun x hx => ?_⟩
  obtain ⟨y, hy, hykey, hycls, hyx⟩ := k.records x hx
  obtain ⟨e, he, hkey, hcls, hey⟩ := h.records y hy
  exact ⟨e, he, hkey.trans hykey, hcls.trans hycls, fun hr => hey (hyx hr)⟩

theorem State.Restrains.noRelease {s t : State} (h : s.Restrains t) {g : Nat} (hs : s.releaseChoice? g = none) :
    t.releaseChoice? g = none := by
  refine releaseChoice?_eq_none.2 (fun hmay x hx hg hcls => ?_)
  obtain ⟨e, he, hkey, hecls, hr⟩ := h.records x hx
  have hidle := releaseChoice?_eq_none.1 hs (h.may g hmay) e he (by rw [hkey, hg]) (hecls ▸ hcls)
  exact Bool.eq_false_iff.2 (fun hx => Bool.eq_false_iff.1 hidle (hr hx))

theorem mayRelease_iff {s : State} {g : Nat} : s.mayRelease g = true ↔ 0 < (s.pacer g).releaseCredit ∧ s.gateOpen g = true ∧
    (s.port g).suspended = false ∧ s.linkUp = true ∧ s.release? g = none := by
  simp [State.mayRelease, and_assoc]

theorem gateOpen_congr {s t : State} (hports : t.ports = s.ports) (hfull : t.link.egressFull = s.link.egressFull) (g : Nat) :
    t.gateOpen g = s.gateOpen g := by
  unfold State.gateOpen State.members State.port
  rw [hports, hfull]

theorem mayRelease_of_le {s t : State} {g : Nat} (hports : t.ports = s.ports) (hstate : t.link.state = s.link.state)
    (hfull : t.link.egressFull = s.link.egressFull) (hcredit : (t.pacer g).releaseCredit ≤ (s.pacer g).releaseCredit)
    (hrelease : t.release? g = none → s.release? g = none) (h : t.mayRelease g = true) : s.mayRelease g = true := by
  obtain ⟨hc, hgate, hsuspended, hup, hr⟩ := mayRelease_iff.1 h
  refine mayRelease_iff.2 ⟨lt_of_lt_of_le hc hcredit, ?_, ?_, ?_, hrelease hr⟩
  · rw [← gateOpen_congr hports hfull, hgate]
  · unfold State.port at hsuspended ⊢
    rw [← hports, hsuspended]
  · unfold State.linkUp at hup ⊢
    rw [← hstate, hup]

/-- A change that leaves the records' packets, the pacers' release credits and the releases in flight brings no release. -/
theorem State.restrains_of_eq {s t : State} (hports : t.ports = s.ports) (hstate : t.link.state = s.link.state)
    (hfull : t.link.egressFull = s.link.egressFull) (hcredit : ∀ g, (t.pacer g).releaseCredit = (s.pacer g).releaseCredit)
    (hrelease : ∀ g, t.release? g = none → s.release? g = none)
    (hrecords : t.table.episodes.map Episode.releasing = s.table.episodes.map Episode.releasing) : s.Restrains t := by
  refine ⟨fun g => mayRelease_of_le hports hstate hfull (hcredit g).le (hrelease g), fun x hx => ?_⟩
  obtain ⟨e, he, heq⟩ := exists_of_map hrecords hx
  simp only [Episode.releasing, Prod.mk.injEq] at heq
  obtain ⟨hkey, hcls, hst, hhalted, hqueue⟩ := heq
  refine ⟨e, he, hkey, hcls, fun hr => ?_⟩
  rwa [Episode.releasable, hst, hhalted, hqueue]

theorem beginRelease_restrains (s : State) (g : Nat) : s.Restrains (s.beginRelease g) := by
  cases hchoice : s.releaseChoice? g with
  | none =>
    have hsame : s.beginRelease g = s := by simp [State.beginRelease, hchoice]
    rw [hsame]
    exact State.Restrains.refl s
  | some e =>
    obtain ⟨head, heq⟩ := beginRelease_of_choice hchoice
    rw [heq]
    refine ⟨fun q => mayRelease_of_le (by simp) (by simp) (by simp) ?_ ?_, fun x hx => ?_⟩
    · refine le_of_eq_of_le (congrArg Pacer.releaseCredit (pacer_updPacer _ g q _)) ?_
      split
      · exact Int.sub_le_self _ (Int.natCast_nonneg _)
      · exact le_rfl
    · rw [release?_setRelease]
      split
      · exact fun h => nomatch h
      · exact id
    · obtain ⟨y, hy, rfl⟩ := List.mem_map.1 hx
      refine ⟨y, hy, ?_⟩
      split
      · refine ⟨rfl, rfl, ?_⟩
        cases hq : y.holdQueue <;> simp_all [Episode.releasable]
      · exact ⟨rfl, rfl, id⟩

/-- A group's own turn leaves it no release that is ready (R107). -/
theorem beginRelease_done (s : State) {g : Nat} (hg : g < 48) : (s.beginRelease g).releaseChoice? g = none := by
  cases hchoice : s.releaseChoice? g with
  | none => exact (beginRelease_restrains s g).noRelease hchoice
  | some e =>
    obtain ⟨head, heq⟩ := beginRelease_of_choice hchoice
    refine releaseChoice?_eq_none.2 (fun hmay => ?_)
    obtain ⟨-, -, -, -, hfree⟩ := mayRelease_iff.1 hmay
    rw [heq, release?_setRelease, if_pos ⟨rfl, hg⟩] at hfree
    cases hfree

/-- After the release decisions none is ready (R107). -/
theorem beginReleases_done (s : State) : ∀ g ∈ s.groups, s.beginReleases.releaseChoice? g = none := by
  have hall := foldl_each (P := fun _ => True) (Q := fun t g => g < 48 → t.releaseChoice? g = none) (f := State.beginRelease)
    (fun _ _ h => h) (fun t g _ hg => beginRelease_done t hg)
    (fun t g q _ hq hlt => (beginRelease_restrains t g).noRelease (hq hlt)) s.groups (s := s) trivial
  exact fun g hg => hall g hg (mem_groups_lt hg)

theorem choices_restrains (s : State) (n : Nat) : s.Restrains { s with choices := n } :=
  State.restrains_of_eq rfl rfl rfl (fun _ => rfl) (fun _ => id) rfl

theorem makeGrant_restrains (s : State) (g : Nat) (c : Candidate) : s.Restrains (s.makeGrant g c) :=
  State.restrains_of_eq (by simp) (by simp) (by simp) (fun p => makeGrant_releaseCredit s g p c)
    (by simp [State.release?]) (makeGrant_map _ (fun _ _ _ _ => rfl) s g c)

theorem decisions_restrains (n : Nat) (s : State) : s.Restrains (State.decisions n s) :=
  decisions_rel State.Restrains.refl (fun _ _ _ => State.Restrains.trans)
    (fun s m g c => (choices_restrains s m).trans (makeGrant_restrains _ g c)) n s

theorem beginItem_restrains (s : State) : s.Restrains s.beginItem :=
  State.restrains_of_eq (by simp) (by simp) (by simp) (by simp [State.pacer]) (by simp [State.release?]) (by simp)

theorem grantDram_release? (s : State) (r : Requester) (g : Nat) (h : (s.grantDram r).release? g = none) :
    s.release? g = none := by
  cases r with
  | writer => simpa [State.release?, State.grantDram] using h
  | capture => simpa [State.release?, State.grantDram] using h
  | reader =>
    simp only [State.grantDram, State.grantRead] at h
    split at h
    · exact h
    · rename_i q _
      have hset := (release?_setRelease s q g _).symm.trans h
      split at hset
      · rename_i hq
        exact hq.1 ▸ Option.map_eq_none_iff.1 hset
      · exact hset

theorem grantDram_restrains (s : State) (r : Requester) : s.Restrains (s.grantDram r) :=
  State.restrains_of_eq (by simp) (by simp) (by simp) (by simp [State.pacer]) (grantDram_release? s r) (by simp)

theorem arbitrate_restrains (n : Nat) (s : State) : s.Restrains (State.arbitrate n s) := by
  induction n generalizing s with
  | zero => exact State.Restrains.refl s
  | succ n ih =>
    unfold State.arbitrate
    split
    · split
      · exact State.Restrains.refl s
      · exact (grantDram_restrains s _).trans (ih _)
    · exact State.Restrains.refl s

theorem storeArbiter_restrains (s : State) (wasIdle : Bool) : s.Restrains (s.storeArbiter wasIdle) := by
  unfold State.storeArbiter
  dsimp only
  split
  · exact ((choices_restrains s _).trans (grantDram_restrains _ _)).trans (arbitrate_restrains 2 _)
  · exact arbitrate_restrains 2 s

end Sys2Proof.Machine
end

-- ==== Proofs: the arbiters in an event ====
section
/-! SUPPORT. The store arbiter leaves nobody waiting for an idle DRAM, and the return arbiter begins nothing only where the line is
not free or nothing waits to be sent (R84, R85, R153). -/

namespace Sys2Proof.Machine

/-! ### The store arbiter -/

theorem requesters_eq_nil {s : State} : s.requesters = [] ↔
    s.writerWaits = false ∧ s.readerGroup? = none ∧ s.captureWaiting? = none := by
  simp [State.requesters]

/-- Who waits for the DRAM is read from the store, the CAPTURE that the engine holds and the hold queues. -/
theorem requesters_congr {s t : State} (hstore : t.store = s.store) (hengine : t.mgmt.engine = s.mgmt.engine)
    (hrecords : t.table.episodes.map (fun e => e.holdQueue) = s.table.episodes.map (fun e => e.holdQueue)) :
    t.requesters = s.requesters := by
  have hfree : t.freeCells = s.freeCells := by
    unfold State.freeCells State.packetsWithCells
    rw [hstore, hrecords]
  have hwriter : t.writerWaits = s.writerWaits := by
    unfold State.writerWaits
    rw [hstore, hfree]
  have hreader : t.readerGroup? = s.readerGroup? := by
    unfold State.readerGroup? State.releasesWaiting State.release?
    rw [hstore]
  have hcapture : t.captureWaiting? = s.captureWaiting? := by
    unfold State.captureWaiting?
    rw [hengine]
  unfold State.requesters
  rw [hwriter, hreader, hcapture]

/-- Whether a requester waits for the DRAM (R80, R86, R87). -/
def State.waits (s : State) : Requester → Bool
  | .writer => s.writerWaits
  | .reader => s.readerGroup?.isSome
  | .capture => s.captureWaiting?.isSome

/-- The arbiter picks a requester that waits (R85). -/
theorem arbiterPick_waits {s : State} {r : Requester} (h : s.arbiterPick = some r) : s.waits r = true := by
  unfold State.arbiterPick arbiterChoice at h
  (repeat' split at h) <;> cases h <;> simp_all [State.waits]

/-- The arbiter picks nobody only where nobody waits (R85). -/
theorem arbiterPick_none {s : State} (h : s.arbiterPick = none) : s.requesters = [] := by
  unfold State.arbiterPick arbiterChoice at h
  (repeat' split at h) <;> simp_all [State.requesters]

/-- A grant to a requester that waits occupies the DRAM, or answers the CAPTURE that waited (R85 to R87, R96). -/
theorem grantDram_busy {s : State} {r : Requester} (h : s.waits r = true) :
    (s.grantDram r).dramIdle = false ∨ (s.grantDram r).captureWaiting? = none ∧ r = .capture := by
  cases r with
  | writer =>
    cases hlist : s.store.writeList with
    | nil => simp [State.waits, State.writerWaits, hlist] at h
    | cons p rest => simp [State.grantDram, State.grantWrite, hlist, State.dramIdle]
  | reader =>
    obtain ⟨g, hg⟩ := Option.isSome_iff_exists.1 h
    simp [State.grantDram, State.grantRead, hg, State.dramIdle]
  | capture =>
    obtain ⟨⟨tag, handle⟩, hwaits⟩ := Option.isSome_iff_exists.1 h
    simp only [State.grantDram, State.grantCapture, hwaits]
    split
    · exact Or.inr ⟨rfl, trivial⟩
    · split
      · exact Or.inr ⟨rfl, trivial⟩
      · exact Or.inl rfl

/-- A busy DRAM is handed to nobody (R84). -/
theorem arbitrate_of_busy {s : State} (h : s.dramIdle = false) (n : Nat) : State.arbitrate n s = s := by
  cases n with
  | zero => rfl
  | succ n => simp [State.arbitrate, h]

/-- Nobody waits for an idle DRAM (R84). -/
def State.DramServed (s : State) : Prop := s.dramIdle = true → s.requesters = []

theorem dramServed_of_busy {s : State} (h : s.dramIdle = false) : s.DramServed :=
  fun hidle => absurd hidle (by simp [h])

/-- Where no CAPTURE waits, one grant serves the DRAM. -/
theorem arbitrate_served_of_noCapture {s : State} (h : s.captureWaiting? = none) (n : Nat) :
    (State.arbitrate (n + 1) s).DramServed := by
  unfold State.arbitrate
  split
  · split
    · rename_i hnone
      exact fun _ => arbiterPick_none hnone
    · rename_i r hr
      rcases grantDram_busy (arbiterPick_waits hr) with hbusy | ⟨-, rfl⟩
      · rw [arbitrate_of_busy hbusy]
        exact dramServed_of_busy hbusy
      · have hwaits := arbiterPick_waits hr
        simp [State.waits, h] at hwaits
  · rename_i hbusy
    exact dramServed_of_busy (by simpa using hbusy)

/-- Two grants serve the DRAM in any case: only one that answers a CAPTURE leaves it idle (R87). -/
theorem arbitrate_served (s : State) (n : Nat) : (State.arbitrate (n + 2) s).DramServed := by
  unfold State.arbitrate
  split
  · split
    · rename_i hnone
      exact fun _ => arbiterPick_none hnone
    · rename_i r hr
      rcases grantDram_busy (arbiterPick_waits hr) with hbusy | ⟨hcapture, -⟩
      · rw [arbitrate_of_busy hbusy]
        exact dramServed_of_busy hbusy
      · exact arbitrate_served_of_noCapture hcapture n
  · rename_i hbusy
    exact dramServed_of_busy (by simpa using hbusy)

theorem storeArbiter_served (s : State) (wasIdle : Bool) : (s.storeArbiter wasIdle).DramServed := by
  unfold State.storeArbiter
  dsimp only
  split
  · exact arbitrate_served _ 0
  · exact arbitrate_served _ 0

theorem State.DramServed.congr {s t : State} (h : s.DramServed) (hstore : t.store = s.store)
    (hengine : t.mgmt.engine = s.mgmt.engine)
    (hrecords : t.table.episodes.map (fun e => e.holdQueue) = s.table.episodes.map (fun e => e.holdQueue)) : t.DramServed := by
  intro hidle
  rw [requesters_congr hstore hengine hrecords]
  refine h ?_
  unfold State.dramIdle at hidle ⊢
  rwa [← hstore]

theorem decisions_served {s : State} (h : s.DramServed) (n : Nat) : (State.decisions n s).DramServed :=
  h.congr (by simp) (by simp) (decisions_map _ (fun _ _ _ _ => rfl) n s)

/-! ### The return arbiter -/

/-- The link is in UP, no hold is set, and nothing is being sent (R153, R154). -/
def State.LineFree (s : State) : Prop := s.link.state = .up ∧ s.link.hold = false ∧ s.link.sending = none

theorem nextItem?_eq_none {s : State} : s.nextItem? = none ↔ s.link.control = [] ∧ s.sched.queue = [] ∧ s.link.stubs = [] ∧
    s.link.passList = [] ∧ s.store.released = [] := by
  unfold State.nextItem?
  (repeat' split) <;> simp_all

theorem beginItem_of_busy {s : State} (h : ¬ s.LineFree) : s.beginItem = s := by
  unfold State.beginItem
  refine if_neg (fun hfree => h ?_)
  simp only [State.linkUp, Bool.and_eq_true, beq_iff_eq, Option.isNone_iff_eq_none, Bool.not_eq_true'] at hfree
  exact ⟨hfree.1.1, hfree.2, hfree.1.2⟩

theorem beginItem_of_free {s : State} (h : s.LineFree) : (s.nextItem? = none → s.beginItem = s) ∧
    ∀ item, s.nextItem? = some item → s.beginItem = (s.beginItemOf item).emit (.item item) := by
  obtain ⟨hup, hhold, hsending⟩ := h
  unfold State.beginItem State.linkUp
  rw [if_pos (by simp [hup, hhold, hsending])]
  exact ⟨fun hnone => by rw [hnone], fun item hitem => by rw [hitem]⟩

/-- A line that stays free has nothing to send, and nothing was begun (R153). -/
theorem beginItem_lineFree {s : State} (h : s.beginItem.LineFree) : s.nextItem? = none ∧ s.beginItem = s := by
  by_cases hfree : s.LineFree
  · cases hnext : s.nextItem? with
    | none => exact ⟨rfl, (beginItem_of_free hfree).1 hnext⟩
    | some item =>
      have hsending : s.beginItem.link.sending = some item := by
        rw [(beginItem_of_free hfree).2 item hnext]
        cases item <;> rfl
      exact absurd h.2.2 (by simp [hsending])
  · rw [beginItem_of_busy hfree] at h
    exact absurd h hfree

/-- Where no released packet waits for the free line, the item begun comes from elsewhere than the store (R153). -/
theorem beginItem_store {s : State} (h : s.LineFree → s.store.released = []) : s.beginItem.store = s.store := by
  by_cases hfree : s.LineFree
  · cases hnext : s.nextItem? with
    | none => rw [(beginItem_of_free hfree).1 hnext]
    | some item =>
      rw [(beginItem_of_free hfree).2 item hnext]
      cases item with
      | released p =>
        have hnone : s.nextItem? ≠ some (.released p) := by
          unfold State.nextItem?
          rw [h hfree]
          (repeat' split) <;> simp
        exact absurd hnext hnone
      | _ => rfl
  · rw [beginItem_of_busy hfree]

end Sys2Proof.Machine
end

-- ==== Proofs: what follows an event ====
section
/-! What follows an event leaves nothing ready undone, and changes none of the figures that the statement names: the turns of the
blocks in their order (R58, R84, R107, R132, R153), the reply places and the transmitter (R172, R180). -/

namespace Sys2Proof.Machine

/-! ### The turns of one event -/

/-- The turns of the blocks, in the model's order (log entry 7). -/
theorem consequences_eq (s : State) (wasIdle : Bool) : s.consequences wasIdle =
    State.decisions 512 (State.decisions 512 (s.completeDrains.beginItem.beginReleases.storeArbiter wasIdle)).beginItem := rfl

/-- Nothing that needs no distinct slots is left undone: no requester waits for an idle DRAM (R84), and no release is ready
(R107). -/
structure State.Settled (s : State) : Prop where
  dram : s.DramServed
  releases : ∀ g ∈ s.groups, s.releaseChoice? g = none

/-- Nothing is left undone that a second record in a slot could bring back: no grant decision is ready (R58), no drain-out
complete (R132), and a free line has nothing to send (R153). -/
structure State.SettledSlots (s : State) : Prop where
  grants : s.readyDecisions = []
  drains : ∀ g ∈ s.groups, s.drainComplete g = false
  line : s.LineFree → s.nextItem? = none

theorem consequences_settled (s : State) (wasIdle : Bool) : (s.consequences wasIdle).Settled := by
  rw [consequences_eq]
  generalize s.completeDrains = drained
  generalize hbegun : drained.beginItem = begun
  generalize harbited : begun.beginReleases.storeArbiter wasIdle = arbited
  have hserved : arbited.DramServed := harbited ▸ storeArbiter_served _ _
  have hrestrains : begun.beginReleases.Restrains (State.decisions 512 (State.decisions 512 arbited).beginItem) :=
    ((harbited ▸ storeArbiter_restrains _ wasIdle).trans (decisions_restrains 512 arbited)).trans
      ((beginItem_restrains _).trans (decisions_restrains 512 _))
  have hlink : (State.decisions 512 arbited).link = begun.link := by simp [← harbited]
  have hreleased : (State.decisions 512 arbited).store.released = begun.store.released := by simp [← harbited]
  have hstore : (State.decisions 512 arbited).beginItem.store = (State.decisions 512 arbited).store := by
    refine beginItem_store (fun hfree => ?_)
    have hidle : begun.LineFree := by
      unfold State.LineFree at hfree ⊢
      rwa [← hlink]
    obtain ⟨hnone, hsame⟩ := beginItem_lineFree (hbegun ▸ hidle : drained.beginItem.LineFree)
    rw [hreleased, ← hbegun, hsame]
    exact (nextItem?_eq_none.1 hnone).2.2.2.2
  refine ⟨decisions_served ((decisions_served hserved 512).congr hstore (by simp) (by simp)) 512, fun g hg => ?_⟩
  have hgroups : (State.decisions 512 (State.decisions 512 arbited).beginItem).groups = begun.groups :=
    groups_of_setup (by simp [← harbited])
  exact hrestrains.noRelease (beginReleases_done begun g (hgroups ▸ hg))

/-- The release decisions change nothing of a record but its hold queue and in-flight mark (R88). -/
theorem beginReleases_map {α : Type} (f : Episode → α)
    (hf : ∀ e : Episode, f { e with holdQueue := e.holdQueue.drop 1, inFlight := true } = f e) (s : State) :
    s.beginReleases.table.episodes.map f = s.table.episodes.map f := by
  refine foldl_keeps (fun t : State => t.table.episodes.map f) State.beginRelease (fun t g => ?_) s.groups s
  cases hchoice : t.releaseChoice? g with
  | none => simp [State.beginRelease, hchoice]
  | some e =>
    obtain ⟨head, heq⟩ := beginRelease_of_choice hchoice
    simp only [heq, setRelease_keeps, updPacer_keeps]
    exact updEp_map f hf

theorem consequences_settledSlots {s : State} (hd : s.SlotsDistinct) (wasIdle : Bool) :
    (s.consequences wasIdle).SettledSlots := by
  have hdone := completeDrains_done hd
  have hdrained : s.completeDrains.SlotsDistinct := foldl_inv _ _ slotsDistinct_tableInvariant.completeDrain _ _ hd
  have hgroups : s.completeDrains.groups = s.groups := groups_of_setup (by simp)
  rw [consequences_eq]
  generalize s.completeDrains = drained at *
  generalize harbited : drained.beginItem.beginReleases.storeArbiter wasIdle = arbited
  have hmap {α : Type} (f : Episode → α)
      (hf : ∀ e : Episode, f { e with holdQueue := e.holdQueue.drop 1, inFlight := true } = f e) :
      arbited.table.episodes.map f = drained.table.episodes.map f := by
    simp only [← harbited, storeArbiter_keeps, beginReleases_map f hf, beginItem_keeps]
  have harbitedSlots : arbited.SlotsDistinct := slotsDistinct_of_map (hmap _ (fun _ => rfl)) hdrained
  have hdecided : (State.decisions 512 arbited).readyDecisions = [] := decisions_exhaust 512 harbitedSlots (by omega)
  have hbegunSlots : (State.decisions 512 arbited).beginItem.SlotsDistinct :=
    slotsDistinct_tableInvariant.frame (slotsDistinct_tableInvariant.decisions 512 _ harbitedSlots) (by simp)
  refine ⟨decisions_exhaust 512 hbegunSlots (by omega), fun g hg => ?_, fun hfree => ?_⟩
  · have hports : (State.decisions 512 (State.decisions 512 arbited).beginItem).ports = drained.ports := by simp [← harbited]
    have hending : (State.decisions 512 (State.decisions 512 arbited).beginItem).table.episodes.map Episode.ending =
        drained.table.episodes.map Episode.ending := by
      rw [decisions_map _ (fun _ _ _ _ => rfl), ← hmap _ (fun _ => rfl), ← decisions_map _ (fun _ _ _ _ => rfl) 512 arbited]
      simp only [beginItem_keeps]
    rw [drainComplete_congr hports hending]
    exact hdone g (hgroups ▸ groups_of_setup (congrArg setupOf hports) ▸ hg)
  · have hbegunFree : (State.decisions 512 arbited).beginItem.LineFree := by
      simpa [State.LineFree] using hfree
    obtain ⟨hnone, hsame⟩ := beginItem_lineFree hbegunFree
    rw [hsame, decisions_of_none hdecided]
    exact hnone

/-! ### The reply places -/

theorem grantDram_places (s : State) (r : Requester) :
    (s.grantDram r).mgmt.replies.length + (s.grantDram r).mgmt.reserved = s.mgmt.replies.length + s.mgmt.reserved := by
  cases r with
  | writer => simp [State.grantDram]
  | reader => simp [State.grantDram]
  | capture =>
    simp only [State.grantDram, State.grantCapture]
    split
    · rfl
    · rename_i tag handle hwaits
      have hengine : s.mgmt.engine = .capturing tag handle := by
        unfold State.captureWaiting? at hwaits
        split at hwaits <;> simp_all
      (repeat' split) <;> simp [State.answerCapture, Mgmt.reserved, hengine]

theorem arbitrate_places (n : Nat) (s : State) :
    (State.arbitrate n s).mgmt.replies.length + (State.arbitrate n s).mgmt.reserved =
      s.mgmt.replies.length + s.mgmt.reserved := by
  induction n generalizing s with
  | zero => rfl
  | succ n ih =>
    unfold State.arbitrate
    split
    · split
      · rfl
      · exact (ih _).trans (grantDram_places s _)
    · rfl

theorem storeArbiter_places (s : State) (wasIdle : Bool) :
    (s.storeArbiter wasIdle).mgmt.replies.length + (s.storeArbiter wasIdle).mgmt.reserved =
      s.mgmt.replies.length + s.mgmt.reserved := by
  unfold State.storeArbiter
  dsimp only
  split
  · exact (arbitrate_places 2 _).trans (grantDram_places { s with choices := s.choices + 1 } _)
  · exact arbitrate_places 2 s

/-- The blocks' turns leave the filled and reserved reply places: an answered CAPTURE fills the place it had reserved (R172). -/
theorem consequences_places (s : State) (wasIdle : Bool) :
    (s.consequences wasIdle).mgmt.replies.length + (s.consequences wasIdle).mgmt.reserved =
      s.mgmt.replies.length + s.mgmt.reserved := by
  rw [consequences_eq]
  simp only [decisions_keeps, beginItem_keeps, storeArbiter_places, beginReleases_keeps]
  simp [Mgmt.reserved]

theorem wantsPlace_eq_false {m : Mgmt} : m.wantsPlace = false ↔ (m.replies.length + m.reserved < 16 → m.owed = [] ∧
    (m.engine = .idle → m.commands = []) ∧ m.pendingErrors = 0 ∧ m.busyBacklog = []) := by
  unfold Mgmt.wantsPlace Mgmt.placeFree
  simp [and_assoc]

/-- The serving of places ends when nobody wants one, the 16 places being enough for it (R172). -/
theorem serve_done (wasIdle : Bool) (n : Nat) {s : State} (h : 16 ≤ s.mgmt.replies.length + s.mgmt.reserved + n) :
    (State.serve wasIdle n s).mgmt.wantsPlace = false := by
  induction n generalizing s with
  | zero => exact wantsPlace_eq_false.2 (fun hfree => absurd h (Nat.not_le.2 hfree))
  | succ n ih =>
    unfold State.serve
    split
    · rename_i hwants
      have hgiven := give_places s hwants
      have hturns := consequences_places s.give wasIdle
      exact ih (by omega)
    · rename_i hdone
      simpa using hdone

/-! ### The end of an event -/

/-- A property that the blocks' turns bring about, in a part that has what they need and keeps it, and that the transmitter and
the notices leave alone. -/
structure Brings (H P : State → Prop) : Prop where
  give : ∀ s, H s → H s.give
  turns : ∀ s wasIdle, H s → H (s.consequences wasIdle) ∧ P (s.consequences wasIdle)
  frame : ∀ s m o v, m.engine = s.mgmt.engine → H s ∧ P s →
    H { s with mgmt := m, out := o, evThresholds := v } ∧ P { s with mgmt := m, out := o, evThresholds := v }

theorem Brings.serve {H P : State → Prop} (hb : Brings H P) (wasIdle : Bool) (n : Nat) {s : State} (h : H s ∧ P s) :
    H (State.serve wasIdle n s) ∧ P (State.serve wasIdle n s) := by
  induction n generalizing s with
  | zero => exact h
  | succ n ih =>
    unfold State.serve
    split
    · exact ih (hb.turns _ _ (hb.give _ h.1))
    · exact h

theorem transmit_eq (s : State) : ∃ m o, m.engine = s.mgmt.engine ∧ s.transmit = { s with mgmt := m, out := o } := by
  unfold State.transmit
  split
  · exact ⟨s.mgmt, s.out, rfl, rfl⟩
  · exact ⟨_, _, by simp, rfl⟩

/-- What the turns bring about holds at the end of the event. -/
theorem Brings.settle {H P : State → Prop} (hb : Brings H P) {s : State} (wasIdle : Bool) (h : H s) : P (s.settle wasIdle) := by
  have hserved := hb.serve wasIdle 16 (hb.turns s wasIdle h)
  unfold State.settle
  dsimp only
  generalize State.serve wasIdle 16 (s.consequences wasIdle) = served at hserved ⊢
  obtain ⟨m, o, hengine, hsent⟩ := transmit_eq served.refreshThresholds
  have hbegun : H served.refreshThresholds.transmit ∧ P served.refreshThresholds.transmit := by
    rw [hsent]
    exact hb.frame served m o served.evThresholds hengine hserved
  have hagain := hb.serve wasIdle 16 hbegun
  generalize State.serve wasIdle 16 served.refreshThresholds.transmit = last at hagain ⊢
  exact (hb.frame last last.refreshThresholds.mgmt last.out [] rfl hagain).2

/-- What an event leaves of the reply places, of the transmitter and of the blocks' work, whatever its own effect was. -/
theorem settle_settled (s : State) (wasIdle : Bool) : (s.settle wasIdle).Settled :=
  Brings.settle (H := fun _ => True)
    { give := fun _ _ => trivial
      turns := fun t wasIdle _ => ⟨trivial, consequences_settled t wasIdle⟩
      frame := fun _ _ _ _ hengine h => ⟨trivial, h.2.dram.congr rfl hengine rfl, h.2.releases⟩ } wasIdle trivial

theorem give_slotsDistinct (s : State) (hd : s.SlotsDistinct) : s.give.SlotsDistinct :=
  give_inv (fun _ _ h => h) (fun _ _ _ _ ht h => slotsDistinct_tableInvariant.performed ht h) s hd

theorem settle_settledSlots {s : State} (hd : s.SlotsDistinct) (wasIdle : Bool) : (s.settle wasIdle).SettledSlots :=
  Brings.settle
    { give := give_slotsDistinct
      turns := fun t wasIdle h => ⟨slotsDistinct_tableInvariant.consequences t wasIdle h, consequences_settledSlots h wasIdle⟩
      frame := fun _ _ _ _ _ h => ⟨h.1, h.2.grants, h.2.drains, h.2.line⟩ } wasIdle hd

/-- No reply place that somebody wants is free at the end of an event (R172). -/
theorem settle_wantsNoPlace (s : State) (wasIdle : Bool) : (s.settle wasIdle).mgmt.wantsPlace = false := by
  unfold State.settle
  dsimp only
  generalize (State.serve wasIdle 16 (s.consequences wasIdle)).refreshThresholds.transmit = begun
  exact serve_done (s := begun) wasIdle 16 (by omega)

/-- A transmitter that has begun no frame had none to begin (R180). -/
theorem transmit_idle {s : State} (h : s.transmit.mgmt.sending = none) :
    s.transmit = s ∧ s.mgmt.replies = [] ∧ s.mgmt.notices = [] := by
  cases hnext : s.mgmt.nextFrame? with
  | none =>
    have hsame : s.transmit = s := by simp [State.transmit, hnext]
    rw [hsame] at h
    refine ⟨hsame, ?_⟩
    simp only [Mgmt.nextFrame?, h] at hnext
    split at hnext
    · cases hnext
    · rename_i hreplies
      split at hnext
      · cases hnext
      · rename_i hnotices
        exact ⟨hreplies, hnotices⟩
  | some f =>
    have hbegun : s.transmit.mgmt.sending = some f := by
      cases f <;> simp [State.transmit, hnext, Mgmt.beginFrame]
    exact absurd h (by simp [hbegun])

theorem refreshThresholds_nil {s : State} (h : s.mgmt.notices = []) : s.refreshThresholds = s := by
  unfold State.refreshThresholds
  rw [h, List.map_nil, ← h]

/-- A transmitter that is idle at the end of an event has nothing to send (R180). -/
theorem settle_idle {s : State} {wasIdle : Bool} (h : (s.settle wasIdle).mgmt.sending = none) :
    (s.settle wasIdle).mgmt.replies = [] ∧ (s.settle wasIdle).mgmt.notices = [] := by
  have hdone : (State.serve wasIdle 16 (s.consequences wasIdle)).mgmt.wantsPlace = false := serve_done wasIdle 16 (by omega)
  unfold State.settle at h ⊢
  dsimp only at h ⊢
  generalize State.serve wasIdle 16 (s.consequences wasIdle) = served at hdone h ⊢
  have hidle : served.refreshThresholds.transmit.mgmt.sending = none := (serve_sending wasIdle 16 _).symm.trans h
  obtain ⟨hsame, hreplies, hnotices⟩ := transmit_idle hidle
  rw [hsame, serve_quiet _ _ _ (by exact hdone)]
  rw [refreshThresholds_nil hnotices]
  exact ⟨hreplies, hnotices⟩

/-! ### The figures that nothing of this changes -/

/-- The figures that what follows an event leaves as they were where no command waits. -/
def State.figures (s : State) :=
  (s.mgmt.commands, s.pending, s.inReset, s.counters, s.time, s.mgmt.ready, s.mgmt.framer, s.mgmt.startCause,
    s.mgmt.frameErrors, s.mgmt.busyCount, s.table.refusing, s.store.floor, s.store.initialising, s.store.corrected,
    { s.link with control := [], stubs := [], passList := [], sending := none }, setupOf s.ports)

theorem commands_of_figures {s t : State} (h : t.figures = s.figures) : t.mgmt.commands = s.mgmt.commands :=
  congrArg Prod.fst h

theorem consequences_commands (s : State) (wasIdle : Bool) : (s.consequences wasIdle).mgmt.commands = s.mgmt.commands := by
  unfold State.consequences
  simp

theorem consequences_figures (s : State) (wasIdle : Bool) : (s.consequences wasIdle).figures = s.figures := by
  simp [State.figures, consequences_commands]

/-- Where no command waits, a place goes to the framer's replies or to an owed one (R172). -/
theorem give_figures {s : State} (h : s.mgmt.commands = []) : s.give.figures = s.figures := by
  unfold State.give
  split
  · split
    · simp [State.figures, State.reply]
    · simp only [h]
      simp [State.figures]
  · rfl

theorem serve_figures {s : State} (h : s.mgmt.commands = []) (wasIdle : Bool) (n : Nat) :
    (State.serve wasIdle n s).figures = s.figures := by
  induction n generalizing s with
  | zero => rfl
  | succ n ih =>
    unfold State.serve
    split
    · have hturn : (s.give.consequences wasIdle).figures = s.figures := (consequences_figures _ _).trans (give_figures h)
      have hcommands : (s.give.consequences wasIdle).mgmt.commands = [] := (commands_of_figures hturn).trans h
      exact (ih hcommands).trans hturn
    · rfl

theorem settle_figures {s : State} (h : s.mgmt.commands = []) (wasIdle : Bool) : (s.settle wasIdle).figures = s.figures := by
  have hturns := consequences_figures s wasIdle
  have hserved := (serve_figures (by rw [consequences_commands, h]) wasIdle 16).trans hturns
  unfold State.settle
  dsimp only
  generalize State.serve wasIdle 16 (s.consequences wasIdle) = served at hserved ⊢
  have hbegun : served.refreshThresholds.transmit.figures = s.figures := by
    rw [← hserved]
    simp [State.figures]
  have hcommands : served.refreshThresholds.transmit.mgmt.commands = [] := (commands_of_figures hbegun).trans h
  exact (serve_figures hcommands wasIdle 16).trans hbegun

/-! ### Where nothing follows -/

theorem settle_quiet {s : State} (wasIdle : Bool) (hports : ∀ g, (s.port g).state ≠ .drainOut ∧ (s.port g).state ≠ .active)
    (hlink : s.link.state ≠ .up) (hstore : s.store.initialising = true) (hcapture : s.captureWaiting? = none)
    (hplaces : s.mgmt.wantsPlace = false) (hframe : s.mgmt.nextFrame? = none) (hnotices : s.mgmt.notices = [])
    (hthresholds : s.evThresholds = []) : s.settle wasIdle = s := by
  have hturns : s.consequences wasIdle = s := by
    unfold State.consequences
    simp only [completeDrains_quiet s (fun g => (hports g).1), beginItem_quiet s hlink, beginReleases_quiet s hlink,
      storeArbiter_quiet s wasIdle hstore hcapture, decisions_quiet s 512 (fun g => (hports g).2)]
  have hsent : s.transmit = s := by
    unfold State.transmit
    rw [hframe]
  unfold State.settle
  simp only [hturns, serve_quiet s wasIdle 16 hplaces, refreshThresholds_nil hnotices, hsent, ← hthresholds]

/-- Settles O50. -/
theorem whatFollowsAnEventIsConfinedAndComplete : Obligations.WhatFollowsAnEventIsConfinedAndComplete := by
  refine ⟨fun s wasIdle => ⟨?_, settle_idle, fun htransfer => ?_, ?_, rfl⟩, fun s wasIdle hd => ⟨?_, fun g hg hdrain => ?_, ?_⟩,
    fun s wasIdle hc => ?_, ?_⟩
  · exact wantsPlace_eq_false.1 (settle_wantsNoPlace s wasIdle)
  · obtain ⟨hwriter, hreader, hcapture⟩ := requesters_eq_nil.1
      ((settle_settled s wasIdle).dram (by simp [State.dramIdle, htransfer]))
    refine ⟨hwriter, hreader, fun tag h hengine => ?_⟩
    simp [State.captureWaiting?, hengine] at hcapture
  · exact (settle_settled s wasIdle).releases
  · exact readyDecisions_eq_nil.1 (settle_settledSlots hd wasIdle).grants
  · obtain ⟨hstate, hclosed⟩ := hdrain
    have hopen := (settle_settledSlots hd wasIdle).drains g hg
    rw [(drainComplete_iff hstate).2 hclosed] at hopen
    cases hopen
  · exact fun hup hhold hsending => nextItem?_eq_none.1 ((settle_settledSlots hd wasIdle).line ⟨hup, hhold, hsending⟩)
  · have hfigures := settle_figures hc wasIdle
    dsimp only
    generalize s.settle wasIdle = t at hfigures ⊢
    simp only [State.figures, Prod.mk.injEq, Link.mk.injEq] at hfigures
    obtain ⟨-, hpending, hreset, hcounters, htime, hready, hframer, hcause, herrors, hbusy, hrefusing, hfloor, hinit,
      hcorrected, ⟨hstate, hlanes, hexpected, hgood, hestablished, hmismatch, hloss, hdiscards, hdrops, hignored, hrejected,
      hlosses, hopen, hpaused, hhold, hfull, -⟩, hsetup⟩ := hfigures
    exact ⟨hpending, hreset, hcounters, htime, hready, hframer, hcause, herrors, hbusy, hrefusing, hfloor, hinit, hcorrected,
      hstate, hlanes, hexpected, hgood, hestablished, hmismatch, hloss, hopen, hfull, hhold, hpaused, hdiscards, hdrops,
      hignored, hrejected, hlosses, fun p => ⟨policy_of_setup hsetup p, role_of_setup hsetup p⟩⟩
  · intro s wasIdle hports hlink hstore hengine hcommands howed herrors hbusy hreplies hnotices hthresholds
    refine settle_quiet wasIdle hports hlink hstore ?_ ?_ ?_ hnotices hthresholds
    · simp [State.captureWaiting?, hengine]
    · exact wantsPlace_eq_false.2 (fun _ => ⟨howed, fun _ => hcommands, herrors, hbusy⟩)
    · unfold Mgmt.nextFrame?
      rw [hreplies, hnotices]
      split <;> rfl

end Sys2Proof.Machine
end

-- ==== Proofs: the packets of the hold queues ====
section
/-! SUPPORT. The packets of the hold queues (R73): which operations leave them as they are, and which only take packets out. -/

namespace Sys2Proof.Machine

/-! ### The packets held -/

/-- The packets of the hold queues, record by record. -/
def State.heldPackets (s : State) : List HeldPacket := (s.table.episodes.map (fun e => e.holdQueue)).flatten

theorem heldPackets_congr {s t : State} (h : t.table.episodes = s.table.episodes) : t.heldPackets = s.heldPackets := by
  unfold State.heldPackets
  rw [h]

theorem updAll_heldPackets {s : State} {f : Episode → Episode} (hf : ∀ x, (f x).holdQueue = x.holdQueue) :
    (s.updAll f).heldPackets = s.heldPackets :=
  congrArg List.flatten (updAll_map _ (fun x _ => hf x))

theorem updEp_heldPackets {s : State} {slot : Nat} {f : Episode → Episode} (hf : ∀ x, (f x).holdQueue = x.holdQueue) :
    (s.updEp slot f).heldPackets = s.heldPackets :=
  congrArg List.flatten (updEp_map _ hf)

/-- A rewriting that only takes packets out of a hold queue. -/
theorem updEp_heldPackets_sublist {s : State} {slot : Nat} {f : Episode → Episode}
    (hf : ∀ x, (f x).holdQueue.Sublist x.holdQueue) : (s.updEp slot f).heldPackets.Sublist s.heldPackets := by
  unfold State.heldPackets
  rw [updEp_episodes, List.map_map]
  generalize s.table.episodes = l
  induction l with
  | nil => exact List.Sublist.refl _
  | cons x l ih =>
    simp only [List.map_cons, List.flatten_cons, Function.comp]
    refine List.Sublist.append ?_ ih
    split
    · exact hf x
    · exact List.Sublist.refl _

/-- With distinct slots, a record stands at one place of the table, and a rewriting of its slot rewrites that place. -/
theorem updEp_split {s : State} {slot : Nat} {e : Episode} (hd : s.SlotsDistinct) (he : s.ep? slot = some e) :
    ∃ before after, s.table.episodes = before ++ e :: after ∧
      ∀ f, (s.updEp slot f).table.episodes = before ++ f e :: after := by
  obtain ⟨hmem, rfl⟩ := ep?_some he
  obtain ⟨before, after, hsplit⟩ := List.append_of_mem hmem
  refine ⟨before, after, hsplit, fun f => ?_⟩
  have hother : ∀ x ∈ before ++ after, x.slot ≠ e.slot := by
    intro x hx hslot
    unfold State.SlotsDistinct at hd
    rw [hsplit, List.map_append, List.map_cons, List.nodup_middle, List.nodup_cons, ← List.map_append] at hd
    exact hd.1 (hslot ▸ List.mem_map_of_mem hx)
  have hsame : ∀ l : List Episode, (∀ x ∈ l, x.slot ≠ e.slot) →
      l.map (fun x => if x.slot == e.slot then f x else x) = l := by
    intro l hl
    conv_rhs => rw [← List.map_id l]
    exact List.map_congr_left (fun x hx => if_neg (by simpa using hl x hx))
  rw [updEp_episodes, hsplit, List.map_append, List.map_cons, if_pos (beq_self_eq_true _),
    hsame before (fun x hx => hother x (List.mem_append_left _ hx)),
    hsame after (fun x hx => hother x (List.mem_append_right _ hx))]

/-- With distinct slots, the packets held change by those of the one record that is rewritten. -/
theorem updEp_heldPackets_perm {s : State} {slot : Nat} {e : Episode} (hd : s.SlotsDistinct) (he : s.ep? slot = some e)
    (f : Episode → Episode) :
    ((s.updEp slot f).heldPackets ++ e.holdQueue).Perm (s.heldPackets ++ (f e).holdQueue) := by
  obtain ⟨before, after, hsplit, hupd⟩ := updEp_split hd he
  unfold State.heldPackets
  rw [hupd, hsplit]
  simp only [List.map_append, List.map_cons, List.flatten_append, List.flatten_cons]
  exact List.perm_iff_count.2 (fun p => by simp only [List.count_append]; omega)

/-- A record without packets that takes its place leaves the packets held as they were. -/
theorem placeEpisode_heldPackets {s : State} {e : Episode} (he : e.holdQueue = []) :
    (s.placeEpisode e).heldPackets = s.heldPackets := by
  unfold State.heldPackets State.placeEpisode
  dsimp only
  generalize s.table.episodes = l
  induction l with
  | nil => simp [insertEpisode, he]
  | cons x l ih =>
    unfold insertEpisode
    split
    · simp [he]
    · simp [ih]

theorem freeEpisode_heldPackets (s : State) (slot : Nat) : (s.freeEpisode slot).heldPackets.Sublist s.heldPackets :=
  ((freeEpisode_sublist s slot).map _).flatten

/-! ### UNPACE, stand-down and counts -/

@[simp] theorem Episode.unpace_holdQueue (x : Episode) : x.unpace.holdQueue = x.holdQueue := by
  unfold Episode.unpace
  split <;> rfl

@[simp] theorem unpaceEpisode_heldPackets (s : State) (slot : Nat) : (s.unpaceEpisode slot).heldPackets = s.heldPackets := by
  unfold State.unpaceEpisode
  split
  · rfl
  · exact updEp_heldPackets (s := s) (slot := slot) Episode.unpace_holdQueue

@[simp] theorem unpaceGroup_heldPackets (s : State) (g : Nat) : (s.unpaceGroup g).heldPackets = s.heldPackets :=
  foldl_keeps State.heldPackets _ unpaceEpisode_heldPackets _ s

@[simp] theorem enterDrainOut_heldPackets (s : State) (g : Nat) (cause : DrainCause) :
    (s.enterDrainOut g cause).heldPackets = s.heldPackets :=
  (unpaceGroup_heldPackets _ g).trans (heldPackets_congr (by simp))

@[simp] theorem standDown_heldPackets (s : State) (g : Nat) : (s.standDown g).heldPackets = s.heldPackets := by
  unfold State.standDown
  split
  · exact (heldPackets_congr (by simp)).trans (enterDrainOut_heldPackets s g .standDown)
  · rfl

@[simp] theorem reached_heldPackets (s : State) (g : Nat) (type : EvType) (n : Nat) :
    (s.reached g type n).heldPackets = s.heldPackets := by
  have hordered : ∀ t : State, t.table.episodes = s.table.episodes →
      (if protects (t.policy g).protect type then t.standDown g else t).heldPackets = s.heldPackets := by
    intro t ht
    split
    · exact (standDown_heldPackets t g).trans (heldPackets_congr ht)
    · exact heldPackets_congr ht
  unfold State.reached
  dsimp only
  split
  · exact hordered _ (by simp)
  · exact hordered _ (by simp)

@[simp] theorem count_heldPackets (s : State) (g : Nat) (type : EvType) : (s.count g type).heldPackets = s.heldPackets := by
  unfold State.count
  dsimp only
  split
  · exact (reached_heldPackets _ g type _).trans (heldPackets_congr (by simp))
  · exact heldPackets_congr (by simp)

/-! ### Closing, completing, tearing down -/

@[simp] theorem closeEpisode_heldPackets (s : State) (slot : Nat) : (s.closeEpisode slot).heldPackets = s.heldPackets := by
  unfold State.closeEpisode
  split
  · rfl
  · rename_i e _
    exact (heldPackets_congr (by simp)).trans (updEp_heldPackets (s := s) (slot := slot)
      (f := fun x => { x with linger := some ⟨(s.policy e.key.group).linger, false⟩ }) (fun _ => rfl))

@[simp] theorem closeIfEmpty_heldPackets (s : State) (slot : Nat) : (s.closeIfEmpty slot).heldPackets = s.heldPackets := by
  unfold State.closeIfEmpty
  split
  · rfl
  · split
    · exact closeEpisode_heldPackets s slot
    · rfl

@[simp] theorem afterEmptying_heldPackets (s : State) (slot : Nat) :
    (s.afterEmptying slot).heldPackets = s.heldPackets := by
  unfold State.afterEmptying
  split
  · rfl
  · split
    · rw [closeIfEmpty_heldPackets]
      exact updEp_heldPackets (fun _ => rfl)
    · exact closeIfEmpty_heldPackets s slot

@[simp] theorem testCompletion_heldPackets (s : State) (slot : Nat) :
    (s.testCompletion slot).heldPackets = s.heldPackets := by
  unfold State.testCompletion State.completeEpisode
  split
  · rfl
  · split
    · rw [afterEmptying_heldPackets]
      exact updEp_heldPackets (fun _ => rfl)
    · rfl

theorem Episode.discard_holdQueue (x : Episode) (p : HeldPacket) : (x.discard p).holdQueue = x.holdQueue := by
  unfold Episode.discard Episode.uncharge
  split <;> rfl

theorem Episode.uncharge_holdQueue (x : Episode) (p : HeldPacket) : (x.uncharge p).holdQueue = x.holdQueue := by
  unfold Episode.uncharge
  split <;> rfl

/-- A teardown leaves the hold queue, or discards it (R17). -/
theorem teardown_heldPackets (s : State) (slot : Nat) (discards : Bool) :
    (s.teardown slot discards).heldPackets.Sublist s.heldPackets := by
  have hwithdrawn : ((s.unpaceEpisode slot).updEp slot Episode.withdrawAll).heldPackets = s.heldPackets :=
    (updEp_heldPackets (fun _ => by rfl)).trans (unpaceEpisode_heldPackets s slot)
  unfold State.teardown
  dsimp only
  split
  · rw [← hwithdrawn]
    exact updEp_heldPackets_sublist (fun x => List.nil_sublist _)
  · rw [hwithdrawn]

theorem abortEpisode_heldPackets (s : State) (slot : Nat) : (s.abortEpisode slot).heldPackets.Sublist s.heldPackets := by
  unfold State.abortEpisode
  rw [closeIfEmpty_heldPackets]
  have htorn := teardown_heldPackets (s.updEp slot (fun e => e.toLinger .aborted)) slot true
  rwa [updEp_heldPackets (f := fun e => e.toLinger .aborted) (fun _ => rfl)] at htorn

/-! ### Sightings -/

@[simp] theorem createSighted_heldPackets (s : State) (a : Announcement) : (s.createSighted a).heldPackets = s.heldPackets := by
  unfold State.createSighted
  split
  · exact heldPackets_congr (by simp)
  · split
    · exact heldPackets_congr (by simp)
    · exact placeEpisode_heldPackets rfl

theorem takeSighting_heldPackets (s : State) (a : Announcement) : (s.takeSighting a).heldPackets.Sublist s.heldPackets := by
  unfold State.takeSighting
  split
  · split
    · rw [createSighted_heldPackets]
    · rename_i e _
      unfold State.sightAgain
      split
      · exact List.Sublist.refl _
      · have hclosed : (if e.linger.isNone then s.closeEpisode e.slot else s).heldPackets = s.heldPackets := by
          split <;> simp
        rw [createSighted_heldPackets, ← hclosed]
        exact freeEpisode_heldPackets _ _
  · exact List.Sublist.refl _

theorem sightingWord_heldPackets (s : State) (port : Nat) (a : Announcement) :
    (s.sightingWord port a).heldPackets.Sublist s.heldPackets := by
  have hbroken : (s.breakOpen false).heldPackets = s.heldPackets := heldPackets_congr (by simp)
  unfold State.sightingWord
  rw [← hbroken]
  dsimp only
  split
  · exact List.Sublist.refl _
  · exact takeSighting_heldPackets _ _

/-! ### Arriving packets -/

/-- An admitted packet waits in the write list: no hold queue has it yet (R79, R81). -/
@[simp] theorem holdOwn_heldPackets (s : State) (slot : Nat) (a : Arrival) : (s.holdOwn slot a).heldPackets = s.heldPackets := by
  unfold State.holdOwn
  split
  · rfl
  · exact updEp_heldPackets (s := s) (slot := slot)
      (f := fun x => { x with heldOwn := x.heldOwn + cellsOf a.desc.length }) (fun _ => rfl)

@[simp] theorem trim_heldPackets (s : State) (slot : Nat) (a : Arrival) (listed : Bool) :
    (s.trim slot a listed).heldPackets = s.heldPackets := by
  unfold State.trim
  split
  · rfl
  · rename_i e _
    have htrimmed : (s.updEp slot (fun x => { x with trimmed := x.trimmed.add a.desc.length })).resumeCheck.heldPackets =
        s.heldPackets := (heldPackets_congr (by simp)).trans
          (updEp_heldPackets (s := s) (slot := slot) (f := fun x => { x with trimmed := x.trimmed.add a.desc.length }) (fun _ => rfl))
    dsimp only
    split
    · exact (heldPackets_congr (by simp)).trans ((count_heldPackets _ e.key.group .trim).trans htrimmed)
    · exact (heldPackets_congr (by simp)).trans htrimmed

@[simp] theorem borrowOrTrim_heldPackets (s : State) (slot : Nat) (a : Arrival) (listed : Bool) :
    (s.borrowOrTrim slot a listed).heldPackets = s.heldPackets := by
  unfold State.borrowOrTrim
  split
  · rfl
  · dsimp only
    split
    · exact updEp_heldPackets (s := s) (slot := slot)
        (f := fun x => { x with borrowed := x.borrowed + cellsOf a.desc.length }) (fun _ => rfl)
    · exact trim_heldPackets s slot a listed

@[simp] theorem enter_heldPackets (s : State) (slot : Nat) (a : Arrival) : (s.enter slot a).heldPackets = s.heldPackets := by
  unfold State.enter
  split
  · rfl
  · rename_i e _
    split
    · rfl
    · split
      · have hentered : ∀ r : Responder, (s.updEp slot (fun x => { x with roster := x.roster ++ [r] })).heldPackets =
            s.heldPackets := fun r => updEp_heldPackets (fun _ => rfl)
        dsimp only
        split
        · exact (updEp_heldPackets (slot := slot) (f := fun x => x.updResponder a.desc.src Responder.unpace)
            (fun _ => rfl)).trans (hentered _)
        · exact hentered _
      · rfl

@[simp] theorem Episode.noteSender_holdQueue (x : Episode) (a : Arrival) : (x.noteSender a).holdQueue = x.holdQueue := by
  unfold Episode.noteSender
  split <;> rfl

@[simp] theorem judgeAndHold_heldPackets (s : State) (slot : Nat) (a : Arrival) (r : Responder) :
    (s.judgeAndHold slot a r).heldPackets = s.heldPackets := by
  unfold State.judgeAndHold
  dsimp only
  split
  · simp
  · simp
  · simp
  · simp
  · rw [holdOwn_heldPackets]
    exact updEp_heldPackets (fun _ => rfl)
  · have hused : (s.updEp slot (fun x => x.updResponder r.endpoint Responder.useAllowance)).heldPackets = s.heldPackets :=
      updEp_heldPackets (fun _ => rfl)
    split
    · exact hused
    · split <;> simp [hused]

@[simp] theorem applyLast_heldPackets (s : State) (slot : Nat) (a : Arrival) (r : Responder) :
    (s.applyLast slot a r).heldPackets = s.heldPackets := by
  unfold State.applyLast
  split
  · exact updEp_heldPackets (fun _ => rfl)
  · rfl

@[simp] theorem arriveSighted_heldPackets (s : State) (slot : Nat) (a : Arrival) :
    (s.arriveSighted slot a).heldPackets = s.heldPackets := by
  have hactive : (if (s.ep? slot).any (fun e => e.state == .armed) then
      (s.updEp slot (fun x => { x with state := .active })).applyNextEpisode a.group else s).heldPackets = s.heldPackets := by
    split
    · exact (heldPackets_congr (by simp)).trans
        (updEp_heldPackets (s := s) (slot := slot) (f := fun x => { x with state := .active }) (fun _ => rfl))
    · rfl
  have hnoted : ∀ t : State, t.heldPackets = s.heldPackets → ((t.enter slot a).updEp slot
      (fun x => { x.noteSender a with arrived := x.arrived.add a.desc.length })).heldPackets = s.heldPackets := fun t ht =>
    (updEp_heldPackets (fun x => by exact x.noteSender_holdQueue a)).trans ((enter_heldPackets t slot a).trans ht)
  unfold State.arriveSighted
  dsimp only
  split
  · rw [borrowOrTrim_heldPackets]
    exact hnoted _ hactive
  · rw [testCompletion_heldPackets, applyLast_heldPackets, judgeAndHold_heldPackets]
    exact hnoted _ hactive

@[simp] theorem arriveAdopted_heldPackets (s : State) (slot : Nat) (a : Arrival) :
    (s.arriveAdopted slot a).heldPackets = s.heldPackets := by
  unfold State.arriveAdopted
  dsimp only
  rw [borrowOrTrim_heldPackets]
  exact (updEp_heldPackets (fun x => by exact x.noteSender_holdQueue a)).trans (enter_heldPackets s slot a)

@[simp] theorem arriveDraining_heldPackets (s : State) (slot : Nat) (a : Arrival) :
    (s.arriveDraining slot a).heldPackets = s.heldPackets := by
  unfold State.arriveDraining
  dsimp only
  rw [borrowOrTrim_heldPackets]
  exact (updEp_heldPackets (fun x => by exact x.noteSender_holdQueue a)).trans (count_heldPackets s a.group .late)

theorem arriveUnmatched_heldPackets (s : State) (a : Arrival) : (s.arriveUnmatched a).heldPackets = s.heldPackets := by
  have hpassed : (s.passThrough a).heldPackets = s.heldPackets := heldPackets_congr rfl
  unfold State.arriveUnmatched
  split
  · split
    · exact hpassed
    · rename_i slot _
      rw [arriveAdopted_heldPackets]
      exact (heldPackets_congr (by simp)).trans (placeEpisode_heldPackets (s := s)
        (e := { newEpisode slot a.key .adopted .active with idle := some ⟨(s.policy a.group).idle, false⟩ }) rfl)
  · exact hpassed

theorem arriveMatched_heldPackets (s : State) (e : Episode) (a : Arrival) :
    (s.arriveMatched e a).heldPackets = s.heldPackets := by
  unfold State.arriveMatched
  split
  · simp
  · exact (heldPackets_congr rfl).trans (count_heldPackets s a.group .late)
  · simp
  · split <;> simp

theorem portFault_heldPackets (s : State) (a : Arrival) : (s.portFault a).heldPackets = s.heldPackets := by
  unfold State.portFault
  dsimp only
  split
  · exact heldPackets_congr (by simp)
  · rw [unpaceGroup_heldPackets]
    exact heldPackets_congr (by simp)

theorem arrive_heldPackets (s : State) (desc : Descriptor) (data : List Byte) :
    (s.arrive desc data).heldPackets = s.heldPackets := by
  unfold State.arrive
  dsimp only
  split
  · split
    · exact arriveUnmatched_heldPackets s _
    · exact arriveMatched_heldPackets s _ _
  · exact portFault_heldPackets s _

theorem takePayload_heldPackets (s : State) (last : Bool) (count : Byte) (data : List Byte) :
    (s.takePayload last count data).heldPackets = s.heldPackets := by
  have hbroken : ∀ ended, (s.breakOpen ended).heldPackets = s.heldPackets := fun ended => heldPackets_congr (by simp)
  unfold State.takePayload
  split
  · exact heldPackets_congr (by simp)
  · dsimp only
    split
    · split
      · exact hbroken _
      · rfl
    · split
      · exact hbroken _
      · split
        · rfl
        · split
          · exact arrive_heldPackets _ _ _
          · exact hbroken _

/-! ### Grants, ticks and expiries -/

theorem decisions_heldPackets (n : Nat) (s : State) : (State.decisions n s).heldPackets = s.heldPackets :=
  congrArg List.flatten (decisions_map _ (fun _ _ _ _ => rfl) n s)

theorem retire_heldPackets (s : State) (slot position : Nat) (e : Episode) :
    (s.retire slot position e).heldPackets = s.heldPackets :=
  (testCompletion_heldPackets _ slot).trans ((updEp_heldPackets (fun _ => by rfl)).trans
    ((count_heldPackets _ e.key.group .retire).trans (updEp_heldPackets (fun _ => by rfl))))

theorem expireGrant_heldPackets (s : State) (slot position number : Nat) :
    (s.expireGrant slot position number).heldPackets = s.heldPackets := by
  unfold State.expireGrant
  split
  · rfl
  · split
    · rfl
    · split
      · have hstruck : (s.updEp slot (fun x => { x with roster := x.roster.modify position (fun r => r.strike number) })).heldPackets =
            s.heldPackets := updEp_heldPackets (fun _ => rfl)
        dsimp only
        split
        · rw [retire_heldPackets, hstruck]
        · exact hstruck
      · rfl

theorem pacerTick_heldPackets (s : State) : s.pacerTick.heldPackets = s.heldPackets := by
  unfold State.pacerTick
  split
  · rfl
  · have hpaced : ({ s with time := ⟨s.time.clock, s.time.ticks + 1⟩ } : State).pacersTick.heldPackets = s.heldPackets :=
      heldPackets_congr (by simp)
    have hticked : ∀ (f : Episode → Episode) (c : Prop) [Decidable c] (t : State), (∀ x, (f x).holdQueue = x.holdQueue) →
        t.heldPackets = s.heldPackets → (if c then t.updAll f else t).heldPackets = s.heldPackets := by
      intro f c _ t hf ht
      split
      · exact (updAll_heldPackets hf).trans ht
      · exact ht
    exact hticked _ _ _ (fun _ => rfl) (hticked _ _ _ (fun _ => rfl) hpaced)

@[simp] theorem unpaceExpiry_heldPackets (s : State) (g : Nat) : (s.unpaceExpiry g).heldPackets = s.heldPackets := by
  unfold State.unpaceExpiry
  split <;> simp

theorem expireDeadline_heldPackets (s : State) (slot : Nat) (e : Episode) :
    (s.expireDeadline slot e).heldPackets.Sublist s.heldPackets := by
  have htold : ∀ (t : State) action, ((t.count e.key.group .expire).raiseExpired slot e action).heldPackets = t.heldPackets :=
    fun t action => (heldPackets_congr (by simp)).trans (count_heldPackets t e.key.group .expire)
  have htorn : ∀ (f : Episode → Episode) discards, (∀ x, (f x).holdQueue = x.holdQueue) →
      (((s.updEp slot f).unpaceExpiry e.key.group).teardown slot discards).heldPackets.Sublist s.heldPackets := by
    intro f discards hf
    have hset := teardown_heldPackets ((s.updEp slot f).unpaceExpiry e.key.group) slot discards
    rwa [unpaceExpiry_heldPackets, updEp_heldPackets hf] at hset
  unfold State.expireDeadline
  split
  · unfold State.expireArmed
    dsimp only
    rw [htold, closeIfEmpty_heldPackets, updEp_heldPackets]
    exact fun _ => rfl
  · split
    · unfold State.expireDrain
      dsimp only
      rw [htold, afterEmptying_heldPackets]
      exact htorn _ _ (fun _ => rfl)
    · unfold State.expireDiscard
      dsimp only
      rw [htold, closeIfEmpty_heldPackets]
      exact htorn _ _ (fun _ => rfl)
  · exact List.Sublist.refl _
  · exact List.Sublist.refl _

theorem takeDeadline_heldPackets (s : State) (slot : Nat) : (s.takeDeadline slot).heldPackets.Sublist s.heldPackets := by
  unfold State.takeDeadline
  split
  · exact List.Sublist.refl _
  · split
    · exact List.Sublist.refl _
    · split
      · split
        · exact expireDeadline_heldPackets s slot _
        · rw [updEp_heldPackets]
          exact fun _ => rfl
      · exact List.Sublist.refl _

theorem takeIdle_heldPackets (s : State) (slot : Nat) : (s.takeIdle slot).heldPackets = s.heldPackets := by
  unfold State.takeIdle
  split
  · rfl
  · split
    · rw [afterEmptying_heldPackets, updEp_heldPackets]
      exact fun _ => rfl
    · rfl

theorem takeLinger_heldPackets (s : State) (slot : Nat) : (s.takeLinger slot).heldPackets.Sublist s.heldPackets := by
  unfold State.takeLinger
  split
  · exact List.Sublist.refl _
  · split
    · exact freeEpisode_heldPackets s slot
    · exact List.Sublist.refl _

theorem completeDrain_heldPackets (s : State) (g : Nat) : (s.completeDrain g).heldPackets.Sublist s.heldPackets := by
  rw [completeDrain_eq]
  split
  · have hfreed : (((s.freeAll (s.groupSlots g)).updPort g Port.drained).raisePortState g .drained).heldPackets =
        (s.freeAll (s.groupSlots g)).heldPackets := heldPackets_congr (by simp)
    rw [hfreed]
    unfold State.heldPackets
    rw [freeAll_episodes]
    exact (List.filter_sublist.map _).flatten
  · exact List.Sublist.refl _

end Sys2Proof.Machine
end

-- ==== Proofs: the chains of the packets ====
section
/-! The chains of the packets (R73). Most operations only take packets out of the hold queues or leave them
(`State.Retains`); a write's grant gives a packet free cells, and the others move a packet with its chain from one place to
another, so that no chain is given twice. -/

namespace Sys2Proof.Machine

/-! ### The law of the chains -/

/-- The packets of the releases in flight (R88). -/
def Store.releasing (c : Store) : List HeldPacket := c.releases.toList.filterMap (fun r => r.map (fun x => x.packet))

theorem packetsWithCells_eq (s : State) :
    s.packetsWithCells = s.heldPackets ++ s.store.transfer.written?.toList ++ s.store.releasing := rfl

/-- The chains of a list of packets are disjoint, of cells of the store, and each of cells(L) cells (R73). -/
structure ChainsSound (l : List HeldPacket) : Prop where
  once : (l.map (fun p => p.chain)).flatten.Nodup
  cells : ∀ c ∈ (l.map (fun p => p.chain)).flatten, c < 2097152
  whole : ∀ p ∈ l, p.chain.length = cellsOf p.length

theorem chainLaw_iff {s : State} : s.ChainLaw ↔ s.SlotsDistinct ∧ ChainsSound s.packetsWithCells :=
  ⟨fun ⟨hd, hn, hc, hw⟩ => ⟨hd, hn, hc, hw⟩, fun ⟨hd, h⟩ => ⟨hd, h.once, h.cells, h.whole⟩⟩

theorem ChainsSound.nil : ChainsSound [] := ⟨List.nodup_nil, by simp, by simp⟩

/-- Fewer packets, in any order. -/
theorem ChainsSound.subperm {l k : List HeldPacket} (h : ChainsSound l) (hk : k.Subperm l) : ChainsSound k := by
  obtain ⟨m, hmk, hml⟩ := hk
  have hcells := (hmk.map (fun p => p.chain)).flatten
  have hsub := (hml.map (fun p => p.chain)).flatten
  refine ⟨hcells.nodup_iff.1 (h.once.sublist hsub), fun c hc => h.cells c (hsub.subset (hcells.mem_iff.2 hc)), fun p hp => ?_⟩
  exact h.whole p (hml.subset (hmk.mem_iff.2 hp))

/-- One packet more, with a chain of cells(L) cells that no other has. -/
theorem ChainsSound.cons {l : List HeldPacket} {p : HeldPacket} (h : ChainsSound l) (hw : p.chain.length = cellsOf p.length)
    (hn : p.chain.Nodup) (hc : ∀ c ∈ p.chain, c < 2097152 ∧ c ∉ (l.map (fun p => p.chain)).flatten) : ChainsSound (p :: l) := by
  refine ⟨?_, fun c hcell => ?_, fun q hq => ?_⟩
  · rw [List.map_cons, List.flatten_cons, List.nodup_append]
    exact ⟨hn, h.once, fun c hp d hl hcd => (hc c hp).2 (hcd ▸ hl)⟩
  · rw [List.map_cons, List.flatten_cons, List.mem_append] at hcell
    exact hcell.elim (fun hp => (hc c hp).1) (h.cells c)
  · rcases List.mem_cons.1 hq with rfl | hq
    · exact hw
    · exact h.whole q hq

/-! ### The releases in flight -/

theorem vupd_toList {α : Type} {n : Nat} (v : Vector α n) (i : Nat) (f : α → α) :
    (vupd v i f).toList = v.toList.modify i f := by
  unfold vupd
  split
  · rename_i hi
    rw [Vector.toList_set, List.modify_eq_set_get f (by simpa using hi)]
    simp
  · rename_i hi
    rw [List.modify_eq_self (by simpa using hi)]

/-- A list of which one place is rewritten yields at most what it did and what the new entry adds. -/
theorem filterMap_modify_subperm {α β : Type} [DecidableEq β] {l : List α} {i : Nat} {f : α → α} {g : α → Option β} {extra : List β}
    (h : ∀ x, l[i]? = some x → (g (f x)).toList.Subperm (extra ++ (g x).toList)) :
    ((l.modify i f).filterMap g).Subperm (extra ++ l.filterMap g) := by
  rw [List.subperm_iff_count]
  intro b
  induction l generalizing i with
  | nil => simp
  | cons x l ih =>
    cases i with
    | zero =>
      have hx := List.subperm_iff_count.1 (h x rfl) b
      simp only [List.modify_zero_cons, List.filterMap_cons, List.count_append] at hx ⊢
      cases hfx : g (f x) <;> cases hgx : g x <;> simp [hfx, hgx, List.count_cons] at hx ⊢ <;> omega
    | succ i =>
      have hl := ih (i := i) (fun y hy => h y (by simpa using hy))
      simp only [List.modify_succ_cons, List.filterMap_cons, List.count_append] at hl ⊢
      cases hgx : g x <;> simp [List.count_cons] at hl ⊢ <;> omega

theorem release?_of_getElem? {s : State} {g : Nat} {x : Option Release} (h : s.store.releases.toList[g]? = some x) :
    s.release? g = x := by
  obtain ⟨hg, hx⟩ := List.getElem?_eq_some_iff.1 h
  unfold State.release? vget
  rw [dif_pos (by simpa using hg)]
  simpa using hx

/-- A release in flight is written: its packet is one that is new, or the one that the entry had. -/
theorem setRelease_releasing {s : State} {g : Nat} {r : Option Release} {extra : List HeldPacket}
    (h : (r.map (fun x => x.packet)).toList.Subperm (extra ++ ((s.release? g).map (fun x => x.packet)).toList)) :
    (s.setRelease g r).store.releasing.Subperm (extra ++ s.store.releasing) := by
  have hlist : (s.setRelease g r).store.releases.toList = s.store.releases.toList.modify g (fun _ => r) := vupd_toList _ _ _
  unfold Store.releasing
  rw [hlist]
  exact filterMap_modify_subperm (fun x hx => by rw [← release?_of_getElem? hx]; exact h)

/-! ### Operations that give no packet cells -/

/-- A change that puts no packet into a hold queue, and leaves the transfer in progress and the releases in flight. -/
structure State.Retains (s t : State) : Prop where
  held : t.heldPackets.Sublist s.heldPackets
  transfer : t.store.transfer = s.store.transfer
  releases : t.store.releases = s.store.releases

theorem State.retains_of_eq {s t : State} (he : t.table.episodes = s.table.episodes)
    (ht : t.store.transfer = s.store.transfer) (hr : t.store.releases = s.store.releases) : s.Retains t :=
  ⟨by rw [heldPackets_congr he], ht, hr⟩

/-- A change of the hold queues that leaves the store. -/
theorem State.retains_of_store {s t : State} (hh : t.heldPackets.Sublist s.heldPackets) (hs : t.store = s.store) :
    s.Retains t := ⟨hh, by rw [hs], by rw [hs]⟩

theorem abortGroup_retains (s : State) (g : Nat) : s.Retains (s.abortGroup g) := by
  refine State.retains_of_store ?_ (by simp)
  exact foldl_inv (fun t => t.heldPackets.Sublist s.heldPackets) _
    (fun t slot h => (abortEpisode_heldPackets t slot).trans h) _ s (List.Sublist.refl _)

theorem disablePortEffect_retains {body : List Byte} {s t : State} {b : ReplyBody} (h : disablePortEffect body s = .ok t b) :
    s.Retains t := by
  have hdrain : ∀ u : State, s.Retains u → ∀ cause, s.Retains (u.enterDrainOut (portAt body 0) cause) := fun u hu cause =>
    ⟨(enterDrainOut_heldPackets u _ cause).symm ▸ hu.held, by simp [hu.transfer], by simp [hu.releases]⟩
  have hport : ∀ u : State, s.Retains u → ∀ f, s.Retains (u.updPort (portAt body 0) f) :=
    fun u hu f => ⟨hu.held, hu.transfer, hu.releases⟩
  have hkept : s.Retains s := State.retains_of_eq rfl rfl rfl
  have haborted := abortGroup_retains s (portAt body 0)
  unfold disablePortEffect at h
  split at h
  · unfold disableFlushEffect at h
    dsimp only at h
    (repeat' split at h) <;> cases h
    · exact hdrain _ haborted .flush
    · exact hdrain _ haborted .flush
    · exact hport _ haborted _
    · exact hport _ haborted _
  · unfold disableDrainEffect at h
    dsimp only at h
    (repeat' split at h) <;> cases h
    · exact hdrain _ hkept .host
    · exact hdrain _ hkept .host
    · exact hport _ hkept _

theorem updEp_retains (s : State) (slot : Nat) {f : Episode → Episode} (hf : ∀ x, (f x).holdQueue = x.holdQueue) :
    s.Retains (s.updEp slot f) := State.retains_of_store (by rw [updEp_heldPackets hf]) rfl

theorem haltEffect_retains {flag : Bool} {body : List Byte} {s t : State} {b : ReplyBody} (h : haltEffect flag body s = .ok t b) :
    s.Retains t := by
  unfold haltEffect at h
  (repeat' split at h) <;> cases h
  exact updEp_retains s _ (fun _ => rfl)

theorem abortEffect_retains {body : List Byte} {s t : State} {b : ReplyBody} (h : abortEffect body s = .ok t b) :
    s.Retains t := by
  unfold abortEffect at h
  (repeat' split at h) <;> cases h
  exact State.retains_of_store (abortEpisode_heldPackets s _) (by simp)

theorem extendEffect_retains {body : List Byte} {s t : State} {b : ReplyBody} (h : extendEffect body s = .ok t b) :
    s.Retains t := by
  unfold extendEffect at h
  dsimp only at h
  (repeat' split at h) <;> cases h
  exact updEp_retains s _ (fun _ => rfl)

theorem addReservationEffect_retains {body : List Byte} {s t : State} {b : ReplyBody}
    (h : addReservationEffect body s = .ok t b) : s.Retains t := by
  unfold addReservationEffect at h
  dsimp only at h
  (repeat' split at h) <;> cases h
  exact updEp_retains s _ (fun _ => rfl)

/-- The effect of every command of the host: none gives a packet cells. -/
theorem performed_retains {f : Frame} {s t : State} {b : ReplyBody} (h : performed f s = .ok t b) : s.Retains t := by
  unfold Machine.performed at h
  split at h
  · rw [identifyEffect_keeps h]; exact State.retains_of_eq rfl rfl rfl
  · cases h
  · exact State.retains_of_eq (by simp [setPortEffect_keeps h]) (by simp [setPortEffect_keeps h]) (by simp [setPortEffect_keeps h])
  · exact State.retains_of_eq (by simp [enablePortEffect_keeps h]) (by simp [enablePortEffect_keeps h])
      (by simp [enablePortEffect_keeps h])
  · exact disablePortEffect_retains h
  · exact State.retains_of_eq (by simp [resumePortEffect_keeps h]) (by simp [resumePortEffect_keeps h])
      (by simp [resumePortEffect_keeps h])
  · exact State.retains_of_eq (by simp [portStatusEffect_keeps h]) (by simp [portStatusEffect_keeps h])
      (by simp [portStatusEffect_keeps h])
  · exact State.retains_of_eq (by simp [setRateEffect_keeps h]) (by simp [setRateEffect_keeps h]) (by simp [setRateEffect_keeps h])
  · exact State.retains_of_eq (by simp [commitRateEffect_keeps h]) (by simp [commitRateEffect_keeps h])
      (by simp [commitRateEffect_keeps h])
  · rw [rateStatusEffect_keeps h]; exact State.retains_of_eq rfl rfl rfl
  · rw [listEpisodesEffect_keeps h]; exact State.retains_of_eq rfl rfl rfl
  · rw [episodeStatusEffect_keeps h]; exact State.retains_of_eq rfl rfl rfl
  · exact haltEffect_retains h
  · exact haltEffect_retains h
  · exact abortEffect_retains h
  · exact extendEffect_retains h
  · exact addReservationEffect_retains h
  · unfold captureEffect at h; split at h <;> cases h
  · rw [readCountersEffect_keeps h]; exact State.retains_of_eq rfl rfl rfl
  · exact State.retains_of_eq (by simp [clearCountersEffect_keeps h]) (by simp [clearCountersEffect_keeps h])
      (by simp [clearCountersEffect_keeps h])
  · exact State.retains_of_eq (by simp [setThresholdEffect_keeps h]) (by simp [setThresholdEffect_keeps h])
      (by simp [setThresholdEffect_keeps h])
  · rw [storeStatusEffect_keeps h]; exact State.retains_of_eq rfl rfl rfl
  · exact State.retains_of_eq (by simp [setPoolEffect_keeps h]) (by simp [setPoolEffect_keeps h]) (by simp [setPoolEffect_keeps h])
  · exact State.retains_of_eq (by simp [linkStatusEffect_keeps h]) (by simp [linkStatusEffect_keeps h])
      (by simp [linkStatusEffect_keeps h])
  · exact State.retains_of_eq (by simp [setLinkParamsEffect_keeps h]) (by simp [setLinkParamsEffect_keeps h])
      (by simp [setLinkParamsEffect_keeps h])
  · exact State.retains_of_eq (by simp [relinkEffect_keeps h]) (by simp [relinkEffect_keeps h]) (by simp [relinkEffect_keeps h])
  · cases h

end Sys2Proof.Machine
end

-- ==== Proofs: the store arbiter and the chains ====
section
/-! Transfers and releases: a completed write and a completed release as equations (R81, R89), what the store arbiter's grants keep
(R84), and the law of the chains through every step (R73). -/

namespace Sys2Proof.Machine

/-! ### Transfers and releases -/

/-- A record after a release began: the head of its hold queue has left it (R88). -/
def Episode.headTaken (x : Episode) : Episode := { x with holdQueue := x.holdQueue.drop 1, inFlight := true }

/-- A release decision takes the head of the hold queue that it chose (R88). -/
theorem beginRelease_eq {s : State} {g : Nat} {e : Episode} {head : HeldPacket} {rest : List HeldPacket}
    (h : s.releaseChoice? g = some e) (hq : e.holdQueue = head :: rest) : s.beginRelease g =
      ((s.updEp e.slot Episode.headTaken).updPacer g (fun p =>
        { p with releaseCredit := p.releaseCredit - (head.length : Nat),
                 cursors := vupd p.cursors e.cls (fun _ => some e.slot) })).setRelease g (some ⟨head, false⟩) := by
  unfold State.beginRelease
  simp only [h, hq]
  rfl

/-- The episode a release decision chooses is one of the table. -/
theorem releaseChoice?_mem {s : State} {g : Nat} {e : Episode} (h : s.releaseChoice? g = some e) : e ∈ s.table.episodes := by
  unfold State.releaseChoice? at h
  split at h
  · obtain ⟨cls, -, hcls⟩ := List.exists_of_findSome?_eq_some h
    have hmem := (mem_ringAfter _ _ _ _).1 (List.mem_of_head? hcls)
    exact List.mem_of_mem_filter (List.mem_of_mem_filter hmem)
  · cases h

theorem live?_congr {s t : State} (h : t.table = s.table) (handle : Handle) : t.live? handle = s.live? handle := by
  unfold State.live? State.generation State.ep?
  rw [h]

/-- The state when a store write has ended: the packet's staging room is released (R81, R150). -/
def State.writeEnded (s : State) : State := ({ s with store := { s.store with transfer := .none } } : State).resumeCheck

@[simp] theorem State.writeEnded_table (s : State) : s.writeEnded.table = s.table := by simp [State.writeEnded]

@[simp] theorem State.writeEnded_store (s : State) : s.writeEnded.store = { s.store with transfer := .none } := by
  simp [State.writeEnded]

/-- A completed store write by the episode that its handle names: none, one that takes packets, or one in LINGER (R81). -/
theorem finishWrite_eq {s : State} {p : HeldPacket} (h : s.store.transfer = .write p) : s.finishWrite =
    match s.live? p.handle with
    | none => s.writeEnded
    | some e =>
      if e.state ≠ .linger then s.writeEnded.updEp e.slot (fun x => { x with holdQueue := x.holdQueue ++ [p] })
      else (s.writeEnded.updEp e.slot (fun x => x.discard p)).closeIfEmpty e.slot := by
  rw [← live?_congr s.writeEnded_table]
  unfold State.finishWrite
  rw [h]
  simp only [← Episode.isOpen_iff]
  rfl

/-- The packets with cells where no transfer is in progress (R73). -/
theorem packetsWithCells_ended {s t : State} (h : t.store = { s.store with transfer := .none }) :
    t.packetsWithCells = t.heldPackets ++ s.store.releasing := by
  rw [packetsWithCells_eq, h]
  simp only [Transfer.written?, Option.toList_none, List.append_nil, Store.releasing]

/-- The state when a release read has ended: the DRAM is free, and the group has no release in flight (R89). -/
def State.releaseEnded (s : State) (g : Nat) : State :=
  { s.setRelease g none with store := { (s.setRelease g none).store with transfer := .none } }

/-- A packet released: it is no longer charged, it is counted, and it fills its place of the released-packet queue (R89, R90). -/
def State.releasePacket (s : State) (g : Nat) (e : Episode) (p : HeldPacket) : State :=
  (s.updEp e.slot (fun x => { x.uncharge p with released := x.released.add p.length })).joinReleased g e p

/-- A completed release read by the episode that its handle names, and then by the cases of R89 in their order. -/
theorem finishRelease_eq (s : State) (g : Nat) (p : HeldPacket) (uncorrectable : Bool) : s.finishRelease g p uncorrectable =
    match s.live? p.handle with
    | none => if uncorrectable then (s.releaseEnded g).suspend g else s.releaseEnded g
    | some e =>
      State.afterEmptying
        (if uncorrectable then (((s.releaseEnded g).updEp e.slot (fun x => { x with inFlight := false })).updEp e.slot
            (fun x => { x.discard p with damaged := true })).suspend g
        else if (e.state = .active ∨ e.state = .draining) ∧ s.link.state = .up then
          ((s.releaseEnded g).updEp e.slot (fun x => { x with inFlight := false })).releasePacket g e p
        else ((s.releaseEnded g).updEp e.slot (fun x => { x with inFlight := false })).updEp e.slot (fun x => x.discard p))
        e.slot := by
  have hlive : State.live? { s.setRelease g none with store := { (s.setRelease g none).store with transfer := .none } } p.handle =
      s.live? p.handle := rfl
  unfold State.finishRelease
  dsimp only
  rw [hlive]
  cases s.live? p.handle with
  | none => rfl
  | some e =>
    refine congrArg (fun t => State.afterEmptying t e.slot) ?_
    refine if_congr Iff.rfl rfl (if_congr ?_ rfl rfl)
    rw [Bool.and_eq_true, Bool.or_eq_true, beq_iff_eq, beq_iff_eq]
    exact and_congr_right (fun _ => beq_iff_eq)

theorem State.Retains.refl (s : State) : s.Retains s := State.retains_of_eq rfl rfl rfl

theorem State.Retains.trans {s t u : State} (h : s.Retains t) (k : t.Retains u) : s.Retains u :=
  ⟨k.held.trans h.held, k.transfer.trans h.transfer, k.releases.trans h.releases⟩

theorem arbitrate_inv {P : State → Prop} (h : ∀ s r, s.waits r = true → P s → P (s.grantDram r)) (n : Nat) (s : State)
    (hs : P s) : P (State.arbitrate n s) := by
  induction n generalizing s with
  | zero => exact hs
  | succ n ih =>
    unfold State.arbitrate
    split
    · split
      · exact hs
      · rename_i r hr
        exact ih _ (h s r (arbiterPick_waits hr) hs)
    · exact hs

theorem mem_requesters {s : State} {r : Requester} : r ∈ s.requesters ↔ s.waits r = true := by
  unfold State.requesters
  cases r <;> simp [State.waits]

/-- Where two or more wait, the free value names one of them (R84, log entry 9). -/
theorem storeArbiter_chosen {s : State} (h : 2 ≤ s.requesters.length) :
    s.requesters.getD (Config.choice s.choices % s.requesters.length) .writer ∈ s.requesters := by
  rw [List.getD_eq_getElem _ _ (Nat.mod_lt _ (by omega))]
  exact List.getElem_mem _

/-- What the grants to those who wait keep, and the advance of the free value, the store arbiter keeps. -/
theorem storeArbiter_inv {P : State → Prop} (hc : ∀ s n, P s → P { s with choices := n })
    (h : ∀ s r, s.waits r = true → P s → P (s.grantDram r)) (s : State) (wasIdle : Bool) (hs : P s) :
    P (s.storeArbiter wasIdle) := by
  unfold State.storeArbiter
  dsimp only
  split
  · rename_i hchoice
    simp only [Bool.and_eq_true, decide_eq_true_eq] at hchoice
    have hwaits := mem_requesters.1 (storeArbiter_chosen hchoice.2)
    exact arbitrate_inv h 2 _ (h { s with choices := s.choices + 1 } _ hwaits (hc s _ hs))
  · exact arbitrate_inv h 2 s hs

namespace State.ChainLaw

variable {s t : State}

theorem distinct (h : s.ChainLaw) : s.SlotsDistinct := (chainLaw_iff.1 h).1

theorem sound (h : s.ChainLaw) : ChainsSound s.packetsWithCells := (chainLaw_iff.1 h).2

theorem retains (h : s.ChainLaw) (hd : t.SlotsDistinct) (hst : s.Retains t) : t.ChainLaw := by
  refine chainLaw_iff.2 ⟨hd, h.sound.subperm (List.Sublist.subperm ?_)⟩
  rw [packetsWithCells_eq, packetsWithCells_eq]
  unfold Store.releasing
  rw [hst.transfer, hst.releases]
  exact (hst.held.append_right _).append_right _

theorem frame (h : s.ChainLaw) (he : t.table.episodes = s.table.episodes) (ht : t.store.transfer = s.store.transfer)
    (hr : t.store.releases = s.store.releases) : t.ChainLaw :=
  h.retains (slotsDistinct_of_map (by rw [he]) h.distinct) (State.retains_of_eq he ht hr)

/-- The packets with cells of another state, no more of any than before. -/
theorem subperm (h : s.ChainLaw) (hd : t.SlotsDistinct) (hsub : t.packetsWithCells.Subperm s.packetsWithCells) : t.ChainLaw :=
  chainLaw_iff.2 ⟨hd, h.sound.subperm hsub⟩

/-- The transfer in progress and the releases in flight are written: every packet of theirs had its chain there. -/
theorem transferOf (h : s.ChainLaw) {c : Store} (htable : t.table.episodes = s.table.episodes) (hstore : t.store = c)
    (hc : (c.transfer.written?.toList ++ c.releasing).Subperm (s.store.transfer.written?.toList ++ s.store.releasing)) :
    t.ChainLaw := by
  refine h.subperm (slotsDistinct_of_map (by rw [htable]) h.distinct) ?_
  rw [packetsWithCells_eq, packetsWithCells_eq, heldPackets_congr htable, hstore, List.append_assoc, List.append_assoc]
  exact (List.subperm_append_left _).2 hc

/-- A write's grant: the head of the write list has free cells for its chain (R73, R80). -/
theorem grantWrite (h : s.ChainLaw) (hw : s.writerWaits = true) : s.grantWrite.ChainLaw := by
  cases hlist : s.store.writeList with
  | nil => simp [State.writerWaits, hlist] at hw
  | cons p rest =>
    obtain ⟨chain, hgrant, hlength, hnodup, hfree⟩ :=
      grantWrite_spec s p rest hlist hw h.sound.once h.sound.cells h.sound.whole
    rw [hgrant]
    have hmore : ChainsSound ({ p with chain := chain } :: s.packetsWithCells) := h.sound.cons hlength hnodup hfree
    refine chainLaw_iff.2 ⟨h.distinct, hmore.subperm (List.subperm_iff_count.2 (fun q => ?_))⟩
    rw [packetsWithCells_eq, packetsWithCells_eq]
    have hheld : ∀ n c, ({ s with choices := n, store := c } : State).heldPackets = s.heldPackets := fun _ _ => rfl
    simp only [hheld, Store.releasing, Transfer.written?, Option.toList_some, List.count_append, List.count_cons, List.count_nil]
    omega

/-- A read's grant leaves the packet where it is: with its release (R86). -/
theorem grantRead (h : s.ChainLaw) : s.grantRead.ChainLaw := by
  unfold State.grantRead
  split
  · exact h
  · rename_i g _
    refine h.transferOf rfl rfl ?_
    have hsame := setRelease_releasing (s := s) (g := g) (r := (s.release? g).map (fun r => { r with granted := true })) (extra := [])
      (by rw [List.nil_append, Option.map_map]; exact List.Subperm.refl _)
    exact List.Subperm.trans hsame (List.sublist_append_right _ _).subperm

theorem grantCapture (h : s.ChainLaw) : s.grantCapture.ChainLaw := by
  unfold State.grantCapture
  split
  · exact h
  · dsimp only
    split
    · exact h.frame rfl rfl rfl
    · split
      · exact h.frame rfl rfl rfl
      · exact h.transferOf rfl rfl (List.sublist_append_right _ _).subperm

theorem grantDram (h : s.ChainLaw) {r : Requester} (hr : s.waits r = true) : (s.grantDram r).ChainLaw := by
  cases r with
  | writer => exact h.grantWrite hr
  | reader => exact h.grantRead
  | capture => exact h.grantCapture

theorem storeArbiter (h : s.ChainLaw) (wasIdle : Bool) : (s.storeArbiter wasIdle).ChainLaw :=
  storeArbiter_inv (fun _ _ h => h.frame rfl rfl rfl) (fun _ _ hr h => h.grantDram hr) s wasIdle h

/-- A release decision moves the head of a hold queue to the releases in flight (R88). -/
theorem beginRelease (h : s.ChainLaw) (g : Nat) : (s.beginRelease g).ChainLaw := by
  refine h.subperm (slotsDistinct_tableInvariant.beginRelease s g h.distinct) ?_
  cases hchoice : s.releaseChoice? g with
  | none =>
    have hsame : s.beginRelease g = s := by simp [State.beginRelease, hchoice]
    rw [hsame]
  | some e =>
    cases hq : e.holdQueue with
    | nil =>
      have hsame : s.beginRelease g = s := by simp [State.beginRelease, hchoice, hq]
      rw [hsame]
    | cons head rest =>
      have hheld := updEp_heldPackets_perm h.distinct (ep?_of_mem h.distinct (releaseChoice?_mem hchoice)) Episode.headTaken
      have hreleasing := setRelease_releasing (s := s) (g := g) (r := some ⟨head, false⟩) (extra := [head])
        (List.sublist_append_left _ _).subperm
      have hpackets : (s.beginRelease g).packetsWithCells = (s.updEp e.slot Episode.headTaken).heldPackets ++
          s.store.transfer.written?.toList ++ (s.setRelease g (some ⟨head, false⟩)).store.releasing := by
        rw [beginRelease_eq hchoice hq]
        rfl
      rw [hpackets, packetsWithCells_eq, List.subperm_iff_count]
      intro p
      have hcount := List.perm_iff_count.1 hheld p
      have hreleased := List.subperm_iff_count.1 hreleasing p
      simp only [Episode.headTaken, hq, List.drop_succ_cons, List.drop_zero, List.count_append, List.count_cons, List.count_nil] at hcount hreleased ⊢
      omega

theorem beginReleases (h : s.ChainLaw) : s.beginReleases.ChainLaw :=
  foldl_inv State.ChainLaw _ (fun _ g h => h.beginRelease g) _ s h

/-- The written packet joins a hold queue with its chain, or gives its cells back (R81). -/
theorem finishWrite (h : s.ChainLaw) : s.finishWrite.ChainLaw := by
  have hd := slotsDistinct_tableInvariant.finishWrite s h.distinct
  cases ht : s.store.transfer with
  | none => rwa [State.finishWrite, ht]
  | release g => rwa [State.finishWrite, ht]
  | capture snap => rwa [State.finishWrite, ht]
  | write p =>
    have hended : s.writeEnded.ChainLaw := h.transferOf (by simp) s.writeEnded_store (List.sublist_append_right _ _).subperm
    rw [finishWrite_eq ht] at hd ⊢
    split
    · exact hended
    · rename_i e he
      have hep : s.writeEnded.ep? e.slot = some e := live?_ep? ((live?_congr s.writeEnded_table _).trans he)
      split
      · rename_i hopen
        simp only [he, if_pos hopen] at hd
        refine h.subperm hd (List.subperm_iff_count.2 (fun q => ?_))
        have hheld := List.perm_iff_count.1 (updEp_heldPackets_perm hended.distinct hep
          (fun x => { x with holdQueue := x.holdQueue ++ [p] })) q
        rw [heldPackets_congr (congrArg EpisodeTable.episodes s.writeEnded_table)] at hheld
        rw [packetsWithCells_ended (t := s.writeEnded.updEp e.slot _) s.writeEnded_store, packetsWithCells_eq, ht]
        simp only [List.count_append, Transfer.written?, Option.toList_some] at hheld ⊢
        omega
      · rename_i hlinger
        simp only [he, if_neg hlinger] at hd
        refine hended.retains hd (State.retains_of_store ?_ (by simp))
        rw [closeIfEmpty_heldPackets, updEp_heldPackets (fun x => x.discard_holdQueue p)]

/-- A release read's packet leaves with its cells, whatever becomes of it (R89). -/
theorem finishRelease (h : s.ChainLaw) (g : Nat) (p : HeldPacket) (uncorrectable : Bool) :
    (s.finishRelease g p uncorrectable).ChainLaw := by
  have hd := slotsDistinct_tableInvariant.finishRelease s g p uncorrectable h.distinct
  have hended : (s.releaseEnded g).ChainLaw := by
    have hreleasing := setRelease_releasing (s := s) (g := g) (r := none) (extra := []) (List.nil_subperm)
    exact h.transferOf rfl rfl (hreleasing.trans (List.sublist_append_right _ _).subperm)
  refine hended.retains hd ?_
  rw [finishRelease_eq]
  generalize s.releaseEnded g = u
  have hsuspended : ∀ t : State, u.Retains t → u.Retains (t.suspend g) := fun t ht =>
    ht.trans (State.retains_of_eq (by simp) (by simp) (by simp))
  have hemptied : ∀ (t : State) (slot : Nat), u.Retains t → u.Retains (t.afterEmptying slot) := fun t slot ht =>
    ht.trans (State.retains_of_store (by rw [afterEmptying_heldPackets]) (by simp))
  have hrewritten : ∀ (slot : Nat) (f : Episode → Episode), (∀ x, (f x).holdQueue = x.holdQueue) →
      u.Retains ((u.updEp slot (fun x => { x with inFlight := false })).updEp slot f) := fun slot f hf =>
    (updEp_retains u slot (fun _ => by rfl)).trans (updEp_retains _ slot hf)
  split
  · split
    · exact hsuspended u (State.Retains.refl u)
    · exact State.Retains.refl u
  · rename_i e _
    refine hemptied _ e.slot ?_
    split
    · exact hsuspended _ (hrewritten e.slot (fun x => { x.discard p with damaged := true }) (fun x => x.discard_holdQueue p))
    · split
      · exact (hrewritten e.slot (fun x => { x.uncharge p with released := x.released.add p.length })
          (fun x => x.uncharge_holdQueue p)).trans (State.retains_of_eq rfl rfl rfl)
      · exact hrewritten _ _ (fun x => x.discard_holdQueue p)

theorem finishRead (h : s.ChainLaw) (corrected : Nat) (uncorrectable : Bool) : (s.finishRead corrected uncorrectable).ChainLaw := by
  have hnone : ({ s with store := { s.store with transfer := .none } } : State).ChainLaw :=
    h.transferOf rfl rfl (List.sublist_append_right _ _).subperm
  unfold State.finishRead
  split
  · exact h
  · exact h
  · exact h
  · split
    · exact hnone
    · exact State.ChainLaw.finishRelease (s := s.noteCorrected corrected) (h.frame rfl rfl rfl) _ _ _

theorem finishCapture (h : s.ChainLaw) (corrected : Nat) (uncorrectable : Bool) :
    (s.finishCapture corrected uncorrectable).ChainLaw := by
  have hnone : ({ s with store := { s.store with transfer := .none } } : State).ChainLaw :=
    h.transferOf rfl rfl (List.sublist_append_right _ _).subperm
  unfold State.finishCapture
  split
  · exact h
  · exact h
  · exact h
  · dsimp only
    split
    · exact hnone
    · split
      · exact hnone.frame rfl rfl rfl
      · exact hnone.frame rfl rfl rfl

/-! ### Events -/

theorem takePayload (h : s.ChainLaw) (last : Bool) (count : Byte) (data : List Byte) : (s.takePayload last count data).ChainLaw :=
  h.retains (slotsDistinct_tableInvariant.takePayload s last count data h.distinct)
    ⟨by rw [takePayload_heldPackets], by simp, by simp⟩

theorem sightingWord (h : s.ChainLaw) (port : Nat) (a : Announcement) : (s.sightingWord port a).ChainLaw :=
  h.retains (slotsDistinct_tableInvariant.sightingWord s port a h.distinct)
    (State.retains_of_store (sightingWord_heldPackets s port a) (by simp))

theorem markerWord (h : s.ChainLaw) (port : Nat) {taken : State → Nat → State}
    (ht : ∀ t, (taken t port).table = t.table ∧ (taken t port).store = t.store) : (s.markerWord port taken).ChainLaw := by
  have hbroken : (s.breakOpen false).ChainLaw := h.frame (by simp) (by simp) (by simp)
  unfold State.markerWord
  dsimp only
  split
  · exact hbroken.frame rfl rfl rfl
  · exact hbroken.frame (by rw [(ht _).1]) (by rw [(ht _).2]) (by rw [(ht _).2])

theorem completeDrain (h : s.ChainLaw) (g : Nat) : (s.completeDrain g).ChainLaw :=
  h.retains (slotsDistinct_tableInvariant.completeDrain s g h.distinct)
    (State.retains_of_store (completeDrain_heldPackets s g) (by simp))

theorem decisions (h : s.ChainLaw) (n : Nat) : (State.decisions n s).ChainLaw :=
  h.retains (slotsDistinct_tableInvariant.decisions n s h.distinct)
    (State.retains_of_store (by rw [decisions_heldPackets]) (by simp))

theorem consequences (h : s.ChainLaw) (wasIdle : Bool) : (s.consequences wasIdle).ChainLaw := by
  have hdrained : s.completeDrains.ChainLaw := foldl_inv State.ChainLaw _ (fun _ g h => h.completeDrain g) _ s h
  have hbegun : ∀ t : State, t.ChainLaw → t.beginItem.ChainLaw := fun t ht => ht.frame (by simp) (by simp) (by simp)
  exact (hbegun _ (((hbegun _ hdrained).beginReleases.storeArbiter wasIdle).decisions 512)).decisions 512

theorem performed (h : s.ChainLaw) {f : Frame} {b : ReplyBody} (ht : performed f s = .ok t b) : t.ChainLaw :=
  h.retains (slotsDistinct_tableInvariant.performed ht h.distinct) (performed_retains ht)

/-- Every reset empties the hold queues, the DRAM and the releases in flight (R98, R177). -/
theorem ofReset {initialising : Bool} (htable : s.table.episodes = []) (hstore : s.store = Store.powerOn initialising) :
    s.ChainLaw := by
  refine chainLaw_iff.2 ⟨by unfold State.SlotsDistinct; rw [htable]; exact List.nodup_nil, ?_⟩
  have hnone : s.packetsWithCells = [] := by
    have hreleases : (Vector.replicate 48 (none : Option Release)).toList.filterMap (fun r => r.map (fun x => x.packet)) = [] := by
      decide
    unfold State.packetsWithCells
    rw [htable, hstore]
    exact hreleases
  rw [hnone]
  exact ChainsSound.nil

theorem transmitDone (h : s.ChainLaw) : s.transmitDone.ChainLaw := by
  unfold State.transmitDone
  split
  · exact h
  · dsimp only
    split
    · exact h.frame rfl rfl rfl
    · split
      · exact ofReset (by simp [State.resetPart]) (by simp [State.resetPart]; rfl)
      · exact h.frame rfl rfl rfl

theorem resets (h : s.ChainLaw) : s.assertReset.ChainLaw ∧ s.releaseReset.ChainLaw := by
  refine ⟨ofReset rfl rfl, ?_⟩
  unfold State.releaseReset
  split
  · exact ofReset rfl rfl
  · exact h

theorem takeWord (h : s.ChainLaw) {inParams inUp : State → State} (hp : ∀ t : State, t.ChainLaw → (inParams t).ChainLaw)
    (hu : ∀ t : State, t.ChainLaw → (inUp t).ChainLaw) : (s.takeWord inParams inUp).ChainLaw := by
  unfold State.takeWord
  dsimp only
  split
  · exact h
  · exact h.frame (by simp) (by simp) (by simp)
  · exact h.frame (by simp) (by simp) (by simp)
  · exact hp _ (h.frame (by simp) (by simp) (by simp))
  · exact hu _ (h.frame (by simp) (by simp) (by simp))

/-- The effect of every row that is an event of its own. -/
theorem eventOf {i : Instr} {effect : State → State} (hi : eventOf? i = some effect) (h : s.ChainLaw) : (effect s).ChainLaw := by
  have hd := slotsDistinct_tableInvariant.eventOf hi s h.distinct
  cases i with
  | transmitComplete => cases hi; exact h.transmitDone
  | pacerTick => cases hi; exact h.retains hd (State.retains_of_store (by rw [pacerTick_heldPackets]) (by simp))
  | grantTimerExpiry slot position number =>
    cases hi; exact h.retains hd (State.retains_of_store (by rw [expireGrant_heldPackets]) (by simp))
  | deadlineExpiry slot => cases hi; exact h.retains hd (State.retains_of_store (takeDeadline_heldPackets s slot) (by simp))
  | idleExpiry slot => cases hi; exact h.retains hd (State.retains_of_store (by rw [takeIdle_heldPackets]) (by simp))
  | lingerExpiry slot => cases hi; exact h.retains hd (State.retains_of_store (takeLinger_heldPackets s slot) (by simp))
  | storeWriteComplete => cases hi; exact h.finishWrite
  | releaseReadComplete corrected uncorrectable => cases hi; exact h.finishRead corrected uncorrectable
  | captureReadComplete corrected uncorrectable => cases hi; exact h.finishCapture corrected uncorrectable
  | payloadWord last count data => cases hi; exact h.takeWord (fun _ => id) (fun t ht => ht.takePayload last count data)
  | sighting port requester tag n e cls report =>
    cases hi; exact h.takeWord (fun _ => id) (fun t ht => ht.sightingWord port.toNat _)
  | parameterBlock linkId laneCount portCount maxLength checksum =>
    cases hi
    exact h.takeWord (fun t ht => ht.frame (by simp) (by simp) (by simp)) (fun t ht => ht.frame (by simp) (by simp) (by simp))
  | packetDescriptor port flags length dest src tag grant =>
    cases hi; exact h.takeWord (fun _ => id) (fun t ht => ht.frame (by simp) (by simp) (by simp))
  | divertStarted port => cases hi; exact h.takeWord (fun _ => id) (fun t ht => ht.markerWord port.toNat (fun t => by simp))
  | divertStopped port => cases hi; exact h.takeWord (fun _ => id) (fun t ht => ht.markerWord port.toNat (fun t => by simp))
  | statusWord full => cases hi; exact h.takeWord (fun _ => id) (fun t ht => ht.frame (by simp) (by simp) (by simp))
  | holdReturn => cases hi; exact h.takeWord (fun _ => id) (fun t ht => ht.frame (by simp) (by simp) (by simp))
  | resumeReturn => cases hi; exact h.takeWord (fun _ => id) (fun t ht => ht.frame (by simp) (by simp) (by simp))
  | idleWord => cases hi; exact h.takeWord (fun _ => id) (fun _ => id)
  | unknownTypeWord marker => cases hi; exact h.takeWord (fun _ => id) (fun t ht => ht.frame (by simp) (by simp) (by simp))
  | _ => cases hi <;> exact h.frame (by simp) (by simp) (by simp)

end State.ChainLaw

/-- Settles O56: a packet's chain goes with it from the write to the hold queue and to the release, and only a write's grant
gives cells, which are free. -/
theorem stepsKeepChainsDisjointAndWhole : Obligations.StepsKeepChainsDisjointAndWhole :=
  step_inv (P := State.ChainLaw) (fun _ _ h => h.frame rfl rfl rfl) (fun _ _ h => h.frame rfl rfl rfl)
    (fun _ _ h => h.frame rfl rfl rfl) (fun _ _ h => h.frame rfl rfl rfl) (fun _ w h => h.consequences w)
    (fun _ _ _ _ ht h => h.performed ht) (fun _ _ hi _ h => h.eventOf hi) (fun _ h => h.resets)

end Sys2Proof.Machine
end

-- ==== Proofs: the store commands in their steps ====
section
/-! The host's commands on the store and the counters (R77, R78, R95, R165 to R167), the CAPTURE held by the engine and answered
when its read completes (R96), and the reset input (R98, R158). -/

namespace Sys2Proof.Machine

/-! ### The reset input -/

/-- Settles O5: both rows are their effects; the release acts on a part that the input holds in reset. -/
theorem resetInputHoldsAndReleasesThePart : Obligations.ResetInputHoldsAndReleasesThePart := by
  refine ⟨fun _ => rfl, fun s hs => ?_⟩
  have hrelease : s.releaseReset = { State.reset with pending := s.pending, choices := s.choices } := by
    unfold State.releaseReset
    rw [if_pos hs]
    rfl
  exact congrArg Host.Outcome.next hrelease

/-! ### Store and counter commands -/

/-- SET_POOL on the body of its row's frame (R77). -/
theorem setPoolEffect_eq (s : State) (floor : BitVec 24) :
    setPoolEffect (toBe 3 floor.toNat) s.begun =
      (if 2097152 < floor.toNat then .refuse .badValue
       else .ok { s.begun with store := { s.store with floor := floor.toNat } }
        (.pool floor.toNat (min (2097152 - floor.toNat - s.sumR) (2097152 - s.sumR - s.sumB)))) := by
  have hfloor : fieldAt (toBe 3 floor.toNat) 0 3 = floor.toNat := by simpa using fieldAt_three floor [] [] 0 rfl
  unfold setPoolEffect
  dsimp only
  rw [hfloor]
  rfl

/-- READ_COUNTERS on the body of its row's frame (R166). -/
theorem readCountersEffect_eq (s : State) (port : Byte) :
    readCountersEffect [port] s.begun =
      (if 48 ≤ port.toNat then .refuse .badValue
       else if (s.port port.toNat).role = .pairOdd then .refuse .wrongPort
       else .ok s.begun (.counters { set := s.counterSet port.toNat, threshold := s.counters.threshold,
                                     mode := (s.policy port.toNat).mode, protect := (s.policy port.toNat).protect })) := by
  unfold readCountersEffect
  dsimp only
  rw [show portAt [port] 0 = port.toNat from rfl, begun_portRefusal]
  split_ifs <;> rfl

/-- CLEAR_COUNTERS on the body of its row's frame (R167). -/
theorem clearCountersEffect_eq (s : State) (port : Byte) :
    clearCountersEffect [port] s.begun =
      (if 48 ≤ port.toNat then .refuse .badValue
       else if (s.port port.toNat).role = .pairOdd then .refuse .wrongPort
       else .ok (s.begun.updCounters port.toNat (fun _ => CounterSet.zero)) (.cleared (s.counterSet port.toNat))) := by
  unfold clearCountersEffect
  dsimp only
  rw [show portAt [port] 0 = port.toNat from rfl, begun_portRefusal]
  split_ifs <;> rfl

/-- SET_THRESHOLD on the body of its row's frame (R165). -/
theorem setThresholdEffect_eq (s : State) (value : Byte) :
    setThresholdEffect [value] s.begun =
      (if value = 0 then .refuse .badValue
       else .ok { s.begun with counters := { s.counters with threshold := value.toNat } } (.number s.counters.threshold)) := by
  have hzero : value.toNat = 0 ↔ value = 0 := (BitVec.toNat_inj (y := 0#8) :)
  unfold setThresholdEffect
  exact if_congr hzero rfl rfl

/-- Settles O40: each row by its effect on its frame's body. -/
theorem storeAndCounterCommandsReportAndSet : Obligations.StoreAndCounterCommandsReportAndSet := by
  refine ⟨fun s tag hS => ?_, fun s tag floor hS => ?_, fun s tag port hS => ?_, fun s tag port hS => ?_,
    fun s tag value hS => ?_⟩
  · exact endsAt_served rfl hS rfl (by simp) rfl
  · refine endsAt_served rfl hS rfl (by simp [toBe]) ?_
    rw [show performed ⟨kindSetPool, tag, toBe 3 floor.toNat⟩ s.begun = _ from setPoolEffect_eq s floor]
    split_ifs <;> rfl
  · refine endsAt_served rfl hS rfl (by simp) ?_
    rw [show performed ⟨kindReadCounters, tag, [port]⟩ s.begun = _ from readCountersEffect_eq s port]
    split_ifs <;> rfl
  · refine endsAt_served rfl hS rfl (by simp) ?_
    rw [show performed ⟨kindClearCounters, tag, [port]⟩ s.begun = _ from clearCountersEffect_eq s port]
    split_ifs <;> rfl
  · refine endsAt_served rfl hS rfl (by simp) ?_
    rw [show performed ⟨kindSetThreshold, tag, [value]⟩ s.begun = _ from setThresholdEffect_eq s value]
    split_ifs <;> rfl

/-! ### CAPTURE -/

theorem captureWaiting?_of_capturing {s : State} {tag : Byte} {h : Handle} (he : s.mgmt.engine = .capturing tag h) :
    s.captureWaiting? = some (tag, h) := by
  unfold State.captureWaiting?
  rw [he]

/-- A completed capture read, while the engine holds the CAPTURE (R96). -/
theorem finishCapture_eq {s : State} {snap : CaptureSnap} {tag : Byte} {h : Handle} (ht : s.store.transfer = .capture snap)
    (he : s.mgmt.engine = .capturing tag h) (corrected : Nat) (uncorrectable : Bool) : s.finishCapture corrected uncorrectable =
      (let ended : State := { s with store := { s.store with transfer := .none } }
       if uncorrectable then ended.answerCapture tag .dataError .nothing
       else (ended.noteCorrected corrected).answerCapture tag .ok (.captured (captureReply snap))) := by
  unfold State.finishCapture
  rw [ht]
  dsimp only
  rw [captureWaiting?_of_capturing he]

/-- Settles O35: the row by CAPTURE's effect, the completed read by `finishCapture_eq`. -/
theorem captureWaitsAndIsAnswered : Obligations.CaptureWaitsAndIsAnswered := by
  refine ⟨fun s tag handle hS => ?_, fun s snap tag h corrected hr ht he => ⟨?_, ?_⟩⟩
  · refine endsAt_served rfl hS rfl (by simp [toBe]) ?_
    rw [show performed ⟨kindCapture, tag, toBe 2 handle.toNat⟩ s.begun = captureEffect (toBe 2 handle.toNat) s.begun from rfl]
    unfold captureEffect
    rw [handleAt_alone, begun_live?]
    cases s.live? (handleOf handle) with
    | none => rfl
    | some e =>
      unfold Performed.ends
      dsimp only
      rw [handleAt_alone]
  · exact endsAt_event rfl hr (finishCapture_eq (s := s.begun) ht he corrected false)
  · exact endsAt_event rfl hr (finishCapture_eq (s := s.begun) ht he corrected true)

end Sys2Proof.Machine
end

-- ==== Proofs: the completions of the store ====
section
/-! The completions of a store write and of a release read in their events (R81, R89, R90, R92, R93). -/

namespace Sys2Proof.Machine

/-- A completed release read, while the group's release is in flight: the corrected count, then the cases of R89 (R92). -/
theorem finishRead_eq {s : State} {g : Nat} {r : Release} (ht : s.store.transfer = .release g) (hr : s.release? g = some r)
    (corrected : Nat) (uncorrectable : Bool) :
    s.finishRead corrected uncorrectable = (s.noteCorrected corrected).finishRelease g r.packet uncorrectable := by
  unfold State.finishRead
  rw [ht]
  dsimp only
  rw [hr]

/-- The release ended after the corrected count was raised (R89, R92). -/
theorem noteCorrected_releaseEnded (s : State) (corrected g : Nat) :
    (s.noteCorrected corrected).releaseEnded g = { s with store := { s.store with
      corrected := min (s.store.corrected + corrected) 4294967295, transfer := .none,
      releases := vupd s.store.releases g (fun _ => none) } } := rfl

theorem suspend_eq (s : State) (port : Nat) : s.suspend port =
    (let g := s.groupOf port
     if (s.port g).suspended = true then s
     else (s.updPort g (fun x => { x with suspended := true })).raisePortState g .store) := rfl

theorem Episode.uncharge_eq (x : Episode) (p : HeldPacket) : x.uncharge p = (match p.kind with
    | .own => { x with heldOwn := x.heldOwn - cellsOf p.length }
    | .borrowed => { x with borrowed := x.borrowed - cellsOf p.length }) := rfl

/-- Settles O38: the write by `finishWrite_eq`, the read by `finishRead_eq` and `finishRelease_eq`. -/
theorem storeCompletionsHoldReleaseOrDiscard : Obligations.StoreCompletionsHoldReleaseOrDiscard := by
  refine ⟨fun s p hr hp => ?_, fun s g corrected bad r hr ht hrel => ?_, suspend_eq, fun _ _ _ _ => rfl, fun x p => ⟨?_, ?_⟩⟩
  · exact endsAt_event rfl hr (finishWrite_eq (s := s.begun) hp)
  · refine endsAt_event rfl hr ((finishRead_eq (s := s.begun) ht hrel corrected bad).trans ?_)
    rw [finishRelease_eq, noteCorrected_releaseEnded]
    dsimp only
    rw [show (s.begun.noteCorrected corrected).live? r.packet.handle = s.live? r.packet.handle from rfl]
    cases s.live? r.packet.handle with
    | none => rfl
    | some e =>
      dsimp only
      rw [show (s.begun.noteCorrected corrected).link = s.link from rfl]
      split_ifs <;> rfl
  · exact x.uncharge_eq p
  · rfl

end Sys2Proof.Machine
end

-- ==== Proofs: the grants of cells ====
section
/-! Who waits for the DRAM and what a grant does (R73, R80, R84 to R87, R96, R97): the packets with cells, the reader's drain
group in ring order, and each of the three grants as an equation. -/

namespace Sys2Proof.Machine

/-! ### Cells -/

/-- A packet with cells stands in a hold queue, is being written, or is in flight (R73). -/
theorem mem_packetsWithCells {s : State} {p : HeldPacket} : p ∈ s.packetsWithCells ↔
    (∃ e ∈ s.table.episodes, p ∈ e.holdQueue) ∨ s.store.transfer = .write p ∨
      ∃ r ∈ s.store.releases.toList, ∃ x, r = some x ∧ x.packet = p := by
  have hheld : p ∈ s.heldPackets ↔ ∃ e ∈ s.table.episodes, p ∈ e.holdQueue := by
    simp [State.heldPackets]
  have hwritten : p ∈ s.store.transfer.written?.toList ↔ s.store.transfer = .write p := by
    cases s.store.transfer <;> simp [Transfer.written?, eq_comm]
  have hflight : p ∈ s.store.releasing ↔ ∃ r ∈ s.store.releases.toList, ∃ x, r = some x ∧ x.packet = p := by
    simp only [Store.releasing, List.mem_filterMap, Option.map_eq_some_iff]
  rw [packetsWithCells_eq, List.mem_append, List.mem_append, hheld, hwritten, hflight, or_assoc]

/-- The writer waits when the free cells are enough for the head of the write list (R80). -/
theorem writerWaits_iff {s : State} : s.writerWaits = true ↔
    s.store.initialising = false ∧ ∃ p rest, s.store.writeList = p :: rest ∧ cellsOf p.length ≤ s.freeCells := by
  unfold State.writerWaits
  cases s.store.writeList with
  | nil => simp
  | cons p rest => simp

/-! ### The reader's drain group -/

theorem mem_releasesWaiting {s : State} {g : Nat} :
    g ∈ s.releasesWaiting ↔ g < 48 ∧ ∃ r, s.release? g = some r ∧ r.granted = false := by
  unfold State.releasesWaiting
  rw [List.mem_filter, List.mem_range, Option.any_eq_true]
  simp only [Bool.not_eq_true', Config.portCount]

theorem readerGroup?_eq_none {s : State} : s.readerGroup? = none ↔
    16 ≤ s.store.released.length ∨ s.store.initialising = true ∨ ∀ g, g ∉ s.releasesWaiting := by
  have hring : (ringAfter (fun g : Nat => g) s.store.groupCursor s.releasesWaiting).head? = none ↔
      ∀ g, g ∉ s.releasesWaiting := by
    rw [List.head?_eq_none_iff, List.eq_nil_iff_forall_not_mem]
    exact forall_congr' (fun g => not_congr (mem_ringAfter _ _ _ g))
  unfold State.readerGroup?
  split
  · rename_i hplace
    simp only [Bool.and_eq_true, decide_eq_true_eq, Bool.not_eq_true', Config.releasedPlaces] at hplace
    obtain ⟨hfill, hinit⟩ := hplace
    rw [hring]
    simp [hinit, Nat.not_le.2 hfill]
  · rename_i hplace
    simp only [Bool.and_eq_true, decide_eq_true_eq, Bool.not_eq_true', Config.releasedPlaces, not_and_or, Nat.not_lt,
      Bool.not_eq_false] at hplace
    exact iff_of_true rfl (hplace.imp_right Or.inl)

/-- The reader presents the first of the groups that wait in the ring order of its cursor (R86). -/
theorem readerGroup?_first {s : State} {g : Nat} (h : s.readerGroup? = some g) :
    s.store.initialising = false ∧ g ∈ s.releasesWaiting ∧
      ∀ x ∈ s.releasesWaiting, x = g ∨ RingBefore s.store.groupCursor g x := by
  have hordered : s.releasesWaiting.Pairwise (fun a b => a < b) := List.pairwise_lt_range.filter _
  have hring := ringAfter_pairwise (fun g : Nat => g) s.store.groupCursor _ hordered
  unfold State.readerGroup? at h
  split at h
  · rename_i hplace
    simp only [Bool.and_eq_true, Bool.not_eq_true'] at hplace
    obtain ⟨rest, hlist⟩ := List.head?_eq_some_iff.1 h
    rw [hlist, List.pairwise_cons] at hring
    have hmem : ∀ x, x ∈ s.releasesWaiting ↔ x = g ∨ x ∈ rest := fun x => by
      rw [← mem_ringAfter (fun g : Nat => g) s.store.groupCursor, hlist, List.mem_cons]
    exact ⟨hplace.2, (hmem g).2 (Or.inl rfl), fun x hx => ((hmem x).1 hx).imp_right (hring.1 x)⟩
  · cases h

/-- In the ring order after a cursor a first element is the lowest above the cursor, or none stands above it (R86). -/
theorem RingBefore.first {c g : Nat} {waits : Nat → Prop} (h : ∀ x, waits x → x = g ∨ RingBefore (some c) g x) :
    (c < g ∧ ∀ x, waits x → c < x → g ≤ x) ∨ (g ≤ c ∧ ∀ x, waits x → x ≤ c ∧ g ≤ x) := by
  unfold RingBefore at h
  dsimp only at h
  by_cases hc : c < g
  · simp only [if_pos hc] at h
    exact Or.inl ⟨hc, fun x hx hcx => by have := h x hx; omega⟩
  · simp only [if_neg hc] at h
    exact Or.inr ⟨by omega, fun x hx => by have := h x hx; omega⟩

/-! ### The grants -/

theorem captureWaiting?_isSome (s : State) :
    s.captureWaiting?.isSome = (match s.mgmt.engine with | .capturing _ _ => true | _ => false) := by
  unfold State.captureWaiting?
  cases s.mgmt.engine <;> rfl

/-- A write's grant takes the head of the write list, whatever chain it gets (R80). -/
theorem grantWrite_eq {s : State} {p : HeldPacket} {rest : List HeldPacket} (h : s.store.writeList = p :: rest) :
    s.grantWrite = { s with choices := s.choices + 1, store := { s.store with
      writeList := rest, lastServed := some .writer, passCount := s.notePass,
      transfer := .write { p with chain := pickCells s.usedCells (cellsOf p.length) (Config.firstCell s.choices) } } } := by
  unfold State.grantWrite
  rw [h]

theorem grantRead_eq {s : State} {g : Nat} {r : Release} (hg : s.readerGroup? = some g) (hr : s.release? g = some r) :
    s.grantRead = { s with store := { s.store with
      releases := vupd s.store.releases g (fun _ => some { r with granted := true }), transfer := .release g,
      groupCursor := some g, lastServed := some .reader, passCount := s.notePass } } := by
  unfold State.grantRead
  rw [hg]
  dsimp only
  rw [hr]
  rfl

/-- The capture reader's grant, while the engine holds a CAPTURE (R96, R97). -/
theorem grantCapture_eq {s : State} {tag : Byte} {h : Handle} (he : s.mgmt.engine = .capturing tag h) :
    s.grantCapture =
      (let u : State := { s with store := { s.store with passCount := 0 } }
       match s.live? h with
       | none => u.answerCapture tag .staleHandle .nothing
       | some e =>
         match e.holdQueue with
         | [] => u.answerCapture tag .empty .nothing
         | head :: _ => { u with store := { u.store with transfer := .capture ⟨head, e.holdQueue.length⟩ } }) := by
  unfold State.grantCapture
  rw [captureWaiting?_of_capturing he]
  rfl

/-- A grant to another requester is counted exactly while a CAPTURE waits (R85). -/
theorem notePass_eq (s : State) : s.notePass =
    (match s.mgmt.engine with | .capturing _ _ => min 16 (s.store.passCount + 1) | _ => s.store.passCount) := by
  unfold State.notePass
  rw [captureWaiting?_isSome]
  cases s.mgmt.engine <;> rfl

/-- Settles O37: each clause by its rule; the reader's turn by `readerGroup?_first`, a write's free cells by
`grantWrite_spec`. -/
theorem storeGrantsTakeCellsAndTurns : Obligations.StoreGrantsTakeCellsAndTurns := by
  refine ⟨fun s p => ⟨rfl, mem_packetsWithCells, rfl⟩, fun s => rfl, fun s => writerWaits_iff, fun s => ?_,
    fun s p rest hw => ?_, fun s g r => grantRead_eq, fun s tag h he => ?_, fun s => ⟨fun he => ?_, fun he => ?_⟩⟩
  · dsimp only
    refine ⟨readerGroup?_eq_none.trans (by simp only [mem_releasesWaiting]), fun g hg => ?_⟩
    obtain ⟨hinit, hwaits, hfirst⟩ := readerGroup?_first hg
    simp only [mem_releasesWaiting] at hwaits hfirst
    refine ⟨readerGroup?_place hg, hinit, hwaits, fun hc x hx => ?_, fun c hc => ?_⟩
    · rw [hc] at hfirst
      rcases hfirst x hx with rfl | hlt
      · exact le_rfl
      · exact Nat.le_of_lt hlt
    · rw [hc] at hfirst
      exact RingBefore.first hfirst
  · by_cases hsound : s.writerWaits = true ∧ s.usedCells.Nodup ∧ (∀ c ∈ s.usedCells, c < 2097152) ∧
        ∀ x ∈ s.packetsWithCells, x.chain.length = cellsOf x.length
    · obtain ⟨hwaits, honce, hbound, hwhole⟩ := hsound
      obtain ⟨chain, heq, hchain⟩ := grantWrite_spec s p rest hw hwaits honce hbound hwhole
      exact ⟨chain, heq, fun _ _ _ _ => hchain⟩
    · exact ⟨_, grantWrite_eq hw, fun h1 h2 h3 h4 => absurd ⟨h1, h2, h3, h4⟩ hsound⟩
  · exact grantCapture_eq he
  · obtain ⟨tag, h, hcapturing⟩ := he
    rw [notePass_eq, hcapturing]
  · rw [notePass_eq]
    cases hengine : s.mgmt.engine with
    | capturing tag h => exact absurd hengine (he tag h)
    | idle => rfl
    | resetting => rfl

end Sys2Proof.Machine
end

-- ==== Proofs: the arbiters of the store and the return interface ====
section
/-! The store arbiter's choice and its grants at the end of an event (R84, R85, R96), and the return arbiter's items (R150, R153,
R154). -/

namespace Sys2Proof.Machine

/-! ### The store arbiter -/

/-- The cases of R85, with the two transfers in turn where both wait. -/
theorem arbiterChoice_eq (writer reader capture : Bool) (pass fill : Nat) (last : Option Served) :
    arbiterChoice writer reader capture pass fill last =
      if capture = true ∧ pass = 16 then some .capture
      else if writer = true ∧ 98304 ≤ fill then some .writer
      else if writer = true ∧ reader = true then
        (match last with | none => some .writer | some .writer => some .reader | some .reader => some .writer)
      else if writer = true then some .writer
      else if reader = true then some .reader
      else if capture = true then some .capture
      else none := by
  have hturn : (if last == some .writer then some Requester.reader else some .writer) =
      (match last with | none => some .writer | some .writer => some .reader | some .reader => some .writer) := by
    rcases last with _ | ⟨_ | _⟩ <;> rfl
  unfold arbiterChoice
  rw [hturn]
  simp only [Bool.and_eq_true, beq_iff_eq, decide_eq_true_eq, Config.writerFirstLevel]

theorem dramIdle_iff {s : State} : s.dramIdle = true ↔ s.store.transfer = .none := beq_iff_eq

/-- A requester granted, and where the DRAM is still free the next choice granted too (R84, R96). -/
def State.grantInTurn (s : State) (r : Requester) : State :=
  let v := s.grantDram r
  if v.store.transfer ≠ .none then v
  else match v.arbiterPick with
    | none => v
    | some q => v.grantDram q

/-- After a grant one more grant is enough: a grant that leaves the DRAM free has answered the only CAPTURE (R87). -/
theorem arbitrate_grantDram {s : State} {r : Requester} (h : s.waits r = true) (n : Nat) :
    State.arbitrate (n + 1) (s.grantDram r) = s.grantInTurn r := by
  unfold State.grantInTurn State.arbitrate
  dsimp only
  by_cases hidle : (s.grantDram r).store.transfer = .none
  · rw [if_pos (dramIdle_iff.2 hidle), if_neg (not_not_intro hidle)]
    cases hpick : (s.grantDram r).arbiterPick with
    | none => rfl
    | some q =>
      have hwaits := arbiterPick_waits hpick
      refine arbitrate_of_busy ?_ n
      rcases grantDram_busy hwaits with hbusy | ⟨-, rfl⟩
      · exact hbusy
      · rcases grantDram_busy h with hbusy | ⟨hnone, -⟩
        · exact absurd (dramIdle_iff.2 hidle) (by simp [hbusy])
        · simp [State.waits, hnone] at hwaits
  · rw [if_neg (fun h => hidle (dramIdle_iff.1 h)), if_pos hidle]

/-- An idle DRAM is handed to the requester that R85 chooses, and then in turn. -/
theorem arbitrate_of_idle {s : State} (h : s.store.transfer = .none) (n : Nat) :
    State.arbitrate (n + 2) s = (match s.arbiterPick with | none => s | some r => s.grantInTurn r) := by
  rw [State.arbitrate, if_pos (dramIdle_iff.2 h)]
  cases hpick : s.arbiterPick with
  | none => rfl
  | some r => exact arbitrate_grantDram (arbiterPick_waits hpick) n

theorem storeArbiter_of_busy {s : State} (h : s.store.transfer ≠ .none) (wasIdle : Bool) : s.storeArbiter wasIdle = s := by
  have hbusy : s.dramIdle = false := by simpa [← dramIdle_iff] using h
  unfold State.storeArbiter
  simp [hbusy, arbitrate_of_busy hbusy]

/-- Without two that came to wait at an idle DRAM the cases of R85 decide alone (R84). -/
theorem storeArbiter_decided {s : State} {wasIdle : Bool} (h : s.store.transfer = .none)
    (hone : wasIdle = false ∨ s.requesters.length < 2) :
    s.storeArbiter wasIdle = (match s.arbiterPick with | none => s | some r => s.grantInTurn r) := by
  unfold State.storeArbiter
  dsimp only
  rw [if_neg, arbitrate_of_idle h]
  simp only [Bool.and_eq_true, decide_eq_true_eq]
  rintro ⟨⟨-, hidle⟩, htwo⟩
  rcases hone with hfalse | hfew
  · simp [hfalse] at hidle
  · omega

/-- Two or more that came to wait at an idle DRAM: the free value names the first (R84, log entry 9). -/
theorem storeArbiter_free {s : State} (h : s.store.transfer = .none) (htwo : 2 ≤ s.requesters.length) :
    ∃ r ∈ s.requesters, s.storeArbiter true = State.grantInTurn { s with choices := s.choices + 1 } r := by
  have hmem := storeArbiter_chosen htwo
  refine ⟨_, hmem, ?_⟩
  unfold State.storeArbiter
  dsimp only
  rw [if_pos (by simp [dramIdle_iff.2 h, htwo])]
  exact arbitrate_grantDram (s := { s with choices := s.choices + 1 }) (mem_requesters.1 hmem) 1

/-! ### The return arbiter -/

theorem finishItem_of_sending {s : State} {item : OutItem} (h : s.link.sending = some item) :
    s.finishItem = { s with link := { s.link with sending := none } }.resumeCheck := by
  unfold State.finishItem
  rw [h]

/-- An item being sent, and announced (R153). -/
def State.startsSending (s : State) (item : OutItem) : State :=
  { s with link := { s.link with sending := some item }, out := s.out ++ [.item item] }

/-- A free line begins the first item in the order of Table 7-4, which leaves its source. -/
theorem beginItem_eq_of_free {s : State} (h : s.LineFree) : s.beginItem =
    match s.link.control, s.sched.queue, s.link.stubs, s.link.passList, s.store.released with
    | w :: rest, _, _, _, _ =>
      { s.startsSending (.control w) with link := { (s.startsSending (.control w)).link with control := rest } }
    | [], f :: rest, _, _, _ =>
      { s.startsSending (.grant f) with sched :=
        match s.sched.backlog with
        | [] => { s.sched with queue := rest }
        | b :: more => { s.sched with queue := rest ++ [b], backlog := more } }
    | [], [], x :: rest, _, _ =>
      { s.startsSending (.stub x) with link := { (s.startsSending (.stub x)).link with stubs := rest } }
    | [], [], [], p :: rest, _ =>
      { s.startsSending (.passed p) with link := { (s.startsSending (.passed p)).link with passList := rest } }
    | [], [], [], [], r :: rest => { s.startsSending (.released r) with store := { s.store with released := rest } }
    | [], [], [], [], [] => s := by
  obtain ⟨hnothing, hbegun⟩ := beginItem_of_free h
  unfold State.nextItem? at hbegun
  cases hcontrol : s.link.control with
  | cons w rest =>
    rw [hcontrol] at hbegun
    rw [hbegun _ rfl, State.beginItemOf, hcontrol]
    rfl
  | nil =>
  rw [hcontrol] at hbegun
  cases hqueue : s.sched.queue with
  | cons f rest =>
    rw [hqueue] at hbegun
    rw [hbegun _ rfl, State.beginItemOf, Scheduler.sendHead, hqueue]
    rfl
  | nil =>
  rw [hqueue] at hbegun
  cases hstubs : s.link.stubs with
  | cons x rest =>
    rw [hstubs] at hbegun
    rw [hbegun _ rfl, State.beginItemOf, hstubs]
    rfl
  | nil =>
  rw [hstubs] at hbegun
  cases hpass : s.link.passList with
  | cons p rest =>
    rw [hpass] at hbegun
    rw [hbegun _ rfl, State.beginItemOf, hpass]
    rfl
  | nil =>
  rw [hpass] at hbegun
  cases hreleased : s.store.released with
  | cons r rest =>
    rw [hreleased] at hbegun
    rw [hbegun _ rfl, State.beginItemOf, hreleased]
    rfl
  | nil => exact hnothing (nextItem?_eq_none.2 ⟨hcontrol, hqueue, hstubs, hpass, hreleased⟩)

/-- Settles O36: the choice by its cases, the grants by `arbitrate_of_idle`, the items by `beginItem_eq_of_free`. -/
theorem storeAndReturnArbitersServeInOrder : Obligations.StoreAndReturnArbitersServeInOrder := by
  refine ⟨arbiterChoice_eq, fun s => ?_, fun s wasIdle => ⟨fun h => ?_, fun h hone => ?_, fun h hidle htwo => ?_⟩,
    fun s item hr h => ?_, fun s => ?_⟩
  · refine ⟨?_, ?_, rfl, rfl, rfl⟩
    · exact congrArg (arbiterChoice s.writerWaits s.readerGroup?.isSome · s.store.passCount s.stagingFill s.store.lastServed)
        (captureWaiting?_isSome s)
    · exact congrArg (fun capture : Bool => _ ++ if capture then [Requester.capture] else []) (captureWaiting?_isSome s)
  · exact storeArbiter_of_busy h wasIdle
  · exact storeArbiter_decided h hone
  · rw [hidle]
    exact storeArbiter_free h htwo
  · exact endsAt_event rfl hr (finishItem_of_sending (s := s.begun) h)
  · dsimp only
    by_cases hfree : s.link.state = .up ∧ s.link.sending = none ∧ s.link.hold = false
    · obtain ⟨hup, hsending, hhold⟩ := id hfree
      rw [if_pos hfree]
      exact beginItem_eq_of_free ⟨hup, hhold, hsending⟩
    · rw [if_neg hfree]
      exact beginItem_of_busy (fun ⟨hup, hhold, hsending⟩ => hfree ⟨hup, hsending, hhold⟩)

end Sys2Proof.Machine
end

-- ==== Proofs: the credits of the pacers ====
section
/-! The ranges of the pacers' credits and remainders (R104, R105, R112). A credit is paid from only while it is above 0, and by at
most a largest packet or a largest grant; accruals and rate applications keep it at the burst limit or below. Most operations
touch none of this (`State.Confines`). -/

namespace Sys2Proof.Machine

/-! ### One pacer -/

theorem Pacer.inRange_powerOn : Pacer.powerOn.InRange := by
  refine ⟨by decide, by decide, by decide, by decide, by decide, fun r hr => by cases hr⟩

/-- A tick adds to the credits up to the burst limit, and carries the fraction (R102). -/
theorem Pacer.InRange.accrue {x : Pacer} (h : x.InRange) : x.accrue.InRange := by
  obtain ⟨⟨hrl, hru⟩, ⟨hgl, hgu⟩, hb, hrem, hab, hp⟩ := h
  have hgain : ∀ c low : Int, low ≤ c → c ≤ x.burst → low ≤ x.burst → ∀ gain : Nat,
      low ≤ min (c + gain) x.burst ∧ min (c + gain) (x.burst : Int) ≤ x.burst := fun c low hl _ hlow gain =>
    ⟨le_min (by omega) hlow, min_le_right _ _⟩
  refine ⟨hgain _ _ hrl hru (by omega) _, hgain _ _ hgl hgu (by omega) _, hb, ?_, hab, hp⟩
  simp only [Pacer.accrue]
  split <;> omega

/-- A rate application leaves the credits at the new burst limit or below and the remainder below the new B (R116). -/
theorem Pacer.InRange.applyRate {x : Pacer} {r : PendingRate} (h : x.InRange) (hr : x.pending = some r) :
    (x.applyRate r).InRange := by
  obtain ⟨⟨hrl, hru⟩, ⟨hgl, hgu⟩, -, -, -, hp⟩ := h
  obtain ⟨hab, hb⟩ := hp r hr
  unfold Pacer.applyRate
  cases r.continuity with
  | keep =>
    refine ⟨⟨le_min hrl (by omega), min_le_right _ _⟩, ⟨le_min hgl (by omega), min_le_right _ _⟩, hb, ?_, hab, fun q hq => by cases hq⟩
    dsimp only
    split <;> omega
  | reset => exact ⟨⟨by simp, by simp⟩, ⟨by simp, by simp⟩, hb, by dsimp only; omega, hab, fun q hq => by cases hq⟩

/-- A release takes its packet's length from a credit above 0 (R88, R104). -/
theorem Pacer.InRange.payRelease {x : Pacer} (h : x.InRange) (hc : 0 < x.releaseCredit) {n : Nat} (hn : n ≤ 9216)
    (cursors : Vector (Option Nat) 4) :
    Pacer.InRange { x with releaseCredit := x.releaseCredit - (n : Nat), cursors := cursors } := by
  obtain ⟨⟨-, hru⟩, hgrant, hb, hrem, hab, hp⟩ := h
  exact ⟨by dsimp only; omega, hgrant, hb, hrem, hab, hp⟩

/-- A grant takes the largest packets that it covers from a credit above 0 (R66, R105). -/
theorem Pacer.InRange.payGrant {x : Pacer} (h : x.InRange) (hc : 0 < x.grantCredit) {n : Nat} (hn : n ≤ 589824) :
    Pacer.InRange { x with grantCredit := x.grantCredit - (n : Nat) } := by
  obtain ⟨hrelease, ⟨-, hgu⟩, hb, hrem, hab, hp⟩ := h
  exact ⟨hrelease, by dsimp only; omega, hb, hrem, hab, hp⟩

/-! ### All pacers -/

/-- Every pacer is within its ranges: the first clause of `State.CreditLaw`. -/
def State.PacersInRange (s : State) : Prop := ∀ p, (s.pacer p).InRange

theorem State.PacersInRange.congr {s t : State} (h : s.PacersInRange) (ht : t.pacers = s.pacers) : t.PacersInRange := by
  unfold State.PacersInRange State.pacer
  rw [ht]
  exact h

theorem State.PacersInRange.updPacer {s : State} (h : s.PacersInRange) (g : Nat) {f : Pacer → Pacer}
    (hf : (s.pacer g).InRange → (f (s.pacer g)).InRange) : (s.updPacer g f).PacersInRange := by
  intro p
  rw [pacer_updPacer]
  split
  · rename_i hp
    rw [← hp.1]
    exact hf (h g)
  · exact h p

theorem State.PacersInRange.applyRate {s : State} (h : s.PacersInRange) (g : Nat) : (s.applyRate g).PacersInRange := by
  unfold State.applyRate
  split
  · exact h
  · rename_i r hr
    have happlied := h.updPacer g (f := fun _ => (s.pacer g).applyRate r) (fun hx => hx.applyRate hr)
    exact happlied.congr (by simp)

theorem State.PacersInRange.applyNextEpisode {s : State} (h : s.PacersInRange) (g : Nat) :
    (s.applyNextEpisode g).PacersInRange := by
  unfold State.applyNextEpisode
  split
  · exact h
  · split
    · exact h.applyRate g
    · exact h

theorem State.PacersInRange.applyDue {s : State} (h : s.PacersInRange) (g : Nat) : (s.applyDue g).PacersInRange := by
  unfold State.applyDue
  split
  · exact h.applyRate g
  · exact h

/-- An entry of a vector all of whose entries were changed. -/
theorem vget_vmapIdx {α : Type} {n : Nat} (v : Vector α n) (f : Nat → α → α) (i : Nat) (d : α) :
    vget (vmapIdx v f) i d = if i < n then f i (vget v i d) else d := by
  unfold vget vmapIdx
  split
  · simp
  · rfl

theorem State.PacersInRange.pacersTick {s : State} (h : s.PacersInRange) : s.pacersTick.PacersInRange := by
  have happlied : (s.groups.foldl State.applyDue s).PacersInRange :=
    foldl_inv State.PacersInRange _ (fun _ g ht => ht.applyDue g) _ s h
  intro p
  unfold State.pacer State.pacersTick
  dsimp only
  rw [vget_vmapIdx]
  split
  · split
    · exact happlied p
    · exact (happlied p).accrue
  · exact Pacer.inRange_powerOn

theorem State.PacersInRange.pacerTick {s : State} (h : s.PacersInRange) : s.pacerTick.PacersInRange := by
  have hticked : ({ s with time := ⟨s.time.clock, s.time.ticks + 1⟩ } : State).pacersTick.PacersInRange :=
    State.PacersInRange.pacersTick (h.congr rfl)
  unfold State.pacerTick
  split
  · exact h
  · dsimp only
    split <;> split <;> exact hticked.congr rfl

/-! ### Changes that pay nothing -/

/-- What `State.CreditLaw` reads but for the hold queues and the open packet. -/
def State.creditView (s : State) := (s.pacers, setupOf s.ports, s.store.writeList, s.store.transfer)

/-- A change that leaves the pacers and the policies, and brings no packet to the open place, the write list, the DRAM or a hold
queue. -/
structure State.Confines (s t : State) : Prop where
  pacers : t.pacers = s.pacers
  setup : setupOf t.ports = setupOf s.ports
  opened : ∀ o, t.link.openPacket = some o → o.staged = true → s.link.openPacket = some o
  waiting : t.store.writeList = s.store.writeList
  written : ∀ x, t.store.transfer = .write x → s.store.transfer = .write x
  held : t.heldPackets ⊆ s.heldPackets

theorem State.Confines.trans {s t u : State} (h : s.Confines t) (k : t.Confines u) : s.Confines u where
  pacers := k.pacers.trans h.pacers
  setup := k.setup.trans h.setup
  opened o ho hs := h.opened o (k.opened o ho hs) hs
  waiting := k.waiting.trans h.waiting
  written x hx := h.written x (k.written x hx)
  held := List.Subset.trans k.held h.held

/-- A change that leaves all but the hold queues. -/
theorem State.confines_of_view {s t : State} (hv : t.creditView = s.creditView) (ho : t.link.openPacket = s.link.openPacket)
    (hh : t.heldPackets.Sublist s.heldPackets) : s.Confines t := by
  simp only [State.creditView, Prod.mk.injEq] at hv
  obtain ⟨hpacers, hsetup, hwaiting, htransfer⟩ := hv
  exact ⟨hpacers, hsetup, fun o h _ => ho ▸ h, hwaiting, fun x h => htransfer ▸ h, hh.subset⟩

/-- A change that leaves the records as well. -/
theorem State.confines_of_eq {s t : State} (hv : t.creditView = s.creditView) (ho : t.link.openPacket = s.link.openPacket)
    (he : t.table.episodes = s.table.episodes) : s.Confines t :=
  State.confines_of_view hv ho (by rw [heldPackets_congr he])

theorem State.Confines.refl (s : State) : s.Confines s := State.confines_of_eq rfl rfl rfl

theorem breakOpen_confines (s : State) (ended : Bool) : s.Confines (s.breakOpen ended) := by
  refine { State.confines_of_eq (s := s) (t := { s.breakOpen ended with link := s.link })
    (by simp [State.creditView]) rfl (by simp) with opened := fun o ho hs => ?_ }
  unfold State.breakOpen at ho
  split at ho
  · exact ho
  · split at ho
    · cases ended <;> simp at ho
      rw [← ho] at hs
      cases hs
    · split at ho
      · cases ho
      · exact ho

theorem breakOpen_ended (s : State) : (s.breakOpen true).link.openPacket = none := by
  unfold State.breakOpen
  split
  · assumption
  · split <;> simp

theorem loseLink_confines (s : State) (cause : LinkCause) : s.Confines (s.loseLink cause) := by
  refine { State.confines_of_eq (s := s) (t := { s.loseLink cause with link := s.link })
    (by simp [State.creditView]) rfl (by simp) with opened := fun o ho _ => ?_ }
  have hclosed : (s.loseLink cause).link.openPacket = none := by
    unfold State.loseLink State.loseOpen
    rw [foldl_keeps (fun t : State => t.link.openPacket) _ (by simp)]
    simp [breakOpen_ended]
  rw [hclosed] at ho
  cases ho

/-- A transfer that ends leaves the DRAM with no write in progress. -/
theorem State.confines_of_transfer {s t : State} (hv : ({ t with store := s.store } : State).creditView = s.creditView)
    (ho : t.link.openPacket = s.link.openPacket) (he : t.table.episodes = s.table.episodes)
    (hw : t.store.writeList = s.store.writeList) (ht : ∀ x, t.store.transfer ≠ .write x) : s.Confines t :=
  { State.confines_of_eq (s := s) (t := { t with store := s.store }) hv ho he with
    waiting := hw
    written := fun x hx => absurd hx (ht x) }

theorem finishRelease_confines (s : State) (g : Nat) (p : HeldPacket) (uncorrectable : Bool) :
    s.Confines (s.finishRelease g p uncorrectable) := by
  have hended : s.Confines (s.releaseEnded g) := State.confines_of_transfer rfl rfl rfl rfl (by simp [State.releaseEnded])
  refine hended.trans ?_
  rw [finishRelease_eq]
  generalize s.releaseEnded g = u
  have hrewritten : ∀ (slot : Nat) (f : Episode → Episode), (∀ x, (f x).holdQueue = x.holdQueue) →
      u.Confines ((u.updEp slot (fun x => { x with inFlight := false })).updEp slot f) := fun slot f hf =>
    State.confines_of_view rfl rfl (by rw [updEp_heldPackets hf, updEp_heldPackets (fun _ => by rfl)])
  have hsuspended : ∀ t : State, u.Confines t → u.Confines (t.suspend g) := fun t ht =>
    ht.trans (State.confines_of_eq (by simp [State.creditView]) (by simp) (by simp))
  have hemptied : ∀ (t : State) (slot : Nat), u.Confines t → u.Confines (t.afterEmptying slot) := fun t slot ht =>
    ht.trans (State.confines_of_view (by simp [State.creditView]) (by simp) (by rw [afterEmptying_heldPackets]))
  split
  · split
    · exact hsuspended u (State.Confines.refl u)
    · exact State.Confines.refl u
  · rename_i e _
    refine hemptied _ e.slot ?_
    split
    · exact hsuspended _ (hrewritten e.slot (fun x => { x.discard p with damaged := true }) (fun x => x.discard_holdQueue p))
    · split
      · exact (hrewritten e.slot (fun x => { x.uncharge p with released := x.released.add p.length })
          (fun x => x.uncharge_holdQueue p)).trans (State.confines_of_eq rfl rfl rfl)
      · exact hrewritten _ _ (fun x => x.discard_holdQueue p)

theorem finishRead_confines (s : State) (corrected : Nat) (uncorrectable : Bool) :
    s.Confines (s.finishRead corrected uncorrectable) := by
  have hnoted : s.Confines (s.noteCorrected corrected) := State.confines_of_eq rfl rfl rfl
  unfold State.finishRead
  split
  · exact State.Confines.refl s
  · exact State.Confines.refl s
  · exact State.Confines.refl s
  · split
    · exact State.confines_of_transfer rfl rfl rfl rfl (by simp)
    · exact hnoted.trans (finishRelease_confines _ _ _ _)

theorem finishCapture_confines (s : State) (corrected : Nat) (uncorrectable : Bool) :
    s.Confines (s.finishCapture corrected uncorrectable) := by
  have hended : s.Confines { s with store := { s.store with transfer := .none } } :=
    State.confines_of_transfer rfl rfl rfl rfl (by simp)
  unfold State.finishCapture
  split
  · exact State.Confines.refl s
  · exact State.Confines.refl s
  · exact State.Confines.refl s
  · dsimp only
    split
    · exact hended
    · split
      · exact hended.trans (State.confines_of_eq rfl rfl rfl)
      · exact hended.trans (State.confines_of_eq rfl rfl rfl)

theorem grantRead_confines (s : State) : s.Confines s.grantRead := by
  unfold State.grantRead
  split
  · exact State.Confines.refl s
  · exact State.confines_of_transfer rfl rfl rfl rfl (by simp)

theorem grantCapture_confines (s : State) : s.Confines s.grantCapture := by
  unfold State.grantCapture
  split
  · exact State.Confines.refl s
  · dsimp only
    split
    · exact State.confines_of_eq rfl rfl rfl
    · split
      · exact State.confines_of_eq rfl rfl rfl
      · exact State.confines_of_transfer rfl rfl rfl rfl (by simp)

/-! ### The law, field by field -/

/-- A policy whose packets and grants a credit above 0 can pay without leaving its range (Table 6-2). -/
def Policy.Payable (pol : Policy) : Prop := pol.mtu ≤ 9216 ∧ pol.grantSize ≤ 64

/-- The clauses of `State.CreditLaw`. -/
structure State.CreditsWithin (s : State) : Prop where
  pacers : s.PacersInRange
  policies : ∀ p, (s.policy p).Payable
  opened : ∀ o, s.link.openPacket = some o → o.staged = true → o.desc.length ≤ 9216
  waiting : ∀ x ∈ s.store.writeList, x.length ≤ 9216
  written : ∀ x, s.store.transfer = .write x → x.length ≤ 9216
  held : ∀ x ∈ s.heldPackets, x.length ≤ 9216

theorem mem_heldPackets {s : State} {x : HeldPacket} : x ∈ s.heldPackets ↔ ∃ e ∈ s.table.episodes, x ∈ e.holdQueue := by
  simp [State.heldPackets]

theorem creditLaw_iff {s : State} : s.CreditLaw ↔ s.CreditsWithin := by
  constructor
  · rintro ⟨hpacers, hpolicies, hopened, hwaiting, hwritten, hheld⟩
    refine ⟨hpacers, hpolicies, hopened, hwaiting, hwritten, fun x hx => ?_⟩
    obtain ⟨e, he, hxe⟩ := mem_heldPackets.1 hx
    exact hheld e he x hxe
  · rintro ⟨hpacers, hpolicies, hopened, hwaiting, hwritten, hheld⟩
    exact ⟨hpacers, hpolicies, hopened, hwaiting, hwritten, fun e he x hx => hheld x (mem_heldPackets.2 ⟨e, he, hx⟩)⟩

/-- The policy records SET_PORT takes lie within Table 6-2 (R124). -/
theorem policyAt_payable {body : List Byte} {i : Nat} {pol : Policy} (h : policyAt body i = some pol) : pol.Payable := by
  unfold policyAt at h
  dsimp only at h
  split at h
  · rename_i hc
    cases h
    simp only [inRange, Bool.and_eq_true, decide_eq_true_eq] at hc
    constructor
    · dsimp only; omega
    · dsimp only; omega
  · cases h

/-- SET_PORT writes a policy record of its body (R124, R125). -/
theorem setPortEffect_policy {body : List Byte} {s t : State} {b : ReplyBody} (h : setPortEffect body s = .ok t b) :
    ∃ p pol, policyAt body 1 = some pol ∧
      t = (s.updPort p (fun x => { x with policy := pol })).rebond p (s.policy p).bond pol.bond := by
  unfold setPortEffect at h
  dsimp only at h
  (repeat' split at h) <;> cases h
  exact ⟨_, _, ‹_›, rfl⟩

/-- SET_RATE writes a pending rate with A below B and a burst limit within its range (R112). -/
theorem setRateEffect_pending {body : List Byte} {s t : State} {b : ReplyBody} (h : setRateEffect body s = .ok t b) :
    ∃ p r, r.rate.a < r.rate.b ∧ r.burst ≤ 262143 ∧
      t = s.updPacer p (fun x => { x with pending := some r, commit := false }) := by
  unfold setRateEffect at h
  dsimp only at h
  (repeat' split at h) <;> cases h
  rename_i rate hrate hburst _ _ apply continuity _ _
  refine ⟨_, ⟨rate, _, apply, continuity⟩, ?_, not_lt.1 hburst, rfl⟩
  unfold rateAt at hrate
  dsimp only at hrate
  split at hrate
  · rename_i hc
    cases hrate
    simp only [Bool.and_eq_true, decide_eq_true_eq] at hc
    exact hc.2
  · cases hrate

/-- A decision is for at most the policy's grant size, while the grant credit is above 0 (R58, R61). -/
theorem decision?_pays {s : State} {g : Nat} {c : Candidate} (h : s.decision? g = some c) :
    0 < (s.pacer g).grantCredit ∧ c.size ≤ (s.policy g).grantSize := by
  obtain ⟨-, hcredit, -, -⟩ := mayGrant_iff.1 (decision?_eq_some.1 h).1
  obtain ⟨e, r, -, -, -, -, hsize, -, -⟩ := decision?_turn h
  refine ⟨hcredit, ?_⟩
  rw [hsize]
  unfold grantSizeFor
  split
  · exact le_rfl
  · exact min_le_left _ _

theorem releaseChoice?_eq_some {s : State} {g : Nat} {e : Episode} : s.releaseChoice? g = some e ↔
    s.mayRelease g = true ∧ (List.range 4).findSome? (fun cls =>
      (ringAfter (fun e : Episode => e.slot) (vget (s.pacer g).cursors cls none)
        ((s.groupEpisodes g).filter (fun e => e.releasable && e.cls == cls))).head?) = some e := by
  simp [State.releaseChoice?]

namespace State.CreditsWithin

variable {s t : State}

theorem confined (h : s.CreditsWithin) (k : s.Confines t) : t.CreditsWithin where
  pacers := h.pacers.congr k.pacers
  policies p := by rw [policy_of_setup k.setup]; exact h.policies p
  opened o ho hs := h.opened o (k.opened o ho hs) hs
  waiting := by rw [k.waiting]; exact h.waiting
  written x hx := h.written x (k.written x hx)
  held x hx := h.held x (k.held hx)

/-- What the law reads is left, but for packets that leave a hold queue. -/
theorem keeps (h : s.CreditsWithin) (hv : t.creditView = s.creditView) (ho : t.link.openPacket = s.link.openPacket)
    (hh : t.heldPackets.Sublist s.heldPackets) : t.CreditsWithin := h.confined (State.confines_of_view hv ho hh)

/-- What the law reads is left. -/
theorem frame (h : s.CreditsWithin) (hv : t.creditView = s.creditView) (ho : t.link.openPacket = s.link.openPacket)
    (he : t.table.episodes = s.table.episodes) : t.CreditsWithin := h.confined (State.confines_of_eq hv ho he)

theorem updEp (h : s.CreditsWithin) (slot : Nat) {f : Episode → Episode} (hf : ∀ x, (f x).holdQueue = x.holdQueue) :
    (s.updEp slot f).CreditsWithin := h.keeps rfl rfl (by rw [updEp_heldPackets hf])

theorem updPort (h : s.CreditsWithin) (p : Nat) {f : Port → Port} (hf : ∀ x : Port, x.policy.Payable → (f x).policy.Payable) :
    (s.updPort p f).CreditsWithin :=
  { h with
    policies := fun q => by
      unfold State.policy
      rw [port_updPort]
      split
      · exact hf _ (h.policies q)
      · exact h.policies q }

theorem updPacer (h : s.CreditsWithin) (g : Nat) {f : Pacer → Pacer} (hf : (s.pacer g).InRange → (f (s.pacer g)).InRange) :
    (s.updPacer g f).CreditsWithin := { h with pacers := h.pacers.updPacer g hf }

/-- The pacers are written, within their ranges, and all else is left. -/
theorem repace (h : s.CreditsWithin) (hp : t.PacersInRange) (hv : t.creditView.2 = s.creditView.2)
    (ho : t.link.openPacket = s.link.openPacket) (hh : t.heldPackets = s.heldPackets) : t.CreditsWithin := by
  have hrest : ({ t with pacers := s.pacers } : State).CreditsWithin := h.keeps (Prod.ext rfl hv) ho (hh ▸ List.Sublist.refl _)
  exact { hrest with pacers := hp }

/-! ### Admission -/

theorem count (h : s.CreditsWithin) (g : Nat) (type : EvType) : (s.count g type).CreditsWithin :=
  h.keeps (by simp [State.creditView]) (by simp) (by rw [count_heldPackets])

theorem joinWriteList (h : s.CreditsWithin) (e : Episode) {a : Arrival} (kind : HoldKind) (hl : a.desc.length ≤ 9216) :
    (s.joinWriteList e a kind).CreditsWithin :=
  { h with
    waiting := fun x hx => by
      rcases List.mem_append.1 hx with hx | hx
      · exact h.waiting x hx
      · rw [List.mem_singleton.1 hx]
        exact hl }

theorem holdOwn (h : s.CreditsWithin) (slot : Nat) {a : Arrival} (hl : a.desc.length ≤ 9216) :
    (s.holdOwn slot a).CreditsWithin := by
  unfold State.holdOwn
  split
  · exact h
  · exact (h.updEp slot (fun _ => by rfl)).joinWriteList _ .own hl

theorem borrowOrTrim (h : s.CreditsWithin) (slot : Nat) {a : Arrival} (listed : Bool) (hl : a.desc.length ≤ 9216) :
    (s.borrowOrTrim slot a listed).CreditsWithin := by
  unfold State.borrowOrTrim
  split
  · exact h
  · dsimp only
    split
    · exact (h.updEp slot (fun _ => by rfl)).joinWriteList _ .borrowed hl
    · exact h.keeps (by simp [State.creditView]) (by simp) (by rw [trim_heldPackets])

theorem enter (h : s.CreditsWithin) (slot : Nat) (a : Arrival) : (s.enter slot a).CreditsWithin :=
  h.keeps (by simp [State.creditView]) (by simp) (by rw [enter_heldPackets])

theorem noteSender (h : s.CreditsWithin) (slot : Nat) (a : Arrival) :
    (s.updEp slot (fun x => { x.noteSender a with arrived := x.arrived.add a.desc.length })).CreditsWithin :=
  h.updEp slot (fun x => x.noteSender_holdQueue a)

theorem judgeAndHold (h : s.CreditsWithin) (slot : Nat) {a : Arrival} (r : Responder) (hl : a.desc.length ≤ 9216) :
    (s.judgeAndHold slot a r).CreditsWithin := by
  unfold State.judgeAndHold
  dsimp only
  split
  · exact (h.count _ _).borrowOrTrim slot true hl
  · exact (h.count _ _).borrowOrTrim slot true hl
  · exact (h.count _ _).borrowOrTrim slot true hl
  · exact h.borrowOrTrim slot true hl
  · exact (h.updEp slot (fun _ => by rfl)).holdOwn slot hl
  · have hu := h.updEp slot (f := fun x => x.updResponder r.endpoint Responder.useAllowance) (fun _ => rfl)
    split
    · exact hu
    · split
      · exact hu.holdOwn slot hl
      · exact hu.borrowOrTrim slot true hl

theorem applyNextEpisode (h : s.CreditsWithin) (g : Nat) : (s.applyNextEpisode g).CreditsWithin :=
  h.repace (h.pacers.applyNextEpisode g) (by simp [State.creditView]) (by simp) (heldPackets_congr (by simp))

theorem arriveSighted (h : s.CreditsWithin) (slot : Nat) {a : Arrival} (hl : a.desc.length ≤ 9216) :
    (s.arriveSighted slot a).CreditsWithin := by
  have hactive : (if (s.ep? slot).any (fun e => e.state == .armed) then
      (s.updEp slot (fun x => { x with state := .active })).applyNextEpisode a.group else s).CreditsWithin := by
    split
    · exact (h.updEp slot (fun _ => by rfl)).applyNextEpisode a.group
    · exact h
  have hnoted := (hactive.enter slot a).noteSender slot a
  unfold State.arriveSighted
  dsimp only
  split
  · exact hnoted.borrowOrTrim slot false hl
  · rename_i r _
    refine (hnoted.judgeAndHold slot r hl).keeps ?_ ?_ ?_
    · simp [State.creditView]
    · simp
    · rw [testCompletion_heldPackets, applyLast_heldPackets]

theorem arriveAdopted (h : s.CreditsWithin) (slot : Nat) {a : Arrival} (hl : a.desc.length ≤ 9216) :
    (s.arriveAdopted slot a).CreditsWithin :=
  State.CreditsWithin.borrowOrTrim ((h.enter slot a).updEp slot (fun x => by exact x.noteSender_holdQueue a)) slot _ hl

theorem arriveDraining (h : s.CreditsWithin) (slot : Nat) {a : Arrival} (hl : a.desc.length ≤ 9216) :
    (s.arriveDraining slot a).CreditsWithin :=
  ((h.count a.group .late).noteSender slot a).borrowOrTrim slot _ hl

theorem arriveUnmatched (h : s.CreditsWithin) {a : Arrival} (hl : a.desc.length ≤ 9216) : (s.arriveUnmatched a).CreditsWithin := by
  unfold State.arriveUnmatched
  split
  · split
    · exact h.frame rfl rfl rfl
    · exact ((h.keeps (t := s.placeEpisode _) rfl rfl (by rw [placeEpisode_heldPackets rfl])).applyNextEpisode a.group).arriveAdopted
        _ hl
  · exact h.frame rfl rfl rfl

theorem arriveMatched (h : s.CreditsWithin) (e : Episode) {a : Arrival} (hl : a.desc.length ≤ 9216) :
    (s.arriveMatched e a).CreditsWithin := by
  unfold State.arriveMatched
  split
  · exact h.arriveDraining e.slot hl
  · exact (h.count a.group .late).frame rfl rfl rfl
  · exact h.arriveSighted e.slot hl
  · split
    · exact h.arriveSighted e.slot hl
    · exact h.arriveAdopted e.slot hl

/-- A complete packet is admitted with the length of its descriptor, if at all (R32, R79). -/
theorem arrive (h : s.CreditsWithin) {desc : Descriptor} (hl : desc.length ≤ 9216) (data : List Byte) :
    (s.arrive desc data).CreditsWithin := by
  unfold State.arrive
  dsimp only
  split
  · split
    · exact h.arriveUnmatched (a := ⟨desc, data, s.groupOf desc.port⟩) hl
    · exact h.arriveMatched _ (a := ⟨desc, data, s.groupOf desc.port⟩) hl
  · exact h.keeps (by simp [State.creditView]) (by simp) (by rw [portFault_heldPackets])

/-! ### Words of the link -/

theorem breakOpen (h : s.CreditsWithin) (ended : Bool) : (s.breakOpen ended).CreditsWithin :=
  h.confined (breakOpen_confines s ended)

/-- A descriptor is staged only at a length of at most 9,216 bytes (R149). -/
theorem takeDescriptor (h : s.CreditsWithin) (d : Descriptor) : (s.takeDescriptor d).CreditsWithin := by
  have hb := h.breakOpen true
  unfold State.takeDescriptor
  dsimp only
  split
  · exact { hb with opened := fun o ho hs => by cases ho; cases hs }
  · rename_i hformed
    split
    · exact { hb with opened := fun o ho hs => by cases ho; cases hs }
    · have hlength : d.length ≤ 9216 := by
        simp [inRange] at hformed
        omega
      have hopened : ({ s.breakOpen true with link := { (s.breakOpen true).link with openPacket := some ⟨d, true, 0, []⟩ } } :
          State).CreditsWithin := { hb with opened := fun o ho _ => by cases ho; exact hlength }
      exact hopened.frame (by simp [State.creditView]) (by simp) (by simp)

theorem takePayload (h : s.CreditsWithin) (last : Bool) (count : Byte) (data : List Byte) :
    (s.takePayload last count data).CreditsWithin := by
  unfold State.takePayload
  split
  · exact h.frame rfl rfl rfl
  · rename_i o ho
    dsimp only
    split
    · split
      · exact h.breakOpen _
      · exact h
    · rename_i hs
      have hlength := h.opened o ho (by simpa using hs)
      split
      · exact h.breakOpen _
      · split
        · exact { h with opened := fun x hx _ => by cases hx; exact hlength }
        · split
          · have hclosed : ({ s with link := { s.link with openPacket := none } } : State).CreditsWithin :=
              { h with opened := fun x hx _ => by cases hx }
            exact hclosed.arrive hlength _
          · exact h.breakOpen _

theorem sightingWord (h : s.CreditsWithin) (port : Nat) (a : Announcement) : (s.sightingWord port a).CreditsWithin := by
  have hbroken := h.breakOpen false
  unfold State.sightingWord
  dsimp only
  split
  · exact hbroken.frame rfl rfl rfl
  · exact hbroken.keeps (by simp [State.creditView]) (by simp) (takeSighting_heldPackets _ _)

theorem markerWord (h : s.CreditsWithin) (port : Nat) {taken : State → Nat → State}
    (ht : ∀ t, (taken t port).creditView = t.creditView ∧ (taken t port).link = t.link ∧ (taken t port).table = t.table) :
    (s.markerWord port taken).CreditsWithin := by
  have hbroken := h.breakOpen false
  unfold State.markerWord
  dsimp only
  split
  · exact hbroken.frame rfl rfl rfl
  · obtain ⟨hview, hlink, htable⟩ := ht (s.breakOpen false)
    exact hbroken.frame hview (by rw [hlink]) (by rw [htable])

theorem unknownWord (h : s.CreditsWithin) (marker : Bool) : (s.unknownWord marker).CreditsWithin := by
  unfold State.unknownWord
  split
  · exact (h.breakOpen false).frame rfl rfl rfl
  · exact h.frame rfl rfl rfl

theorem framingError (h : s.CreditsWithin) (lane : Nat) : (s.framingError lane).CreditsWithin := by
  have hlost := h.confined (loseLink_confines s .framing)
  unfold State.framingError
  dsimp only
  split
  · exact h
  · exact h.frame (by simp [State.creditView]) (by simp) (by simp)
  · exact h.frame (by split <;> simp [State.creditView]) (by split <;> simp) (by split <;> simp)
  · exact h.frame (by split <;> simp [State.creditView]) (by split <;> simp) (by split <;> simp)
  · split
    · exact hlost
    · exact h.frame (by simp [State.creditView]) (by simp) (by simp)

theorem damagedWord (h : s.CreditsWithin) (blocks : Vector BlockCheck 4) (typeCode : Byte) (ofPacket : Bool) :
    (s.damagedWord blocks typeCode ofPacket).CreditsWithin := by
  unfold State.damagedWord
  dsimp only
  split
  · exact h
  · exact h.frame (by simp [State.creditView]) (by simp) (by simp)
  · exact h.frame (by simp [State.creditView]) (by simp) (by simp)
  · exact h.frame (by split <;> simp [State.creditView]) (by split <;> simp) (by split <;> simp)
  · split
    · exact State.CreditsWithin.breakOpen (h.frame (by simp [State.creditView]) (by simp) (by simp)) false
    · exact h.frame (by simp [State.creditView]) (by simp) (by simp)

theorem takeWord (h : s.CreditsWithin) {inParams inUp : State → State}
    (hp : ∀ t : State, t.CreditsWithin → (inParams t).CreditsWithin)
    (hu : ∀ t : State, t.CreditsWithin → (inUp t).CreditsWithin) : (s.takeWord inParams inUp).CreditsWithin := by
  unfold State.takeWord
  dsimp only
  split
  · exact h
  · exact h.frame (by simp [State.creditView]) (by simp) (by simp)
  · exact h.frame (by simp [State.creditView]) (by simp) (by simp)
  · exact hp _ (h.frame (by simp [State.creditView]) (by simp) (by simp))
  · exact hu _ (h.frame (by simp [State.creditView]) (by simp) (by simp))

/-! ### The store -/

/-- The written packet joins a hold queue, if its episode takes packets (R81). -/
theorem finishWrite (h : s.CreditsWithin) : s.finishWrite.CreditsWithin := by
  cases ht : s.store.transfer with
  | none => rwa [State.finishWrite, ht]
  | release g => rwa [State.finishWrite, ht]
  | capture snap => rwa [State.finishWrite, ht]
  | write p =>
    have hended : s.writeEnded.CreditsWithin := h.confined
      (State.confines_of_transfer (by simp [State.creditView, State.writeEnded]) (by simp [State.writeEnded]) (by simp) (by simp)
        (by simp))
    have hlength := h.written p ht
    rw [finishWrite_eq ht]
    split
    · exact hended
    · split
      · refine { hended with held := fun x hx => ?_ }
        obtain ⟨y, hy, hxy⟩ := mem_heldPackets.1 hx
        obtain ⟨e, he, rfl⟩ := List.mem_map.1 hy
        split at hxy
        · rcases List.mem_append.1 hxy with hold | hnew
          · exact hended.held x (mem_heldPackets.2 ⟨e, he, hold⟩)
          · rwa [List.mem_singleton.1 hnew]
        · exact hended.held x (mem_heldPackets.2 ⟨e, he, hxy⟩)
      · refine hended.keeps (by simp [State.creditView]) (by simp) ?_
        rw [closeIfEmpty_heldPackets, updEp_heldPackets (fun x => x.discard_holdQueue p)]

theorem grantWrite (h : s.CreditsWithin) : s.grantWrite.CreditsWithin := by
  unfold State.grantWrite
  split
  · exact h
  · rename_i p rest hlist
    exact { h with
      waiting := fun x hx => h.waiting x (hlist ▸ List.mem_cons_of_mem p hx)
      written := fun x hx => by
        cases hx
        exact h.waiting p (hlist ▸ List.mem_cons_self) }

theorem grantDram (h : s.CreditsWithin) (r : Requester) : (s.grantDram r).CreditsWithin := by
  cases r with
  | writer => exact h.grantWrite
  | reader => exact h.confined (grantRead_confines s)
  | capture => exact h.confined (grantCapture_confines s)

theorem storeArbiter (h : s.CreditsWithin) (wasIdle : Bool) : (s.storeArbiter wasIdle).CreditsWithin :=
  storeArbiter_inv (P := State.CreditsWithin) (fun _ _ h => h.frame rfl rfl rfl) (fun _ r _ h => h.grantDram r) s wasIdle h

/-! ### Releases and grants -/

/-- A release begins on a release credit above 0, and pays for a held packet (R88, R107). -/
theorem beginRelease (h : s.CreditsWithin) (g : Nat) : (s.beginRelease g).CreditsWithin := by
  cases hchoice : s.releaseChoice? g with
  | none => rwa [State.beginRelease, hchoice]
  | some e =>
    cases hq : e.holdQueue with
    | nil => simpa only [State.beginRelease, hchoice, hq] using h
    | cons head rest =>
      have hcredit := (mayRelease_iff.1 (releaseChoice?_eq_some.1 hchoice).1).1
      have hlength := h.held head (mem_heldPackets.2 ⟨e, releaseChoice?_mem hchoice, hq ▸ List.mem_cons_self⟩)
      have htaken : (s.updEp e.slot Episode.headTaken).CreditsWithin :=
        h.keeps rfl rfl (updEp_heldPackets_sublist (fun x => List.drop_sublist 1 _))
      rw [beginRelease_eq hchoice hq]
      have hpaid := htaken.updPacer g (f := fun p => { p with
        releaseCredit := p.releaseCredit - (head.length : Nat), cursors := vupd p.cursors e.cls (fun _ => some e.slot) })
        (fun hx => hx.payRelease hcredit hlength _)
      exact hpaid.frame rfl rfl rfl

theorem makeGrant (h : s.CreditsWithin) {g : Nat} {c : Candidate} (hcredit : 0 < (s.pacer g).grantCredit)
    (hsize : c.size ≤ (s.policy g).grantSize) : (s.makeGrant g c).CreditsWithin := by
  obtain ⟨hmtu, hgrant⟩ := h.policies g
  have hcost : c.size * (s.policy g).mtu ≤ 589824 := Nat.mul_le_mul (hsize.trans hgrant) hmtu
  unfold State.makeGrant
  split
  · exact h
  · split
    · exact h
    · have hrecorded := h.updEp c.slot (f := fun x => x.recordGrant c.position c.size (s.policy g).grantTimeout) (fun _ => rfl)
      have hpaid := hrecorded.updPacer g (f := fun p => { p with
        grantCredit := p.grantCredit - (c.size * (s.policy g).mtu : Nat) }) (fun hx => hx.payGrant hcredit hcost)
      exact hpaid.frame rfl rfl rfl

theorem decisions (h : s.CreditsWithin) (n : Nat) : (State.decisions n s).CreditsWithin := by
  induction n generalizing s with
  | zero => exact h
  | succ n ih =>
    unfold State.decisions
    split
    · exact h
    · rename_i hready
      obtain ⟨m, g, c, hc, heq⟩ := oneDecision_of_ready (by simpa using hready)
      obtain ⟨hcredit, hsize⟩ := decision?_pays hc
      have hchosen : ({ s with choices := m } : State).CreditsWithin := h.frame rfl rfl rfl
      rw [heq]
      exact ih (hchosen.makeGrant hcredit hsize)

theorem completeDrain (h : s.CreditsWithin) (g : Nat) : (s.completeDrain g).CreditsWithin :=
  h.keeps (by simp [State.creditView]) (by simp) (completeDrain_heldPackets s g)

theorem consequences (h : s.CreditsWithin) (wasIdle : Bool) : (s.consequences wasIdle).CreditsWithin := by
  have hdrained : s.completeDrains.CreditsWithin := foldl_inv State.CreditsWithin _ (fun _ g h => h.completeDrain g) _ s h
  have hbegun : ∀ t : State, t.CreditsWithin → t.beginItem.CreditsWithin := fun t ht =>
    ht.frame (by simp [State.creditView]) (by simp) (by simp)
  have hreleased : s.completeDrains.beginItem.beginReleases.CreditsWithin :=
    foldl_inv State.CreditsWithin _ (fun _ g h => h.beginRelease g) _ _ (hbegun _ hdrained)
  exact (hbegun _ ((hreleased.storeArbiter wasIdle).decisions 512)).decisions 512

/-! ### The commands of the host -/

/-- SET_PORT takes a policy within Table 6-2; a bond gives the odd port the defaults and a new pacer (R101, R124, R125). -/
theorem setPortEffect (h : s.CreditsWithin) {body : List Byte} {b : ReplyBody} (ht : setPortEffect body s = .ok t b) :
    t.CreditsWithin := by
  obtain ⟨p, pol, hpol, rfl⟩ := setPortEffect_policy ht
  have hset : (s.updPort p (fun x => { x with policy := pol })).CreditsWithin :=
    h.updPort p (fun _ _ => policyAt_payable hpol)
  have hdefault : Policy.default.Payable := ⟨by decide, by decide⟩
  unfold State.rebond
  split
  · have hodd := (hset.updPort p (f := fun x => { x with role := .pairEven }) (fun _ hx => hx)).updPort (p + 1) (f := fun x =>
      { x with role := .pairOdd, policy := Policy.default, suspended := false, strayMarkers := 0, fault := none })
      (fun _ _ => hdefault)
    exact (hodd.updPacer (p + 1) (f := fun _ => Pacer.powerOn) (fun _ => Pacer.inRange_powerOn)).frame rfl rfl rfl
  · have hodd := (hset.updPort p (f := fun x => { x with role := .single }) (fun _ hx => hx)).updPort (p + 1)
      (f := fun _ => Port.powerOn) (fun _ _ => hdefault)
    exact hodd.frame rfl rfl rfl
  · exact hset
  · exact hset

/-- SET_RATE writes a pending rate within its ranges (R112). -/
theorem setRateEffect (h : s.CreditsWithin) {body : List Byte} {b : ReplyBody} (ht : setRateEffect body s = .ok t b) :
    t.CreditsWithin := by
  obtain ⟨p, r, hrate, hburst, rfl⟩ := setRateEffect_pending ht
  refine h.updPacer p (fun hx => ?_)
  obtain ⟨hrelease, hgrant, hb, hrem, hab, -⟩ := hx
  exact ⟨hrelease, hgrant, hb, hrem, hab, fun q hq => by cases hq; exact ⟨hrate, hburst⟩⟩

/-- COMMIT_RATE writes commit marks alone (R114). -/
theorem commitRateEffect (h : s.CreditsWithin) {body : List Byte} {b : ReplyBody} (ht : commitRateEffect body s = .ok t b) :
    t.CreditsWithin := by
  unfold Machine.commitRateEffect at ht
  dsimp only at ht
  (repeat' split at ht) <;> cases ht
  exact foldl_inv State.CreditsWithin _ (fun _ p hs => hs.updPacer p (fun hx => hx)) _ s h

/-- The effect of every command of the host: beside the three above, none writes a pacer or a policy. -/
theorem performed (h : s.CreditsWithin) {f : Frame} {b : ReplyBody} (ht : performed f s = .ok t b) : t.CreditsWithin := by
  by_cases hset : ∃ body, Machine.setPortEffect body s = .ok t b
  · obtain ⟨body, hbody⟩ := hset
    exact h.setPortEffect hbody
  have hsetup := ((State.Eases.refl s).performed ht (fun body hbody => hset ⟨body, hbody⟩)).setup
  have hretains := performed_retains ht
  have hkept : t.pacers = s.pacers → t.store.writeList = s.store.writeList → t.link.openPacket = s.link.openPacket →
      t.CreditsWithin := fun hp hw ho =>
    h.confined ⟨hp, hsetup, fun _ hx _ => ho ▸ hx, hw, fun _ hx => hretains.transfer ▸ hx, hretains.held.subset⟩
  unfold Machine.performed at ht
  split at ht
  · rw [identifyEffect_keeps ht]; exact h
  · cases ht
  · exact h.setPortEffect ht
  · exact hkept (by simp [enablePortEffect_keeps ht]) (by simp [enablePortEffect_keeps ht]) (by simp [enablePortEffect_keeps ht])
  · unfold disablePortEffect at ht
    split at ht
    · exact hkept (by simp [disableFlushEffect_keeps ht]) (by simp [disableFlushEffect_keeps ht])
        (by simp [disableFlushEffect_keeps ht])
    · exact hkept (by simp [disableDrainEffect_keeps ht]) (by simp [disableDrainEffect_keeps ht])
        (by simp [disableDrainEffect_keeps ht])
  · exact hkept (by simp [resumePortEffect_keeps ht]) (by simp [resumePortEffect_keeps ht]) (by simp [resumePortEffect_keeps ht])
  · exact hkept (by simp [portStatusEffect_keeps ht]) (by simp [portStatusEffect_keeps ht]) (by simp [portStatusEffect_keeps ht])
  · exact h.setRateEffect ht
  · exact h.commitRateEffect ht
  · rw [rateStatusEffect_keeps ht]; exact h
  · rw [listEpisodesEffect_keeps ht]; exact h
  · rw [episodeStatusEffect_keeps ht]; exact h
  · exact hkept (by simp [haltEffect_keeps ht]) (by simp [haltEffect_keeps ht]) (by simp [haltEffect_keeps ht])
  · exact hkept (by simp [haltEffect_keeps ht]) (by simp [haltEffect_keeps ht]) (by simp [haltEffect_keeps ht])
  · exact hkept (by simp [abortEffect_keeps ht]) (by simp [abortEffect_keeps ht]) (by simp [abortEffect_keeps ht])
  · exact hkept (by simp [extendEffect_keeps ht]) (by simp [extendEffect_keeps ht]) (by simp [extendEffect_keeps ht])
  · exact hkept (by simp [addReservationEffect_keeps ht]) (by simp [addReservationEffect_keeps ht])
      (by simp [addReservationEffect_keeps ht])
  · unfold captureEffect at ht; split at ht <;> cases ht
  · rw [readCountersEffect_keeps ht]; exact h
  · exact hkept (by simp [clearCountersEffect_keeps ht]) (by simp [clearCountersEffect_keeps ht])
      (by simp [clearCountersEffect_keeps ht])
  · exact hkept (by simp [setThresholdEffect_keeps ht]) (by simp [setThresholdEffect_keeps ht])
      (by simp [setThresholdEffect_keeps ht])
  · rw [storeStatusEffect_keeps ht]; exact h
  · exact hkept (by simp [setPoolEffect_keeps ht]) (by simp [setPoolEffect_keeps ht]) (by simp [setPoolEffect_keeps ht])
  · exact hkept (by simp [linkStatusEffect_keeps ht]) (by simp [linkStatusEffect_keeps ht]) (by simp [linkStatusEffect_keeps ht])
  · exact hkept (by simp [setLinkParamsEffect_keeps ht]) (by simp [setLinkParamsEffect_keeps ht])
      (by simp [setLinkParamsEffect_keeps ht])
  · unfold relinkEffect at ht
    cases ht
    split
    · exact h.confined (loseLink_confines s .relink)
    · exact h.frame (by simp [State.creditView]) (by simp) (by simp)
  · cases ht

/-! ### Resets and steps -/

/-- Every reset gives the pacers and the ports their values of power-on, and holds no packet (R98, R122, R141, R158). -/
theorem ofReset {initialising : Bool} {state : LinkState} {expected : LinkParams} (htable : s.table.episodes = [])
    (hpacers : s.pacers = Vector.replicate 48 Pacer.powerOn) (hports : s.ports = Vector.replicate 48 Port.powerOn)
    (hstore : s.store = Store.powerOn initialising) (hlink : s.link = Link.afterReset state expected) : s.CreditsWithin := by
  refine ⟨fun p => ?_, fun p => ?_, fun o ho => ?_, fun x hx => ?_, fun x hx => ?_, fun x hx => ?_⟩
  · unfold State.pacer
    rw [hpacers, vget_replicate]
    exact Pacer.inRange_powerOn
  · unfold State.policy State.port
    rw [hports, vget_replicate]
    exact ⟨by decide, by decide⟩
  · rw [hlink] at ho
    cases ho
  · rw [hstore] at hx
    cases hx
  · rw [hstore] at hx
    cases hx
  · obtain ⟨e, he, -⟩ := mem_heldPackets.1 hx
    rw [htable] at he
    cases he

theorem transmitDone (h : s.CreditsWithin) : s.transmitDone.CreditsWithin := by
  unfold State.transmitDone
  split
  · exact h
  · dsimp only
    split
    · exact h.frame rfl rfl rfl
    · split
      · exact ofReset (by simp [State.resetPart]) (by simp [State.resetPart]) (by simp [State.resetPart])
          (by simp [State.resetPart]; rfl) (by simp [State.resetPart]; rfl)
      · exact h.frame rfl rfl rfl

theorem resets (h : s.CreditsWithin) : s.assertReset.CreditsWithin ∧ s.releaseReset.CreditsWithin := by
  refine ⟨ofReset rfl rfl rfl rfl rfl, ?_⟩
  unfold State.releaseReset
  split
  · exact ofReset rfl rfl rfl rfl rfl
  · exact h

/-- The effect of every row that is an event of its own. -/
theorem eventOf {i : Instr} {effect : State → State} (hi : eventOf? i = some effect) (h : s.CreditsWithin) :
    (effect s).CreditsWithin := by
  cases i with
  | transmitComplete => cases hi; exact h.transmitDone
  | pacerTick =>
    cases hi; exact h.repace h.pacers.pacerTick (by simp [State.creditView]) (by simp) (pacerTick_heldPackets s)
  | grantTimerExpiry slot position number =>
    cases hi; exact h.keeps (by simp [State.creditView]) (by simp) (by rw [expireGrant_heldPackets])
  | deadlineExpiry slot => cases hi; exact h.keeps (by simp [State.creditView]) (by simp) (takeDeadline_heldPackets s slot)
  | idleExpiry slot => cases hi; exact h.keeps (by simp [State.creditView]) (by simp) (by rw [takeIdle_heldPackets])
  | lingerExpiry slot => cases hi; exact h.keeps (by simp [State.creditView]) (by simp) (takeLinger_heldPackets s slot)
  | framingError lane => cases hi; exact h.framingError lane
  | damagedWord blocks typeCode ofPacket => cases hi; exact h.damagedWord blocks typeCode ofPacket
  | storeWriteComplete => cases hi; exact h.finishWrite
  | releaseReadComplete corrected uncorrectable => cases hi; exact h.confined (finishRead_confines s corrected uncorrectable)
  | captureReadComplete corrected uncorrectable => cases hi; exact h.confined (finishCapture_confines s corrected uncorrectable)
  | payloadWord last count data => cases hi; exact h.takeWord (fun _ => id) (fun t ht => ht.takePayload last count data)
  | sighting port requester tag n e cls report =>
    cases hi; exact h.takeWord (fun _ => id) (fun t ht => ht.sightingWord port.toNat _)
  | parameterBlock linkId laneCount portCount maxLength checksum =>
    cases hi
    exact h.takeWord (fun t ht => ht.frame (by simp [State.creditView]) (by simp) (by simp))
      (fun t ht => ht.frame (by simp [State.creditView]) (by simp) (by simp))
  | packetDescriptor port flags length dest src tag grant =>
    cases hi; exact h.takeWord (fun _ => id) (fun t ht => ht.takeDescriptor _)
  | divertStarted port =>
    cases hi; exact h.takeWord (fun _ => id) (fun t ht => ht.markerWord port.toNat (fun t => by simp [State.creditView]))
  | divertStopped port =>
    cases hi; exact h.takeWord (fun _ => id) (fun t ht => ht.markerWord port.toNat (fun t => by simp [State.creditView]))
  | statusWord full => cases hi; exact h.takeWord (fun _ => id) (fun t ht => ht.frame rfl rfl rfl)
  | holdReturn => cases hi; exact h.takeWord (fun _ => id) (fun t ht => ht.frame rfl rfl rfl)
  | resumeReturn => cases hi; exact h.takeWord (fun _ => id) (fun t ht => ht.frame rfl rfl rfl)
  | idleWord => cases hi; exact h.takeWord (fun _ => id) (fun _ => id)
  | unknownTypeWord marker => cases hi; exact h.takeWord (fun _ => id) (fun t ht => ht.unknownWord marker)
  | _ => cases hi <;> exact h.frame (by simp [State.creditView]) (by simp) (by simp)

end State.CreditsWithin

/-- Settles O57: a credit is paid from only while it is above 0, by a packet or a grant of bounded size; accruals, rate
applications and resets leave every pacer within its ranges. -/
theorem stepsKeepCreditsInTheirRanges : Obligations.StepsKeepCreditsInTheirRanges := by
  intro s t hstep h
  rw [creditLaw_iff] at h ⊢
  exact step_inv (P := State.CreditsWithin) (fun _ _ h => h.frame rfl rfl rfl) (fun _ _ h => h.frame rfl rfl rfl)
    (fun _ _ h => h.frame rfl rfl rfl) (fun _ _ h => h.frame rfl rfl rfl) (fun _ w h => h.consequences w)
    (fun _ _ _ _ ht h => h.performed ht) (fun _ _ hi _ h => h.eventOf hi) (fun _ h => h.resets) s t hstep h

end Sys2Proof.Machine
end

-- ==== Proofs: release decisions ====
section
/-! The release decisions of the pacers (R88, R104, R107, R108): their conditions, the episode whose turn it is, and what a decision
pays and takes. -/

namespace Sys2Proof.Machine

theorem Episode.releasable_iff {e : Episode} : e.releasable = true ↔
    (e.state = .active ∨ e.state = .draining) ∧ e.halted = false ∧ e.holdQueue ≠ [] := by
  simp [Episode.releasable, and_assoc]

/-- The egress gate is open when no member's egress-full flag is set (R109). -/
theorem gateOpen_iff {s : State} {g : Nat} : s.gateOpen g = true ↔ ∀ m ∈ s.members g, s.link.egressFull.getLsbD m = false := by
  simp [State.gateOpen]

theorem linkUp_iff {s : State} : s.linkUp = true ↔ s.link.state = .up := by simp [State.linkUp]

/-- The episodes among which a class's release is searched (R107, R108). -/
theorem mem_releaseClass {s : State} {g cls : Nat} {x : Episode} :
    x ∈ (s.groupEpisodes g).filter (fun e => e.releasable && e.cls == cls) ↔
      (x ∈ s.groupEpisodes g ∧ x.releasable = true) ∧ x.cls = cls := by
  simp [and_assoc]

/-- The episode of a class whose turn it is: the first after the class's release cursor in ring order (R108). -/
def State.releaseTurn? (s : State) (g cls : Nat) : Option Episode :=
  (ringAfter (fun e : Episode => e.slot) (vget (s.pacer g).cursors cls none)
    ((s.groupEpisodes g).filter (fun e => e.releasable && e.cls == cls))).head?

theorem releaseChoice?_eq_turn (s : State) (g : Nat) :
    s.releaseChoice? g = if s.mayRelease g then (List.range 4).findSome? (s.releaseTurn? g) else none := rfl

/-- The first of a list in order comes before every other. -/
theorem head?_first {α : Type} {r : α → α → Prop} {l : List α} {a x : α} (hl : l.Pairwise r) (h : l.head? = some a)
    (hx : x ∈ l) : x = a ∨ r a x := by
  cases l with
  | nil => cases h
  | cons y ys =>
    cases h
    rcases List.mem_cons.1 hx with rfl | hx
    · exact Or.inl rfl
    · exact Or.inr ((List.pairwise_cons.1 hl).1 x hx)

/-- In slot order, the episode of a class whose turn it is comes before every other in ring order after the cursor (R108). -/
theorem releaseTurn?_first {s : State} {g cls : Nat} {e : Episode} (h : s.releaseTurn? g cls = some e) :
    ((e ∈ s.groupEpisodes g ∧ e.releasable = true) ∧ e.cls = cls) ∧
      ∀ x, (x ∈ s.groupEpisodes g ∧ x.releasable = true) ∧ x.cls = cls → s.SlotOrder → x.slot ≠ e.slot →
        RingBefore (vget (s.pacer g).cursors cls none) e.slot x.slot := by
  refine ⟨mem_releaseClass.1 ((mem_ringAfter _ _ _ _).1 (List.mem_of_head? h)), fun x hx ho hne => ?_⟩
  have hordered := ringAfter_pairwise (fun e : Episode => e.slot) (vget (s.pacer g).cursors cls none) _
    (((List.pairwise_map.1 ho).filter (fun e => e.key.group == g)).filter (fun e => e.releasable && e.cls == cls))
  rcases head?_first hordered h ((mem_ringAfter _ _ _ _).2 (mem_releaseClass.2 hx)) with rfl | hbefore
  · exact absurd rfl hne
  · exact hbefore

/-- A class with an episode that has a packet to release has a turn. -/
theorem releaseTurn?_isSome {s : State} {g : Nat} {x : Episode} (hx : x ∈ s.groupEpisodes g ∧ x.releasable = true) :
    (s.releaseTurn? g x.cls).isSome = true := by
  rw [State.releaseTurn?, List.isSome_head?]
  exact List.ne_nil_of_mem ((mem_ringAfter _ _ _ _).2 (mem_releaseClass.2 ⟨hx, rfl⟩))

/-- A release decision is for an episode of the lowest class that holds one, and in it for the one whose turn it is (R108). -/
theorem releaseChoice?_turn {s : State} {g : Nat} {e : Episode} (h : s.releaseChoice? g = some e) :
    s.mayRelease g = true ∧ (e ∈ s.groupEpisodes g ∧ e.releasable = true) ∧ e.cls ≤ 3 ∧
      ∀ x, x ∈ s.groupEpisodes g ∧ x.releasable = true → e.cls ≤ x.cls ∧
        (s.SlotOrder → x.cls = e.cls → x.slot ≠ e.slot →
          RingBefore (vget (s.pacer g).cursors e.cls none) e.slot x.slot) := by
  obtain ⟨hmay, hfound⟩ := releaseChoice?_eq_some.1 h
  obtain ⟨cls, hcls, hclass, hlowest⟩ := findSome?_first (fun a b : Nat => a < b) (s.releaseTurn? g) _ List.pairwise_lt_range e
    hfound
  obtain ⟨⟨he, rfl⟩, hturn⟩ := releaseTurn?_first hclass
  have hlt := List.mem_range.1 hcls
  refine ⟨hmay, he, by omega, fun x hx => ⟨?_, fun ho hxcls => hturn x ⟨hx, hxcls⟩ ho⟩⟩
  by_contra hlower
  rcases hlowest x.cls (List.mem_range.2 (by omega)) (releaseTurn?_isSome hx) with heq | hlt <;> omega

/-- A group that may release and has an episode to release from has a decision (R107). -/
theorem releaseChoice?_isSome {s : State} {g : Nat} {x : Episode} (hmay : s.mayRelease g = true)
    (hx : x ∈ s.groupEpisodes g ∧ x.releasable = true) (hcls : x.cls ≤ 3) : (s.releaseChoice? g).isSome = true := by
  rw [releaseChoice?_eq_turn, if_pos hmay]
  exact findSome?_isSome _ _ x.cls (List.mem_range.2 (by omega)) (releaseTurn?_isSome hx)

/-- Settles O39: the turn by `releaseChoice?_turn`, the effects by `beginRelease_eq`. -/
theorem releaseBeginsUnderItsConditions : Obligations.ReleaseBeginsUnderItsConditions := by
  intro s g isEligible mayBegin
  have hmay : s.mayRelease g = true ↔ mayBegin := by rw [mayRelease_iff, gateOpen_iff, linkUp_iff]
  have heligible : ∀ x, isEligible x ↔ x ∈ s.groupEpisodes g ∧ x.releasable = true := fun x => by
    rw [mem_groupEpisodes, Episode.releasable_iff, and_assoc]
  refine ⟨fun e he => ?_, fun hbegin ⟨x, hx, hcls⟩ => ?_, fun e head rest he hq => ?_, fun hnone => ?_⟩
  · obtain ⟨hconditions, hmem, hcls, hfirst⟩ := releaseChoice?_turn he
    exact ⟨hmay.1 hconditions, (heligible e).2 hmem, hcls, fun x hx => hfirst x ((heligible x).1 hx)⟩
  · exact releaseChoice?_isSome (hmay.2 hbegin) ((heligible x).1 hx) hcls
  · rw [beginRelease_eq he hq, updEp_eq]
    rfl
  · rw [State.beginRelease, hnone]

end Sys2Proof.Machine
end

-- ==== Proofs: the Timebase and store initialisation ====
section
/-! The start decision, the loss and the return of the reference (R120, R121), and the end of store initialisation (R98, R175,
R181), each as the state that its event ends in. -/

namespace Sys2Proof.Machine

theorem decideClock_undecided {s : State} (h : s.time.clock = none) (edgesSeen : Bool) : s.decideClock edgesSeen =
    if edgesSeen then { s with time := ⟨some .reference, s.time.ticks⟩ }
    else { s with time := ⟨some .fallback, s.time.ticks⟩ }.raise (.clockState .fallback) := by
  simp [State.decideClock, h]

theorem loseReference_running {s : State} (h : s.time.clock = some .reference) :
    s.loseReference = { s with time := ⟨some .fallback, s.time.ticks⟩ }.raise (.clockState .fallback) := by
  simp [State.loseReference, h]

theorem regainReference_fallen {s : State} (h : s.time.clock = some .fallback) :
    s.regainReference = { s with time := ⟨some .reference, s.time.ticks⟩ }.raise (.clockState .reference) := by
  simp [State.regainReference, h]

/-- The state when store initialisation has ended (R98, R175, R181). -/
def State.initialised (s : State) : State :=
  { s with store := { s.store with initialising := false }, mgmt := { s.mgmt with ready := true } }.raise
    (.ready identity s.mgmt.startCause s.reportedClock)

theorem finishInit_initialising {s : State} (h : s.store.initialising = true) : s.finishInit = s.initialised := by
  rw [State.finishInit, if_pos h]
  rfl

/-- With no packet that has cells, every cell is free once initialisation has ended (R73, R98). -/
theorem initialised_freeCells {s : State} (h : s.packetsWithCells = []) : s.initialised.freeCells = 2097152 := by
  have hpackets : s.initialised.packetsWithCells = s.packetsWithCells := rfl
  have hended : s.initialised.store.initialising = false := rfl
  simp [State.freeCells, hpackets, hended, h]

/-- Settles O18: each row by its effect in the state its event begins with. -/
theorem clockAndStoreInitialisationStartThePart : Obligations.ClockAndStoreInitialisationStartThePart := by
  refine ⟨⟨fun s hr hc => ⟨?_, ?_⟩, fun s hr hc => ?_, fun s hr hc => ?_⟩, fun s hr hi => ⟨?_, ?_⟩⟩
  · exact endsAt_event rfl hr (decideClock_undecided (s := s.begun) hc true)
  · exact endsAt_event rfl hr (decideClock_undecided (s := s.begun) hc false)
  · exact endsAt_event rfl hr (loseReference_running (s := s.begun) hc)
  · exact endsAt_event rfl hr (regainReference_fallen (s := s.begun) hc)
  · exact endsAt_event rfl hr (finishInit_initialising (s := s.begun) hi)
  · exact fun hnone => initialised_freeCells (s := s.begun) hnone

end Sys2Proof.Machine
end

-- ==== Proofs: rates and the pacer tick ====
section
/-! The rates of the pacers: SET_RATE and COMMIT_RATE (R112, R114, R183), the application of a pending rate (R116, R117), and the
accrual of the pacer tick (R102, R103). -/

namespace Sys2Proof.Machine

/-! ### Rate application -/

/-- The lower of a credit and a burst limit (R116). -/
theorem min_burst_eq (credit : Int) (burst : Nat) :
    min credit (burst : Int) = if (burst : Int) < credit then (burst : Int) else credit := by
  rw [min_comm, min_def_lt]

theorem applyRate_some {s : State} {g : Nat} {r : PendingRate} (h : (s.pacer g).pending = some r) :
    s.applyRate g = (s.updPacer g (fun _ => (s.pacer g).applyRate r)).raise (.rateApplied
      { port := g, rate := r.rate, burst := r.burst, apply := r.apply, continuity := r.continuity,
        releaseCredit := ((s.pacer g).applyRate r).releaseCredit, grantCredit := ((s.pacer g).applyRate r).grantCredit,
        remainder := ((s.pacer g).applyRate r).remainder }) := by
  have hrate : ((s.pacer g).applyRate r).rate = r.rate ∧ ((s.pacer g).applyRate r).burst = r.burst := by
    unfold Pacer.applyRate
    cases r.continuity <;> exact ⟨rfl, rfl⟩
  unfold State.applyRate
  rw [h]
  dsimp only
  rw [hrate.1, hrate.2]

/-- What a rate application leaves of a credit that it keeps: no more than the burst limit, and no less than a floor that is
not above 0 (R116). -/
theorem capped_credit (credit : Int) (burst : Nat) :
    (if (burst : Int) < credit then (burst : Int) else credit) ≤ burst ∧
      ∀ low : Int, low ≤ 0 → low ≤ credit → low ≤ if (burst : Int) < credit then (burst : Int) else credit := by
  rw [← min_burst_eq]
  exact ⟨min_le_right _ _, fun low hlow hcredit => le_min hcredit (by omega)⟩

/-- Settles O17: the pacer by `Pacer.applyRate`, case by case of its continuity, the notice by `applyRate_some`. -/
theorem rateApplicationFollowsItsContinuity : Obligations.RateApplicationFollowsItsContinuity := by
  intro s g r _ hr x y
  have hy : (s.pacer g).applyRate r = y := by
    simp only [Pacer.applyRate, min_burst_eq]
    rfl
  refine ⟨by rw [applyRate_some hr, hy], ?_⟩
  simp only [y]
  cases r.continuity with
  | keep =>
    obtain ⟨hrelease, hreleaseLow⟩ := capped_credit x.releaseCredit r.burst
    obtain ⟨hgrant, hgrantLow⟩ := capped_credit x.grantCredit r.burst
    exact ⟨rfl, hrelease, hgrant, hreleaseLow _ (by omega), hgrantLow _ (by omega)⟩
  | reset => exact ⟨rfl, by simp, by simp, by simp, by simp⟩

/-! ### The pacer tick -/

/-- The accrual of one tick, as the manual writes it: X, and 1 more where the fraction carries (R102). -/
theorem Pacer.accrue_eq (p : Pacer) : p.accrue =
    { p with remainder := if p.rate.b ≤ p.remainder + p.rate.a then p.remainder + p.rate.a - p.rate.b else p.remainder + p.rate.a,
             releaseCredit := min (p.releaseCredit + p.rate.x + (if p.rate.b ≤ p.remainder + p.rate.a then 1 else 0)) p.burst,
             grantCredit := min (p.grantCredit + p.rate.x + (if p.rate.b ≤ p.remainder + p.rate.a then 1 else 0)) p.burst } := by
  simp only [Pacer.accrue, Nat.cast_add, Nat.cast_ite, Nat.cast_one, Nat.cast_zero, add_assoc]

/-- A pending rate is due when it is to apply NOW, or ON_COMMIT with the commit mark set (R113, R114). -/
theorem applyDue_eq (s : State) (g : Nat) : s.applyDue g =
    match (s.pacer g).pending with
    | none => s
    | some r => if r.apply = .now ∨ (r.apply = .onCommit ∧ (s.pacer g).commit = true) then s.applyRate g else s := by
  unfold State.applyDue Pacer.rateDue
  cases (s.pacer g).pending <;> simp

/-- The due rates apply, and leave the ports (R102). -/
theorem foldl_applyDue_ports (l : List Nat) (s : State) : (l.foldl State.applyDue s).ports = s.ports :=
  foldl_keeps (fun t : State => t.ports) _ (by simp) l s

theorem pacersTick_eq (s : State) : s.pacersTick =
    { s.groups.foldl State.applyDue s with
      pacers := vmapIdx (s.groups.foldl State.applyDue s).pacers
        (fun i p => if (s.port i).role = .pairOdd then p else p.accrue) } := by
  unfold State.pacersTick State.port
  simp only [foldl_applyDue_ports, beq_iff_eq]

theorem pacerTick_running {s : State} (h : s.time.clock.isSome = true) : s.pacerTick =
    (let n := s.time.ticks + 1
     let accrued := { s with time := ⟨s.time.clock, n⟩ }.pacersTick
     let granted := if n % 2000 = 0 then accrued.updAll Episode.grantTick else accrued
     if n % 32000 = 0 then granted.updAll Episode.deadlineTick else granted) := by
  unfold State.pacerTick
  rw [if_neg (by simpa [Option.isSome_iff_ne_none] using h)]

/-- Settles O16: the rows by `State.pacerTick` before and after the start decision, the accrual by `Pacer.accrue_eq`. -/
theorem pacerTickAccruesAndTicks : Obligations.PacerTickAccruesAndTicks := by
  refine ⟨fun s hr hclock => endsAt_event rfl hr ?_, fun s hr hclock => endsAt_event rfl hr ?_, applyDue_eq,
    fun e x d c => ⟨rfl, rfl, rfl, rfl, rfl⟩, fun s f => rfl⟩
  · rw [pacerTick_running (s := s.begun) hclock]
    simp only [pacersTick_eq, Pacer.accrue_eq]
    rfl
  · have hstopped : s.begun.time.clock.isNone = true := by simp [State.begun, hclock]
    rw [State.pacerTick, if_pos hstopped]

/-! ### SET_RATE -/

/-- The apply mode of a code (Table 11-2, kind 08h). -/
def applyOf (code : Byte) : Option ApplyMode :=
  if code = 0 then some .now else if code = 1 then some .onCommit else if code = 2 then some .onNextEpisode else none

/-- The continuity of a code (Table 11-2, kind 08h). -/
def continuityOf (code : Byte) : Option Continuity :=
  if code = 0 then some .keep else if code = 1 then some .reset else none

theorem applyAt_eq {body : List Byte} {i : Nat} {code : Byte} (h : byteAt body i = code) : applyAt body i = applyOf code := by
  subst h
  unfold applyAt applyOf
  generalize byteAt body i = code
  revert code
  decide

theorem continuityAt_eq {body : List Byte} {i : Nat} {code : Byte} (h : byteAt body i = code) :
    continuityAt body i = continuityOf code := by
  subst h
  unfold continuityAt continuityOf
  generalize byteAt body i = code
  revert code
  decide

/-- The body of SET_RATE (Table 11-2, kind 08h). -/
def setRateBody (port x : Byte) (a b : Half) (burst : BitVec 24) (apply continuity : Byte) : List Byte :=
  [port, x] ++ toBe 2 a.toNat ++ toBe 2 b.toNat ++ toBe 3 burst.toNat ++ [apply, continuity]

section
variable (port x : Byte) (a b : Half) (burst : BitVec 24) (apply continuity : Byte)

theorem rateAt_setRateBody : rateAt (setRateBody port x a b burst apply continuity) =
    if b.toNat = 0 ∨ b.toNat ≤ a.toNat then none else some ⟨x.toNat, a.toNat, b.toNat⟩ := by
  have hx : byteAt (setRateBody port x a b burst apply continuity) 1 = x := rfl
  have ha : fieldAt (setRateBody port x a b burst apply continuity) 2 2 = a.toNat := by
    simpa [setRateBody] using fieldAt_half a [port, x] (toBe 2 b.toNat ++ toBe 3 burst.toNat ++ [apply, continuity]) 2 rfl
  have hb : fieldAt (setRateBody port x a b burst apply continuity) 4 2 = b.toNat := by
    simpa [setRateBody] using fieldAt_half b ([port, x] ++ toBe 2 a.toNat) (toBe 3 burst.toNat ++ [apply, continuity]) 4 rfl
  unfold rateAt
  simp only [hx, ha, hb, Bool.and_eq_true, decide_eq_true_eq]
  by_cases hb : 1 ≤ b.toNat ∧ a.toNat < b.toNat
  · rw [if_pos hb, if_neg (by omega)]
  · rw [if_neg hb, if_pos (by omega)]

theorem burstAt_setRateBody : fieldAt (setRateBody port x a b burst apply continuity) 6 3 = burst.toNat :=
  fieldAt_three burst ([port, x] ++ toBe 2 a.toNat ++ toBe 2 b.toNat) [apply, continuity] 6 rfl

/-- SET_RATE by its tests in order (R112, R183). -/
theorem setRateEffect_eq (s : State) : setRateEffect (setRateBody port x a b burst apply continuity) s.begun =
    if 48 ≤ port.toNat then .refuse .badValue
    else if (s.port port.toNat).role = .pairOdd then .refuse .wrongPort
    else if b.toNat = 0 ∨ b.toNat ≤ a.toNat then .refuse .badValue
    else if 262143 < burst.toNat then .refuse .badValue
    else match applyOf apply, continuityOf continuity with
      | some mode, some kept => .ok (s.begun.updPacer port.toNat (fun p =>
          { p with pending := some ⟨⟨x.toNat, a.toNat, b.toNat⟩, burst.toNat, mode, kept⟩, commit := false })) .nothing
      | _, _ => .refuse .badValue := by
  have hport : portAt (setRateBody port x a b burst apply continuity) 0 = port.toNat := rfl
  have happly : byteAt (setRateBody port x a b burst apply continuity) 9 = apply := rfl
  have hcontinuity : byteAt (setRateBody port x a b burst apply continuity) 10 = continuity := rfl
  unfold setRateEffect
  dsimp only
  rw [hport, begun_portRefusal, rateAt_setRateBody, burstAt_setRateBody, applyAt_eq happly, continuityAt_eq hcontinuity]
  split_ifs <;> rfl

end

/-! ### COMMIT_RATE -/

/-- A command of the host on a part that serves it, of a kind whose body has no one length: the length test, then what its
performance comes to (R173). -/
theorem endsAt_upTo {i : Instr} {s u : State} {f : Frame} {most : Nat} (hf : frameOf? i = some f) (h : Serves s)
    (hb : bodyLength f.kind = some (0, most)) (hl : f.body.length ≤ 1024)
    (hu : (if most < f.body.length then s.refusal f.kind f.tag .badLength else (performed f s.begun).ends s f) = u) :
    EndsAt i s u := by
  obtain ⟨htakes, hready⟩ := h
  by_cases hlong : most < f.body.length
  · rw [if_pos hlong] at hu
    have hrefused : sharedCheck s.begun.mgmt.ready f = some .badLength := by simp [sharedCheck, hb, hlong]
    have ⟨_, _, _, _, hcommands, _⟩ := htakes
    unfold EndsAt
    rw [exec_host i s f hf, hostSends_takes s f htakes hl, take_refuses s.begun f [] .badLength hrefused, ← hcommands, ← hu]
    rfl
  · rw [if_neg hlong] at hu
    refine endsAt_performs i s u f (exec_host i s f hf) htakes hl ?_ ((perform_ends s f).trans hu)
    simp [sharedCheck, hb, hlong, hready]

/-- COMMIT_RATE by its tests in order (R114, R183). -/
theorem commitRateEffect_eq (s : State) (ports : List Byte) : commitRateEffect ports s.begun =
    (let named := firstOnes (ports.map (fun b => b.toNat))
     let marked := named.filter (fun p => (s.pacer p).pending.any (fun r => r.apply == .onCommit))
     if named = [] ∨ (∃ p ∈ named, 48 ≤ p) then .refuse .badValue
     else if ∃ p ∈ named, (s.port p).role = .pairOdd then .refuse .wrongPort
     else if marked = [] then .refuse .wrongState
     else .ok (marked.foldl (fun u p => u.updPacer p (fun x => { x with commit := true })) s.begun) (.ports marked)) := by
  unfold commitRateEffect
  simp only [Bool.or_eq_true, List.isEmpty_iff, List.any_eq_true, decide_eq_true_eq, beq_iff_eq]
  rfl

theorem firstOnes_sublist (l : List Nat) : (firstOnes l).Sublist l := by
  induction l with
  | nil => exact List.Sublist.refl _
  | cons x rest ih => exact (List.filter_sublist.trans ih).cons_cons x

theorem firstOnes_nodup (l : List Nat) : (firstOnes l).Nodup := by
  induction l with
  | nil => exact List.nodup_nil
  | cons x rest ih => exact List.nodup_cons.2 ⟨by simp, ih.filter _⟩

theorem mem_firstOnes {l : List Nat} {x : Nat} (h : x ∈ l) : x ∈ firstOnes l := by
  induction l with
  | nil => exact h
  | cons y rest ih =>
    by_cases hxy : x = y
    · exact hxy ▸ List.mem_cons_self
    · have hrest := ih ((List.mem_cons.1 h).resolve_left hxy)
      exact List.mem_cons_of_mem y (List.mem_filter.2 ⟨hrest, by simpa using hxy⟩)

/-- Settles O15: SET_RATE by `setRateEffect_eq`, COMMIT_RATE by `commitRateEffect_eq` behind its length test. -/
theorem setAndCommitRateWriteThePendingRate : Obligations.SetAndCommitRateWriteThePendingRate := by
  refine ⟨fun s tag port x a b burst apply continuity hS => ?_, fun s tag ports hS hl => ?_,
    fun l => ⟨firstOnes_sublist l, firstOnes_nodup l, fun x hx => mem_firstOnes hx⟩⟩
  · refine endsAt_served rfl hS rfl (by simp [toBe]) ?_
    change (setRateEffect (setRateBody port x a b burst apply continuity) s.begun).ends s _ = _
    rw [setRateEffect_eq]
    unfold applyOf continuityOf
    dsimp only
    split_ifs <;> rfl
  · refine endsAt_upTo rfl hS rfl hl ?_
    rw [show performed ⟨kindCommitRate, tag, ports⟩ s.begun = _ from commitRateEffect_eq s ports]
    dsimp only
    split_ifs <;> rfl

end Sys2Proof.Machine
end

-- ==== Proofs: policy records ====
section
/-! The policy record in its 18 bytes (Tables 6-2 and 11-3): which bytes are a record, what record they are, and that a policy
within Table 6-2 is read back from the bytes it is written in (R124, R183). -/

namespace Sys2Proof.Machine

/-- A number of two bytes at an offset of a body, its most significant byte first (11). -/
theorem fieldAt_two {body : List Byte} {i : Nat} (h : i + 1 < body.length) :
    fieldAt body i 2 = (byteAt body i).toNat * 256 + (byteAt body (i + 1)).toNat := by
  have hdrop : body.drop i = body[i] :: body[i + 1] :: body.drop (i + 1 + 1) := by
    rw [List.drop_eq_getElem_cons (i := i) (by omega), List.drop_eq_getElem_cons h]
  unfold fieldAt byteAt
  rw [hdrop, List.getD_eq_getElem _ _ (by omega), List.getD_eq_getElem _ _ h]
  change (0 * 256 + _) * 256 + _ = _
  rw [Nat.zero_mul, Nat.zero_add]

/-- A number of two bytes is read back from them. -/
theorem beNat_two {n : Nat} (h : n ≤ 65535) : beNat [BitVec.ofNat 8 (n / 256), BitVec.ofNat 8 n] = n := by
  simp only [beNat, List.foldl_cons, List.foldl_nil, BitVec.toNat_ofNat]
  omega

theorem toNat_ofNat_byte {n : Nat} (h : n ≤ 255) : (BitVec.ofNat 8 n).toNat = n := by
  rw [BitVec.toNat_ofNat]
  omega

theorem inRange_iff {least greatest n : Nat} : inRange least greatest n = true ↔ least ≤ n ∧ n ≤ greatest := by
  simp [inRange]

/-! ### The codes of a record (Table 11-3) -/

/-- The byte at an offset of a policy record that stands from byte `i` of a body. -/
def recordByte (body : List Byte) (i k : Nat) : Nat := (byteAt body (i + k)).toNat

/-- The two bytes at an offset of such a record. -/
def recordHalf (body : List Byte) (i k : Nat) : Nat := fieldAt body (i + k) 2

/-- Every field of a policy record lies within Table 6-2 and has a defined code (R124, R183). -/
def RecordWithin (byte half : Nat → Nat) : Prop :=
  byte 0 ≤ 1 ∧ 256 ≤ half 1 ∧ half 1 ≤ 9216 ∧ 1 ≤ byte 3 ∧ byte 3 ≤ 15 ∧ 1 ≤ byte 4 ∧ byte 4 ≤ 64 ∧
  16 ≤ half 5 ∧ half 5 ≤ 16384 ∧ 1 ≤ byte 9 ∧ 1 ≤ byte 10 ∧ 1 ≤ byte 11 ∧ 1 ≤ byte 12 ∧ byte 13 ≤ 1 ∧ byte 14 ≤ 2 ∧
  byte 15 ≤ 1 ∧ byte 16 ≤ 1 ∧ byte 17 < 64

/-- The policy whose fields stand at the offsets of Table 11-3. -/
def recordPolicy (byte half : Nat → Nat) : Policy :=
  { bond := if byte 0 = 0 then .none else .pair, mtu := half 1, allowance := byte 3, grantSize := byte 4,
    reservation := half 5, borrowCap := half 7, deadline := byte 9, grantTimeout := byte 10, linger := byte 11,
    idle := byte 12, expiry := if byte 13 = 0 then .drain else .discard,
    notice := if byte 14 = 0 then .none else if byte 14 = 1 then .marked else .every, adopt := decide (byte 15 = 1),
    mode := if byte 16 = 0 then .hold else .wrap, protect := BitVec.ofNat 6 (byte 17) }

/-- A code of 0 or 1, read by its 1 or by its 0. -/
theorem ite_code {α : Type} {n : Nat} (h : n ≤ 1) (a b : α) : (if n = 1 then a else b) = if n = 0 then b else a := by
  interval_cases n <;> rfl

section
variable {body : List Byte} {i : Nat}

theorem recordByte_le (k : Nat) : recordByte body i k ≤ 255 := Nat.le_of_lt_succ (BitVec.isLt _)

theorem policyAt_of_within (hcap : recordHalf body i 7 ≤ 65535) (h : RecordWithin (recordByte body i) (recordHalf body i)) :
    policyAt body i = some (recordPolicy (recordByte body i) (recordHalf body i)) := by
  have h9 := recordByte_le (body := body) (i := i) 9
  have h10 := recordByte_le (body := body) (i := i) 10
  have h11 := recordByte_le (body := body) (i := i) 11
  have h12 := recordByte_le (body := body) (i := i) 12
  obtain ⟨h0, hmtu, hmtu', h3, h3', h4, h4', hres, hres', h9', h10', h11', h12', h13, h14, h15, h16, h17⟩ := h
  refine (if_pos ?_).trans (congrArg some ?_)
  · simp only [Bool.and_eq_true, inRange_iff, decide_eq_true_eq]
    unfold recordByte recordHalf at *
    omega
  · rw [recordPolicy, ← ite_code h0, ← ite_code h13, ← ite_code h16, ← beq_eq_decide]
    rfl

theorem policyAt_of_not_within (h : ¬ RecordWithin (recordByte body i) (recordHalf body i)) : policyAt body i = none := by
  refine if_neg (fun hc => h ?_)
  simp only [Bool.and_eq_true, inRange_iff, decide_eq_true_eq] at hc
  unfold RecordWithin recordByte recordHalf
  omega

end

/-- The two bytes at an offset of a record that a body begins with. -/
theorem recordHalf_eq {body : List Byte} {k : Nat} (h : k + 1 < body.length) :
    recordHalf body 0 k = (body.getD k 0).toNat * 256 + (body.getD (k + 1) 0).toNat := by
  unfold recordHalf
  rw [Nat.zero_add, fieldAt_two h]
  rfl

/-! ### The bytes of a policy (Table 11-3) -/

/-- A policy record within Table 6-2. -/
def Policy.InTable (pol : Policy) : Prop :=
  256 ≤ pol.mtu ∧ pol.mtu ≤ 9216 ∧ 1 ≤ pol.allowance ∧ pol.allowance ≤ 15 ∧ 1 ≤ pol.grantSize ∧ pol.grantSize ≤ 64 ∧
  16 ≤ pol.reservation ∧ pol.reservation ≤ 16384 ∧ pol.borrowCap ≤ 65535 ∧ 1 ≤ pol.deadline ∧ pol.deadline ≤ 255 ∧
  1 ≤ pol.grantTimeout ∧ pol.grantTimeout ≤ 255 ∧ 1 ≤ pol.linger ∧ pol.linger ≤ 255 ∧ 1 ≤ pol.idle ∧ pol.idle ≤ 255

def Bond.code : Bond → Nat
  | .none => 0
  | .pair => 1

def ExpiryAction.code : ExpiryAction → Nat
  | .drain => 0
  | .discard => 1

def NoticePolicy.code : NoticePolicy → Nat
  | .none => 0
  | .marked => 1
  | .every => 2

def CounterMode.code : CounterMode → Nat
  | .hold => 0
  | .wrap => 1

/-- The codes of a policy's choices are those that Table 11-3 defines. -/
theorem Policy.codes_le (pol : Policy) : pol.bond.code ≤ 1 ∧ pol.expiry.code ≤ 1 ∧ pol.notice.code ≤ 2 ∧ pol.mode.code ≤ 1 ∧
    (if pol.adopt then 1 else 0) ≤ 1 ∧ pol.protect.toNat < 64 := by
  refine ⟨?_, ?_, ?_, ?_, ?_, pol.protect.isLt⟩
  · cases pol.bond <;> decide
  · cases pol.expiry <;> decide
  · cases pol.notice <;> decide
  · cases pol.mode <;> decide
  · cases pol.adopt <;> decide

theorem Bond.of_code (b : Bond) : (if b.code = 0 then Bond.none else .pair) = b := by cases b <;> rfl

theorem ExpiryAction.of_code (e : ExpiryAction) : (if e.code = 0 then ExpiryAction.drain else .discard) = e := by
  cases e <;> rfl

theorem NoticePolicy.of_code (n : NoticePolicy) :
    (if n.code = 0 then NoticePolicy.none else if n.code = 1 then .marked else .every) = n := by
  cases n <;> rfl

theorem CounterMode.of_code (m : CounterMode) : (if m.code = 0 then CounterMode.hold else .wrap) = m := by cases m <;> rfl

theorem toBe_one (n : Nat) : toBe 1 n = [BitVec.ofNat 8 n] := rfl

theorem toBe_two (n : Nat) : toBe 2 n = [BitVec.ofNat 8 (n / 256), BitVec.ofNat 8 n] := rfl

theorem Policy.encode_codes (pol : Policy) : pol.encode =
    toBe 1 pol.bond.code ++ toBe 2 pol.mtu ++ toBe 1 pol.allowance ++ toBe 1 pol.grantSize ++ toBe 2 pol.reservation ++
      toBe 2 pol.borrowCap ++ toBe 1 pol.deadline ++ toBe 1 pol.grantTimeout ++ toBe 1 pol.linger ++ toBe 1 pol.idle ++
      toBe 1 pol.expiry.code ++ toBe 1 pol.notice.code ++ toBe 1 (if pol.adopt then 1 else 0) ++ toBe 1 pol.mode.code ++
      toBe 1 pol.protect.toNat := rfl

theorem Policy.encode_eq (pol : Policy) : pol.encode =
    [BitVec.ofNat 8 pol.bond.code, BitVec.ofNat 8 (pol.mtu / 256), BitVec.ofNat 8 pol.mtu, BitVec.ofNat 8 pol.allowance,
     BitVec.ofNat 8 pol.grantSize, BitVec.ofNat 8 (pol.reservation / 256), BitVec.ofNat 8 pol.reservation,
     BitVec.ofNat 8 (pol.borrowCap / 256), BitVec.ofNat 8 pol.borrowCap, BitVec.ofNat 8 pol.deadline,
     BitVec.ofNat 8 pol.grantTimeout, BitVec.ofNat 8 pol.linger, BitVec.ofNat 8 pol.idle, BitVec.ofNat 8 pol.expiry.code,
     BitVec.ofNat 8 pol.notice.code, BitVec.ofNat 8 (if pol.adopt then 1 else 0), BitVec.ofNat 8 pol.mode.code,
     BitVec.ofNat 8 pol.protect.toNat] := by
  simp only [pol.encode_codes, toBe_one, toBe_two, List.cons_append, List.nil_append]

/-- The fields of the bytes of a policy within Table 6-2, behind the port that SET_PORT's body begins with. -/
theorem recordByte_encode {pol : Policy} (h : pol.InTable) (port : Byte) :
    let byte := recordByte (port :: pol.encode) 1
    byte 0 = pol.bond.code ∧ byte 3 = pol.allowance ∧ byte 4 = pol.grantSize ∧ byte 9 = pol.deadline ∧
    byte 10 = pol.grantTimeout ∧ byte 11 = pol.linger ∧ byte 12 = pol.idle ∧ byte 13 = pol.expiry.code ∧
    byte 14 = pol.notice.code ∧ byte 15 = (if pol.adopt then 1 else 0) ∧ byte 16 = pol.mode.code ∧ byte 17 = pol.protect.toNat := by
  obtain ⟨-, -, -, hallowance, -, hgrant, -, -, -, -, hdeadline, -, htimeout, -, hlinger, -, hidle⟩ := h
  have hcodes := pol.codes_le
  rw [pol.encode_eq]
  refine ⟨toNat_ofNat_byte ?_, toNat_ofNat_byte ?_, toNat_ofNat_byte ?_, toNat_ofNat_byte ?_, toNat_ofNat_byte ?_,
    toNat_ofNat_byte ?_, toNat_ofNat_byte ?_, toNat_ofNat_byte ?_, toNat_ofNat_byte ?_, toNat_ofNat_byte ?_,
    toNat_ofNat_byte ?_, toNat_ofNat_byte ?_⟩ <;> omega

theorem recordHalf_encode {pol : Policy} (h : pol.InTable) (port : Byte) :
    let half := recordHalf (port :: pol.encode) 1
    half 1 = pol.mtu ∧ half 5 = pol.reservation ∧ half 7 = pol.borrowCap := by
  obtain ⟨-, hmtu, -, -, -, -, -, hreservation, hcap, -⟩ := h
  simp only [pol.encode_eq, recordHalf, fieldAt, Nat.reduceAdd, List.drop_succ_cons, List.drop_zero, List.take_succ_cons,
    List.take_zero]
  exact ⟨beNat_two (by omega), beNat_two (by omega), beNat_two hcap⟩

/-- A policy within Table 6-2 is read back from its bytes (Table 11-3). -/
theorem policyAt_encode {pol : Policy} (h : pol.InTable) (port : Byte) : policyAt (port :: pol.encode) 1 = some pol := by
  obtain ⟨h0, h3, h4, h9, h10, h11, h12, h13, h14, h15, h16, h17⟩ := recordByte_encode h port
  obtain ⟨h1, h5, h7⟩ := recordHalf_encode h port
  have hcodes := pol.codes_le
  have hread : decide ((if pol.adopt then 1 else 0) = 1) = pol.adopt := by cases pol.adopt <;> rfl
  have hpolicy : recordPolicy (recordByte (port :: pol.encode) 1) (recordHalf (port :: pol.encode) 1) = pol := by
    unfold recordPolicy
    rw [h0, h1, h3, h4, h5, h7, h9, h10, h11, h12, h13, h14, h15, h16, h17, Bond.of_code, ExpiryAction.of_code,
      NoticePolicy.of_code, CounterMode.of_code, hread, BitVec.ofNat_toNat, BitVec.setWidth_eq]
  obtain ⟨hmtu, hmtu', ha, ha', hg, hg', hr, hr', hc, hd, hd', ht, ht', hl, hl', hi, hi'⟩ := h
  rw [policyAt_of_within (h7.trans_le hc), hpolicy]
  unfold RecordWithin
  omega

/-- Settles O51: the round trip by `policyAt_encode`, any 18 bytes by `policyAt_of_within` and `policyAt_of_not_within`. -/
theorem policyRecordDecodesAsEncoded : Obligations.PolicyRecordDecodesAsEncoded := by
  refine ⟨fun pol port hmtu hmtu' ha ha' hg hg' hr hr' hc hd hd' ht ht' hl hl' hi hi' => ⟨?_, ?_⟩, ?_⟩
  · rw [pol.encode_eq]; rfl
  · exact policyAt_encode ⟨hmtu, hmtu', ha, ha', hg, hg', hr, hr', hc, hd, hd', ht, ht', hl, hl', hi, hi'⟩ port
  · intro record byte half within
    have hlength : record.toList.length = 18 := record.length_toList
    have hbyte : recordByte record.toList 0 = byte := by
      funext k
      unfold recordByte
      rw [Nat.zero_add]
      rfl
    have h1 : recordHalf record.toList 0 1 = half 1 := recordHalf_eq (by omega)
    have h5 : recordHalf record.toList 0 5 = half 5 := recordHalf_eq (by omega)
    have h7 : recordHalf record.toList 0 7 = half 7 := recordHalf_eq (by omega)
    have hwithin : RecordWithin (recordByte record.toList 0) (recordHalf record.toList 0) ↔ within := by
      unfold RecordWithin
      rw [hbyte, h1, h5]
    have hcap : half 7 ≤ 65535 := by
      have hhigh : byte 7 ≤ 255 := hbyte ▸ recordByte_le 7
      have hlow : byte 8 ≤ 255 := hbyte ▸ recordByte_le 8
      have : half 7 = byte 7 * 256 + byte 8 := rfl
      omega
    refine ⟨fun h => policyAt_of_not_within (mt hwithin.1 h), fun h => ?_⟩
    rw [policyAt_of_within (h7.trans_le hcap) (hwithin.2 h), recordPolicy, hbyte, h1, h5, h7]

end Sys2Proof.Machine
end

-- ==== Proofs: port records and control words ====
section
/-! The records of a drain group's members after a change of them all, and the control words handed to the return arbiter: the
control queue that they join (R126, R153). -/

namespace Sys2Proof.Machine

/-! ### Port records -/

/-- A change that leaves a port's record as it is changes nothing. -/
theorem updPort_same {s : State} {p : Nat} {f : Port → Port} (h : f (s.port p) = s.port p) : s.updPort p f = s := by
  have hports : vupd s.ports p f = s.ports := by
    unfold vupd
    split
    · rename_i hp
      have hentry : s.port p = s.ports[p] := dif_pos hp
      rw [← hentry, h, hentry, Vector.set_getElem_self]
    · rfl
  rw [State.updPort, hports]

/-- Two changes that agree on a port's record are one. -/
theorem updPort_congr {s : State} {p : Nat} {f g : Port → Port} (h : f (s.port p) = g (s.port p)) :
    s.updPort p f = s.updPort p g := by
  have hports : vupd s.ports p f = vupd s.ports p g := by
    unfold vupd
    split
    · rename_i hp
      have hentry : s.port p = s.ports[p] := dif_pos hp
      rw [← hentry, h]
    · rfl
  rw [State.updPort, hports, State.updPort]

theorem members_nodup (s : State) (g : Nat) : (s.members g).Nodup := by
  unfold State.members
  split <;> simp

/-- The ports after the records of distinct ports were changed. -/
theorem port_foldl_updPort (f : Port → Port) (q : Nat) {l : List Nat} (hl : l.Nodup) (s : State) :
    (l.foldl (fun t m => t.updPort m f) s).port q = if q ∈ l ∧ q < 48 then f (s.port q) else s.port q := by
  induction l generalizing s with
  | nil => simp
  | cons m l ih =>
    obtain ⟨hm, hl⟩ := List.nodup_cons.1 hl
    rw [List.foldl_cons, ih hl, port_updPort]
    by_cases hq : m = q
    · subst hq
      simp [hm]
    · simp [hq, Ne.symm hq]

/-- The ports after the records of a drain group's members were changed. -/
theorem port_updMembers (s : State) (g q : Nat) (f : Port → Port) :
    (s.updMembers g f).port q = if q ∈ s.members g ∧ q < 48 then f (s.port q) else s.port q :=
  port_foldl_updPort f q (members_nodup s g) s

/-! ### The control queue -/

/-- The control queue with words joined to its tail, those already in it left out (R153). -/
def joinWords (queue words : List ControlWord) : List ControlWord := queue ++ words.filter (fun w => decide (w ∉ queue))

theorem mem_joinWords {queue words : List ControlWord} {w : ControlWord} : w ∈ joinWords queue words ↔ w ∈ queue ∨ w ∈ words := by
  by_cases hw : w ∈ queue <;> simp [joinWords, hw]

theorem joinWords_nodup {queue words : List ControlWord} (hq : queue.Nodup) (hw : words.Nodup) : (joinWords queue words).Nodup := by
  refine List.nodup_append.2 ⟨hq, hw.filter _, fun x hx y hy => ?_⟩
  rintro rfl
  exact of_decide_eq_true (List.mem_filter.1 hy).2 hx

/-- Distinct words join one after the other as they join together: none is held back by one that joins before it. -/
theorem joinWords_cons {w : ControlWord} {words : List ControlWord} (hw : w ∉ words) (queue : List ControlWord) :
    joinWords (joinWords queue [w]) words = joinWords queue (w :: words) := by
  have hrest : words.filter (fun x => decide (x ∉ joinWords queue [w])) = words.filter (fun x => decide (x ∉ queue)) := by
    refine List.filter_congr (fun x hx => ?_)
    have hne : x ≠ w := fun h => hw (h ▸ hx)
    simp [mem_joinWords, hne]
  rw [joinWords, hrest]
  by_cases hin : w ∈ queue <;> simp [joinWords, hin]

/-- The state with control words handed to the return arbiter (R153). -/
def State.joinControl (s : State) (words : List ControlWord) : State :=
  { s with link := { s.link with control := joinWords s.link.control words } }

theorem handControl_eq (s : State) (w : ControlWord) : s.handControl w = s.joinControl [w] := by
  unfold State.handControl State.joinControl joinWords
  by_cases hw : w ∈ s.link.control
  · rw [if_pos (List.contains_iff_mem.2 hw), List.filter_cons_of_neg (by simpa using hw), List.filter_nil, List.append_nil]
  · rw [if_neg (mt List.contains_iff_mem.1 hw), List.filter_cons_of_pos (by simpa using hw), List.filter_nil]

theorem foldl_handControl {words : List ControlWord} (hw : words.Nodup) (s : State) :
    words.foldl State.handControl s = s.joinControl words := by
  induction words generalizing s with
  | nil => rw [List.foldl_nil, State.joinControl, joinWords, List.filter_nil, List.append_nil]
  | cons w words ih =>
    obtain ⟨hnew, hrest⟩ := List.nodup_cons.1 hw
    rw [List.foldl_cons, ih hrest, handControl_eq, State.joinControl, State.joinControl]
    dsimp only
    rw [joinWords_cons hnew]
    rfl

/-- START_DIVERT (`start`) or STOP_DIVERT for each member of a drain group (R126). -/
def State.memberWords (s : State) (g : Nat) (start : Bool) : List ControlWord := (s.members g).map (fun m => ⟨start, m⟩)

theorem memberWords_nodup (s : State) (g : Nat) (start : Bool) : (s.memberWords g start).Nodup :=
  (members_nodup s g).map (fun _ _ h => congrArg ControlWord.port h)

theorem foldl_handMembers (s : State) (g : Nat) (start : Bool) :
    (s.members g).foldl (fun t m => t.handControl ⟨start, m⟩) s = s.joinControl (s.memberWords g start) := by
  rw [← foldl_handControl (memberWords_nodup s g start), State.memberWords, List.foldl_map]

theorem handStart_up {s : State} (h : s.link.state = .up) (g : Nat) :
    s.handStart g = s.joinControl (s.memberWords g true) := by
  rw [State.handStart, if_pos (linkUp_iff.2 h), foldl_handMembers]

theorem handStop_up {s : State} (h : s.link.state = .up) (g : Nat) :
    s.handStop g = s.joinControl (s.memberWords g false) := by
  rw [State.handStop, if_pos (linkUp_iff.2 h), foldl_handMembers]

theorem handStart_notUp {s : State} (h : s.link.state ≠ .up) (g : Nat) : s.handStart g = s := if_neg (mt linkUp_iff.1 h)

theorem handStop_notUp {s : State} (h : s.link.state ≠ .up) (g : Nat) :
    s.handStop g = s.updMembers g (fun p => { p with stoppedSeen := true }) := if_neg (mt linkUp_iff.1 h)

theorem mem_memberWords {s : State} {g m : Nat} {start : Bool} (h : m ∈ s.members g) : ⟨start, m⟩ ∈ s.memberWords g start :=
  List.mem_map_of_mem h

end Sys2Proof.Machine
end

-- ==== Proofs: the port commands in their steps ====
section
/-! The host's commands on ports (R119, R124, R125, R127, R130, R131, R135, R137, R139, R183): the effect of each on the body of
its row's frame, by its tests in order, and the row as the state that its event ends in. -/

namespace Sys2Proof.Machine

/-- A command that tests a condition ends in what the branch taken comes to. -/
theorem ends_ite (s : State) (f : Frame) (c : Prop) [Decidable c] (a b : Performed) :
    (if c then a else b).ends s f = if c then a.ends s f else b.ends s f := apply_ite _ _ _ _

theorem ends_ok_ite (s : State) (f : Frame) (c : Prop) [Decidable c] (t u : State) (body : ReplyBody) :
    (Performed.ok (if c then t else u) body).ends s f =
      if c then (Performed.ok t body).ends s f else (Performed.ok u body).ends s f :=
  apply_ite (fun t => (Performed.ok t body).ends s f) _ _ _

/-! ### SET_PORT -/

/-- The policy record of SET_PORT's body stands behind its port (Table 11-2, kind 03h). -/
theorem policyAt_behind (port : Byte) (record : List Byte) : policyAt (port :: record) 1 = policyAt record 0 := by
  have hbyte (k : Nat) : byteAt (port :: record) (1 + k) = byteAt record (0 + k) := by
    rw [Nat.add_comm, Nat.zero_add]
    rfl
  have hfield (k : Nat) : fieldAt (port :: record) (1 + k) 2 = fieldAt record (0 + k) 2 := by
    rw [Nat.add_comm, Nat.zero_add]
    rfl
  unfold policyAt
  simp only [hbyte, hfield]

theorem rebond_eq (s : State) (p : Nat) (before after : Bond) : s.rebond p before after =
    if before = .none ∧ after = .pair then s.formBond p
    else if before = .pair ∧ after = .none then s.dissolveBond p
    else s := by
  cases before <;> cases after <;> rfl

theorem begun_partnerDisabled (s : State) (p : Nat) :
    (!s.begun.partnerDisabled p) = true ↔ (s.port (s.groupOf (p + 1))).state ≠ .disabled := by
  change (!((s.port (s.groupOf (p + 1))).state == .disabled)) = true ↔ _
  simp

/-- SET_PORT by its tests in order (R124, R125). -/
theorem setPortEffect_eq (s : State) (port : Byte) (record : List Byte) : setPortEffect (port :: record) s.begun =
    (let p := port.toNat
     if 48 ≤ p then .refuse .badValue
     else if (s.port p).role = .pairOdd then .refuse .wrongPort
     else if (s.port p).state ≠ .disabled then .refuse .wrongState
     else match policyAt record 0 with
      | none => .refuse .badValue
      | some pol =>
        if pol.bond = .pair ∧ p % 2 = 1 then .refuse .badValue
        else if pol.bond = .pair ∧ (s.port (s.groupOf (p + 1))).state ≠ .disabled then .refuse .wrongState
        else .ok ((s.begun.updPort p (fun x => { x with policy := pol })).rebond p (s.policy p).bond pol.bond) .nothing) := by
  have hport : portAt (port :: record) 0 = port.toNat := rfl
  unfold setPortEffect
  dsimp only
  rw [hport, begun_portRefusal, policyAt_behind]
  by_cases h48 : 48 ≤ port.toNat
  · simp only [if_pos h48]
  by_cases hodd : (s.port port.toNat).role = .pairOdd
  · simp only [if_neg h48, if_pos hodd]
  simp only [if_neg h48, if_neg hodd, bne_iff_ne, Bool.and_eq_true, beq_iff_eq, begun_partnerDisabled]
  rfl

/-- Settles O11: the row by `setPortEffect_eq` and the bond it leaves by `rebond_eq`; the drain groups by their definitions. -/
theorem setPortReplacesThePolicyAndTheBond : Obligations.SetPortReplacesThePolicyAndTheBond := by
  refine ⟨fun s tag port policy hS => ?_, fun s p => ⟨?_, ?_, ?_⟩⟩
  · have hlength : ([port] ++ policy.toList).length = 19 := by simp
    refine endsAt_served rfl hS (by rw [hlength]; rfl) (by simp) ?_
    rw [show performed ⟨kindSetPort, tag, [port] ++ policy.toList⟩ s.begun = _ from setPortEffect_eq s port policy.toList]
    dsimp only
    cases policyAt policy.toList 0 with
    | none =>
      simp only [ends_ite]
      rfl
    | some pol =>
      simp only [ends_ite, rebond_eq, ends_ok_ite]
      rfl
  · simp [State.groupOf]
  · simp [State.members]
  · simp [State.groups, Config.portCount]

/-! ### ENABLE_PORT -/

theorem Pacer.noRate_iff (p : Pacer) : p.noRate = true ↔
    (p.rate.x = 0 ∧ p.rate.a = 0) ∧ p.pending.all (fun r => r.rate.x == 0 && r.rate.a == 0) = true := by
  cases hp : p.pending <;> simp [Pacer.noRate, Rate.isZero, hp]

theorem begun_notCleared (s : State) (g : Nat) : (!s.begun.cleared g) = true ↔
    (s.port g).clearing ≠ .statusRead ∨ (s.members g).any (fun m => !(s.port m).stoppedSeen) = true := by
  change (!((s.port g).clearing == .statusRead && (s.members g).all (fun m => (s.port m).stoppedSeen))) = true ↔ _
  simp [-ne_eq]

/-- ENABLE_PORT by its tests in order (R127, R135, R118). -/
theorem enablePortEffect_eq (s : State) (port : Byte) : enablePortEffect [port] s.begun =
    (let p := port.toNat
     if 48 ≤ p then .refuse .badValue
     else if (s.port p).role = .pairOdd then .refuse .wrongPort
     else if (s.port p).state ≠ .disabled ∧ (s.port p).state ≠ .faulted then .refuse .wrongState
     else if (s.port p).state = .faulted ∧
        ((s.port p).clearing ≠ .statusRead ∨ (s.members p).any (fun m => !(s.port m).stoppedSeen) = true) then
      .refuse .faultPending
     else if ((s.pacer p).rate.x = 0 ∧ (s.pacer p).rate.a = 0) ∧
        (s.pacer p).pending.all (fun r => r.rate.x == 0 && r.rate.a == 0) = true then .refuse .noRate
     else .ok (s.begun.enable p) .nothing) := by
  have hport : portAt [port] 0 = port.toNat := rfl
  unfold enablePortEffect
  dsimp only
  rw [hport, begun_portRefusal]
  by_cases h48 : 48 ≤ port.toNat
  · simp only [if_pos h48]
  by_cases hodd : (s.port port.toNat).role = .pairOdd
  · simp only [if_neg h48, if_pos hodd]
  simp only [if_neg h48, if_neg hodd, bne_iff_ne, Bool.and_eq_true, beq_iff_eq, begun_notCleared, Pacer.noRate_iff]
  rfl

theorem enable_eq (s : State) (g : Nat) : s.enable g =
    (((s.updPort g (fun x => { x with state := .starting, clearing := .none, drainCause := none, strayMarkers := 0,
                                      fault := if x.state = PortState.faulted then none else x.fault })).updMembers g
        (fun x => { x with startedSeen := false })).handStart g).updCounters g
      (fun c => { c with counts := Vector.replicate 6 0 }) := by
  simp only [State.enable, beq_iff_eq]

/-- Settles O12: the row by `enablePortEffect_eq`, the words handed by `handStart_up`, `handStop_up` and their like while the link
is not UP. -/
theorem enablePortHandsTheControlWords : Obligations.EnablePortHandsTheControlWords := by
  refine ⟨fun s tag port hS => ?_, ?_⟩
  · refine endsAt_served rfl hS rfl (by simp) ?_
    rw [show performed ⟨kindEnablePort, tag, [port]⟩ s.begun = _ from enablePortEffect_eq s port]
    dsimp only
    rw [enable_eq]
    simp only [ends_ite]
    rfl
  intro s g _ joined
  refine ⟨fun hup => ?_, fun hdown => ?_, fun hs => ?_⟩
  · have hjoined (start : Bool) : s.joinControl (s.memberWords g start) = joined start := rfl
    rw [handStart_up hup, handStop_up hup]
    exact ⟨hjoined true, hjoined false, fun m hm =>
      ⟨mem_joinWords.2 (Or.inr (mem_memberWords hm)), mem_joinWords.2 (Or.inr (mem_memberWords hm))⟩⟩
  · rw [handStart_notUp hdown, handStop_notUp hdown]
    refine ⟨rfl, rfl, by simp, fun m hm hlt => ?_⟩
    rw [port_updMembers, if_pos ⟨hm, hlt⟩]
  · by_cases hup : s.link.state = .up
    · rw [handStart_up hup, handStop_up hup]
      exact ⟨joinWords_nodup hs (memberWords_nodup s g true), joinWords_nodup hs (memberWords_nodup s g false)⟩
    · rw [handStart_notUp hup, handStop_notUp hup]
      exact ⟨hs, by simpa using hs⟩

/-! ### DISABLE_PORT -/

/-- DISABLE_PORT with another mode than FLUSH by its tests in order (R130, R135, R183). -/
theorem disableDrainEffect_eq (s : State) (port mode : Byte) : disableDrainEffect [port, mode] s.begun =
    (let p := port.toNat
     if 48 ≤ p then .refuse .badValue
     else if (s.port p).role = .pairOdd then .refuse .wrongPort
     else if mode ≠ 0 then .refuse .badValue
     else if (s.port p).state = .disabled ∨ (s.port p).state = .drainOut then .refuse .wrongState
     else if (s.port p).state = .faulted then .ok (s.begun.drainFaulted p .host) .nothing
     else .ok (s.begun.enterDrainOut p .host) .nothing) := by
  have hport : portAt [port, mode] 0 = port.toNat := rfl
  have hmode : byteAt [port, mode] 1 = mode := rfl
  have hstate : s.begun.port port.toNat = s.port port.toNat := rfl
  unfold disableDrainEffect
  dsimp only
  rw [hport, hmode, hstate, begun_portRefusal]
  by_cases h48 : 48 ≤ port.toNat
  · simp only [if_pos h48]
  by_cases hodd : (s.port port.toNat).role = .pairOdd
  · simp only [if_neg h48, if_pos hodd]
  simp only [if_neg h48, if_neg hodd, bne_iff_ne]
  cases (s.port port.toNat).state <;> rfl

/-- DISABLE_PORT with mode FLUSH by its tests in order (R131, R135). -/
theorem disableFlushEffect_eq (s : State) (port mode : Byte) : disableFlushEffect [port, mode] s.begun =
    (let p := port.toNat
     if 48 ≤ p then .refuse .badValue
     else if (s.port p).role = .pairOdd then .refuse .wrongPort
     else if (s.port p).state = .disabled then .refuse .wrongState
     else if (s.port p).state = .drainOut then
      .ok ((s.begun.abortGroup p).updPort p (fun x => { x with drainCause := some .flush })) .nothing
     else if (s.port p).state = .faulted then .ok ((s.begun.abortGroup p).drainFaulted p .flush) .nothing
     else .ok ((s.begun.abortGroup p).enterDrainOut p .flush) .nothing) := by
  have hport : portAt [port, mode] 0 = port.toNat := rfl
  have hstate : s.begun.port port.toNat = s.port port.toNat := rfl
  unfold disableFlushEffect
  dsimp only
  rw [hport, hstate, begun_portRefusal]
  by_cases h48 : 48 ≤ port.toNat
  · simp only [if_pos h48]
  by_cases hodd : (s.port port.toNat).role = .pairOdd
  · simp only [if_neg h48, if_pos hodd]
  simp only [if_neg h48, if_neg hodd]
  cases (s.port port.toNat).state <;> rfl

/-- DISABLE_PORT with a mode that is not defined is refused after the WRONG_PORT test (R183). -/
theorem disablePortEffect_undefined (s : State) (port : Byte) {mode : Byte} (h0 : mode ≠ 0) (h1 : mode ≠ 1) :
    disablePortEffect [port, mode] s.begun =
      .refuse (if port.toNat < 48 ∧ (s.port port.toNat).role = .pairOdd then .wrongPort else .badValue) := by
  have hdrain : disablePortEffect [port, mode] s.begun = disableDrainEffect [port, mode] s.begun := if_neg h1
  rw [hdrain, disableDrainEffect_eq]
  dsimp only
  by_cases h48 : 48 ≤ port.toNat
  · rw [if_pos h48, if_neg (fun h => absurd h.1 (not_lt.2 h48))]
  by_cases hodd : (s.port port.toNat).role = .pairOdd
  · rw [if_neg h48, if_pos hodd, if_pos ⟨not_le.1 h48, hodd⟩]
  · rw [if_neg h48, if_neg hodd, if_pos h0, if_neg (fun h => hodd h.2)]

/-- Settles O13: the two rows by the effects of their modes, another mode as the frame that carries it. -/
theorem disablePortDrainsOrFlushes : Obligations.DisablePortDrainsOrFlushes := by
  refine ⟨fun s tag port hS => ?_, fun s tag port hS => ?_, fun s tag port mode hS h0 h1 => ?_⟩
  · refine endsAt_served rfl hS rfl (by simp) ?_
    rw [show performed ⟨kindDisablePort, tag, [port, 0]⟩ s.begun = _ from disableDrainEffect_eq s port 0]
    simp only [ends_ite, ne_eq, not_true_eq_false, if_false]
    rfl
  · refine endsAt_served rfl hS rfl (by simp) ?_
    rw [show performed ⟨kindDisablePort, tag, [port, 1]⟩ s.begun = _ from disableFlushEffect_eq s port 1]
    simp only [ends_ite]
    rfl
  · have hshared : sharedCheck s.mgmt.ready ⟨kindDisablePort, tag, [port, mode]⟩ = none := by
      rw [hS.2]
      rfl
    refine endsAt_performs _ s _ ⟨kindDisablePort, tag, [port, mode]⟩ rfl hS.1 (by simp) hshared ((perform_ends s _).trans ?_)
    rw [show performed ⟨kindDisablePort, tag, [port, mode]⟩ s.begun = _ from disablePortEffect_undefined s port h0 h1]
    rfl

/-! ### RESUME_PORT, PORT_STATUS and RATE_STATUS -/

/-- RESUME_PORT by its tests in order (R137). -/
theorem resumePortEffect_eq (s : State) (port : Byte) : resumePortEffect [port] s.begun =
    (let p := port.toNat
     if 48 ≤ p then .refuse .badValue
     else if (s.port p).role = .pairOdd then .refuse .wrongPort
     else .ok (s.begun.updPort p (fun x => { x with suspended := false })) (.flag (s.port p).suspended)) := by
  unfold resumePortEffect
  dsimp only
  rw [show portAt [port] 0 = port.toNat from rfl, begun_portRefusal]
  split_ifs <;> rfl

/-- PORT_STATUS on the body of its row's frame: it writes the clearing progress of a FAULTED group alone (R135, R139). -/
theorem portStatusEffect_eq (s : State) (port : Byte) : portStatusEffect [port] s.begun =
    (let p := port.toNat
     let g := s.groupOf p
     if 48 ≤ p then .refuse .badValue
     else .ok (if (s.port g).state = .faulted then s.begun.updPort g (fun y => { y with clearing := .statusRead }) else s.begun)
      (.port (s.begun.portReply p))) := by
  have hport : portAt [port] 0 = port.toNat := rfl
  have hgroup : s.begun.groupOf port.toNat = s.groupOf port.toNat := rfl
  unfold portStatusEffect
  dsimp only
  rw [hport, hgroup]
  refine if_congr Iff.rfl rfl (congrArg (Performed.ok · _) ?_)
  by_cases hstate : (s.port (s.groupOf port.toNat)).state = .faulted
  · rw [if_pos hstate]
    exact updPort_congr (if_pos (beq_iff_eq.2 hstate))
  · rw [if_neg hstate]
    exact updPort_same (if_neg (mt beq_iff_eq.1 hstate))

/-- Settles O14: each row by its effect on its frame's body. -/
theorem resumePortAndTheStatusCommandsReport : Obligations.ResumePortAndTheStatusCommandsReport := by
  refine ⟨fun s tag port hS => ?_, fun s tag port hS => ?_, fun s tag port hS => ?_⟩
  · refine endsAt_served rfl hS rfl (by simp) ?_
    rw [show performed ⟨kindResumePort, tag, [port]⟩ s.begun = _ from resumePortEffect_eq s port]
    simp only [ends_ite]
    rfl
  · refine endsAt_served rfl hS rfl (by simp) ?_
    rw [show performed ⟨kindPortStatus, tag, [port]⟩ s.begun = _ from portStatusEffect_eq s port]
    simp only [ends_ite]
    rfl
  · refine endsAt_served rfl hS rfl (by simp) ?_
    rw [show performed ⟨kindRateStatus, tag, [port]⟩ s.begun = rateStatusEffect [port] s.begun from rfl]
    unfold rateStatusEffect
    dsimp only
    rw [show portAt [port] 0 = port.toNat from rfl, begun_portRefusal]
    by_cases h48 : 48 ≤ port.toNat
    · simp only [if_pos h48]
      rfl
    by_cases hodd : (s.port port.toNat).role = .pairOdd
    · simp only [if_neg h48, if_pos hodd]
      rfl
    · simp only [if_neg h48, if_neg hodd]
      rfl

end Sys2Proof.Machine
end

-- ==== Proofs: words by their type ====
section
/-! A whole link word in each link state: the markers, STATUS, the hold and the words of no type in UP, and that no other state takes
a word by its type (R109, R126, R128, R142 to R149, R154). -/

namespace Sys2Proof.Machine

/-! ### A word that comes whole -/

theorem takeWord_params {s : State} (h : s.link.state = .params) (inParams inUp : State → State) :
    s.begun.takeWord inParams inUp = inParams s.wordIn := by
  unfold State.takeWord
  have hb : s.begun.link.state = .params := h
  rw [hb]
  rfl

/-- A word outside UP acts on the lanes alone, where PARAMS does nothing more with it than with any whole word (R142 to R147). -/
theorem endsAt_word {i : Instr} {s : State} {inParams inUp : State → State} (hr : Runs s)
    (hi : eventOf? i = some (·.takeWord inParams inUp)) (hp : s.link.state = .params → inParams = id) :
    (s.link.state = .down → EndsAt i s s.begun) ∧
    (s.link.state = .aligning → EndsAt i s (s.begun.updLanes (fun _ l => { l with alignRun := 0 }))) ∧
    (s.link.state = .deskew →
      EndsAt i s (s.begun.updLanes (fun _ l => { l.word with framingRun := 0 })).deskewCheck) ∧
    (s.link.state = .params → EndsAt i s s.wordIn) := by
  obtain ⟨hdown, haligning, hdeskew⟩ := takeWord_lanes s.begun inParams inUp
  refine ⟨fun h => endsAt_event hi hr (hdown h), fun h => endsAt_event hi hr (haligning h),
    fun h => endsAt_event hi hr (hdeskew h), fun h => endsAt_event hi hr ((takeWord_params h _ _).trans ?_)⟩
  rw [hp h]
  rfl

/-- How a row of a word ends in UP. -/
theorem endsAt_wordUp {i : Instr} {s u : State} {inParams inUp : State → State} (hr : Runs s) (hup : s.link.state = .up)
    (hi : eventOf? i = some (·.takeWord inParams inUp)) (hu : inUp s.wordIn = u) : EndsAt i s u :=
  endsAt_event hi hr ((takeWord_up hup inParams inUp).trans hu)

theorem rejectWord_eq (s : State) :
    s.rejectWord = { s with link := { s.link with rejectedWords := bump32 s.link.rejectedWords } } := by
  rw [State.rejectWord, sat32_succ]

/-! ### Markers -/

theorem started_eq (s : State) (m : Nat) : s.started m =
    (let g := s.groupOf m
     let seen := s.updPort m (fun p => { p with startedSeen := true })
     if (s.port g).state = .starting ∧ (s.port m).startedSeen = false then
      (if ∀ x ∈ seen.members g, (seen.port x).startedSeen = true then
        (seen.updPort g (fun p => { p with state := .active })).raisePortState g .started
       else seen)
     else s.strayMarker g) := by
  simp only [State.started, State.allStarted, Bool.and_eq_true, beq_iff_eq, Bool.not_eq_true', List.all_eq_true]

theorem stopped_eq (s : State) (m : Nat) : s.stopped m =
    (let g := s.groupOf m
     if ((s.port g).state = .drainOut ∨ (s.port g).state = .faulted) ∧ (s.port m).stoppedSeen = false then
      s.updPort m (fun p => { p with stoppedSeen := true })
     else s.strayMarker g) := by
  simp only [State.stopped, Bool.and_eq_true, Bool.or_eq_true, beq_iff_eq, Bool.not_eq_true']

theorem unknownWord_eq (s : State) (marker : Bool) : s.unknownWord marker =
    if marker = true ∧ Config.badMarkerBreaks = true then (s.breakOpen false).rejectWord else s.rejectWord := by
  simp only [State.unknownWord, Bool.and_eq_true]
  exact apply_ite State.rejectWord _ _ _

section
variable (s : State)

theorem wordIn_ports : s.wordIn.ports = s.ports := by simp [State.wordIn, State.begun]

/-- What a MARKER finds when it has broken the open packet: the ports, the established parameters and the rejected words are
those before it (R148, R149). -/
theorem brokenWord_keeps : (s.wordIn.breakOpen false).ports = s.ports ∧
    (s.wordIn.breakOpen false).establishedPorts = s.establishedPorts ∧
    (s.wordIn.breakOpen false).link.rejectedWords = s.link.rejectedWords := by
  refine ⟨?_, ?_, ?_⟩ <;> simp [State.establishedPorts, State.wordIn, State.begun]

theorem port_of_ports {s t : State} (h : t.ports = s.ports) (p : Nat) : t.port p = s.port p := by rw [State.port, h, State.port]

theorem groupOf_of_ports {s t : State} (h : t.ports = s.ports) (p : Nat) : t.groupOf p = s.groupOf p := by
  rw [State.groupOf, port_of_ports h, State.groupOf]

/-- A MARKER with a defined code in UP (R148, R149). -/
theorem markerWord_eq (m : Nat) (taken : State → Nat → State) : s.wordIn.markerWord m taken =
    (let w := s.wordIn.breakOpen false
     if s.establishedPorts ≤ m then { w with link := { w.link with rejectedWords := bump32 s.link.rejectedWords } }
     else taken w m) := by
  obtain ⟨-, hestablished, hrejected⟩ := brokenWord_keeps s
  unfold State.markerWord
  dsimp only
  rw [hestablished, rejectWord_eq, hrejected]

end

/-- Settles O47: in UP a marker by `markerWord_eq` with `started_eq` and `stopped_eq`, the other words by what UP does with them;
outside UP every word by `endsAt_word`. -/
theorem markersAndSingleWordsAreTakenByType : Obligations.MarkersAndSingleWordsAreTakenByType := by
  refine ⟨fun s port hr hup => ?_, fun i s hr hi => ?_, fun s hr hup => ?_⟩
  · obtain ⟨hports, -, -⟩ := brokenWord_keeps s
    have hport := port_of_ports hports
    have hgroup := groupOf_of_ports hports
    constructor
    · refine endsAt_wordUp hr hup rfl ((markerWord_eq s _ _).trans (if_congr Iff.rfl rfl ?_))
      rw [started_eq]
      dsimp only
      rw [hgroup, hport, hport]
      rfl
    · refine endsAt_wordUp hr hup rfl ((markerWord_eq s _ _).trans (if_congr Iff.rfl rfl ?_))
      rw [stopped_eq]
      dsimp only
      rw [hgroup, hport, hport]
      rfl
  · cases i with
    | packetDescriptor => exact endsAt_word hr rfl (fun _ => rfl)
    | payloadWord => exact endsAt_word hr rfl (fun _ => rfl)
    | sighting => exact endsAt_word hr rfl (fun _ => rfl)
    | divertStarted => exact endsAt_word hr rfl (fun _ => rfl)
    | divertStopped => exact endsAt_word hr rfl (fun _ => rfl)
    | statusWord => exact endsAt_word hr rfl (fun _ => rfl)
    | holdReturn => exact endsAt_word hr rfl (fun _ => rfl)
    | resumeReturn => exact endsAt_word hr rfl (fun _ => rfl)
    | idleWord => exact endsAt_word hr rfl (fun _ => rfl)
    | unknownTypeWord => exact endsAt_word hr rfl (fun _ => rfl)
    | parameterBlock => exact endsAt_word hr rfl (fun hparams => absurd hparams hi)
    | _ => exact hi.elim
  · obtain ⟨hports, -, hrejected⟩ := brokenWord_keeps s
    have hwhole : s.wordIn.link.rejectedWords = s.link.rejectedWords := by simp [State.wordIn, State.begun]
    intro w
    refine ⟨fun full => endsAt_wordUp hr hup rfl rfl, endsAt_wordUp hr hup rfl rfl, endsAt_wordUp hr hup rfl rfl,
      endsAt_wordUp hr hup rfl rfl, ?_⟩
    intro kept cut broken
    have hkept : w.rejectWord = kept := by rw [rejectWord_eq, hwhole]
    have hbroken : cut.rejectWord = broken := by rw [rejectWord_eq, hrejected]
    refine ⟨endsAt_wordUp hr hup rfl ((unknownWord_eq w false).trans hkept), ?_, wordIn_ports s, hports⟩
    by_cases hbreaks : Config.badMarkerBreaks = true
    · exact Or.inr (endsAt_wordUp hr hup rfl ((unknownWord_eq w true).trans ((if_pos ⟨rfl, hbreaks⟩).trans hbroken)))
    · exact Or.inl (endsAt_wordUp hr hup rfl ((unknownWord_eq w true).trans ((if_neg (fun h => hbreaks h.2)).trans hkept)))

end Sys2Proof.Machine
end

-- ==== Proofs: the loss and the return of the link ====
section
/-! The loss of the link and its return to UP (R138, R146, R147): what becomes of the open packet and of the item being sent, of
the paused flag where their rooms are released (R151), and of the ports; and the control words handed at UP. -/

namespace Sys2Proof.Machine

/-! ### Rooms released with the link not UP -/

/-- States whose links and stores hold the same rooms have the same fill (R150). -/
theorem stagingFill_of_room {s t : State} (hroom : t.link.room = s.link.room) (hstore : t.store = s.store) :
    t.stagingFill = s.stagingFill := by
  rw [stagingFill_eq, stagingFill_eq, hroom, hstore]

/-- Released room with the link not UP: the paused flag is cleared at 49,152 bytes or less, and no word is sent (R151). -/
theorem resumeCheck_notUp {s : State} (h : s.link.state ≠ .up) : s.resumeCheck =
    { s with link := { s.link with paused := s.link.paused && !decide (s.stagingFill ≤ 49152) } } := by
  unfold State.resumeCheck
  dsimp only
  rw [if_neg (c := (s.linkUp = true)) (mt linkUp_iff.1 h)]
  by_cases hfill : s.stagingFill ≤ 49152
  · cases hpaused : s.link.paused <;> simp [hfill, Config.resumeLevel]
    rw [← hpaused]
  · simp [hfill, Config.resumeLevel]

/-- Whether the open packet is staged (R149). -/
def Link.openStaged (l : Link) : Bool := l.openPacket.any (fun o => o.staged)

/-- Whether a passed-through packet is being sent (R153). -/
def Link.passing (l : Link) : Bool := l.sending.any OutItem.isPassed

/-- The state without its open packet. -/
def State.closed (s : State) : State := { s with link := { s.link with openPacket := none } }

/-- The staging fill without the item being sent. -/
def State.fillUnsent (s : State) : Nat := { s with link := { s.link with sending := none } }.stagingFill

/-- The open packet is lost with the link: counted only where it was staged, and its room released (R147, R149). -/
theorem loseOpen_notUp {s : State} (h : s.link.state ≠ .up) : s.loseOpen = { s with link := { s.link with
    openPacket := none,
    discards := if s.link.openStaged then bump32 s.link.discards else s.link.discards,
    paused := s.link.paused && !(s.link.openStaged && decide (s.closed.stagingFill ≤ 49152)) } } := by
  unfold State.loseOpen State.breakOpen Link.openStaged
  cases ho : s.link.openPacket with
  | none =>
    simp only [Option.any_none, Bool.false_and, Bool.not_false, Bool.and_true, Bool.false_eq_true, if_false]
    rw [← ho]
  | some o =>
    cases hs : o.staged with
    | false => simp [hs]
    | true =>
      simp only [hs, if_true, Option.any_some, Bool.true_and]
      rw [resumeCheck_notUp (by exact h), sat32_succ]
      rfl

/-- The item being sent is lost with the link: a passed-through packet is discarded, and its room released (R147). -/
theorem loseItem_notUp {s : State} (h : s.link.state ≠ .up) : s.loseItem = { s with link := { s.link with
    sending := none,
    returnLosses := if s.link.sending.isSome then bump32 s.link.returnLosses else s.link.returnLosses,
    discards := if s.link.passing then bump32 s.link.discards else s.link.discards,
    paused := s.link.paused && !(s.link.passing && decide (s.fillUnsent ≤ 49152)) } } := by
  unfold State.loseItem Link.passing
  cases hsending : s.link.sending with
  | none =>
    simp only [Option.any_none, Bool.false_and, Bool.not_false, Bool.and_true, Bool.false_eq_true, if_false, Option.isSome_none]
    rw [← hsending]
  | some item =>
    cases hpassed : item.isPassed with
    | false => simp [hpassed, sat32_succ]
    | true =>
      simp only [hpassed, if_true, Option.any_some, Bool.true_and, Option.isSome_some]
      rw [resumeCheck_notUp (by exact h), sat32_succ, sat32_succ]
      rfl

/-- What is sent but is no passed-through packet holds no room of staging (R150). -/
theorem sendingRoom_of_not_passing {l : Link} (h : l.passing = false) : l.sendingRoom = 0 := by
  unfold Link.sendingRoom
  unfold Link.passing at h
  cases hsending : l.sending with
  | none => rfl
  | some item =>
    cases item with
    | passed packet => rw [hsending] at h; cases h
    | _ => rfl

theorem fillUnsent_le (s : State) : s.fillUnsent ≤ s.stagingFill := by
  unfold State.fillUnsent
  simp only [stagingFill_eq, Link.room, Link.openRoom, Link.sendingRoom]
  omega

theorem fillUnsent_of_not_passing {s : State} (h : s.link.passing = false) : s.fillUnsent = s.stagingFill := by
  refine stagingFill_of_room ?_ rfl
  rw [Link.room, Link.room, sendingRoom_of_not_passing h]
  rfl

/-! ### The loss -/

/-- The link as it has left UP, with the loss mark and the notice, its packets not yet lost (R147). -/
def State.leaveUp (s : State) (cause : LinkCause) : State :=
  { s.toAligning with link := { s.toAligning.link with loss := true } }.raise (.linkState cause)

/-- The part when the loss has taken everything but the ports (R147). -/
def State.lost (s : State) (cause : LinkCause) : State :=
  let u := (s.leaveUp cause).loseOpen.loseItem
  { u with link := { u.link with control := [], hold := false } }

theorem loseLink_eq (s : State) (cause : LinkCause) :
    s.loseLink cause = (s.lost cause).groups.foldl State.portLoss (s.lost cause) := rfl

/-- The link and the outputs when the loss has taken the packets (R147, R149, R151). -/
theorem lost_eq (s : State) (cause : LinkCause) : s.lost cause =
    { s with
      mgmt := s.mgmt.raise (.linkState cause)
      link := { s.link with
        state := .aligning, lanes := Vector.replicate 4 Lane.zero, lastGood := none, loss := true, control := [], hold := false,
        sending := none, openPacket := none,
        discards := if s.link.passing then bump32 (if s.link.openStaged then bump32 s.link.discards else s.link.discards)
          else if s.link.openStaged then bump32 s.link.discards else s.link.discards,
        returnLosses := if s.link.sending.isSome then bump32 s.link.returnLosses else s.link.returnLosses,
        paused := (s.link.paused && !(s.link.openStaged && decide (s.closed.stagingFill ≤ 49152))) &&
          !(s.link.passing && decide (s.closed.fillUnsent ≤ 49152)) } } := by
  have hleft : (s.leaveUp cause).link.state ≠ .up := nofun
  have hclosed : (s.leaveUp cause).loseOpen.link.state ≠ .up := by simpa using hleft
  unfold State.lost
  rw [loseItem_notUp hclosed, loseOpen_notUp hleft]
  rfl

/-- The paused flag after the loss: cleared where the loss releases room and the fill is then at 49,152 bytes or less (R151). -/
theorem lost_paused (s : State) (cause : LinkCause) : (s.lost cause).link.paused =
    (s.link.paused && !((s.link.openStaged || s.link.passing) && decide ((s.lost cause).stagingFill ≤ 49152))) := by
  have hfill : (s.lost cause).stagingFill = s.closed.fillUnsent :=
    stagingFill_of_room (by rw [lost_eq]; rfl) (by rw [lost_eq]; rfl)
  have hle : s.closed.fillUnsent ≤ s.closed.stagingFill := fillUnsent_le _
  have hpaused := congrArg (fun t : State => t.link.paused) (lost_eq s cause)
  dsimp only at hpaused
  rw [hpaused, hfill]
  cases hpassing : s.link.passing with
  | false =>
    have hsame : s.closed.fillUnsent = s.closed.stagingFill :=
      fillUnsent_of_not_passing hpassing
    simp [hsame]
  | true =>
    by_cases hlow : s.closed.stagingFill ≤ 49152
    · simp [hle.trans hlow]
    · simp [hlow]

/-! ### The ports at the loss -/

/-- A member's record after its drain group, in the state given, has taken the loss (R138); `first`: the member is the port that
the group is named after. -/
def Port.afterLoss (state : PortState) (first : Bool) (p : Port) : Port :=
  match state with
  | .active => { p with state := if first then .starting else p.state, startedSeen := false }
  | .starting => { p with startedSeen := false }
  | .drainOut => { p with stoppedSeen := true }
  | .faulted => { p with stoppedSeen := true }
  | .disabled => p

theorem mem_members_self (s : State) (g : Nat) : g ∈ s.members g := by
  unfold State.members
  split <;> simp

theorem members_of_setup {s t : State} (h : setupOf t.ports = setupOf s.ports) (g : Nat) : t.members g = s.members g := by
  unfold State.members
  rw [role_of_setup h]

/-- The ports after a drain group has taken the loss of the link (R138). -/
theorem port_portLoss (s : State) (g q : Nat) : (s.portLoss g).port q =
    if q ∈ s.members g ∧ q < 48 then (s.port q).afterLoss (s.port g).state (decide (q = g)) else s.port q := by
  unfold State.portLoss
  cases hstate : (s.port g).state with
  | disabled => exact (ite_self _).symm
  | starting => exact port_updMembers s g q _
  | drainOut => exact port_updMembers s g q _
  | faulted => exact port_updMembers s g q _
  | active =>
    have hmembers : (s.updPort g (fun p => { p with state := .starting })).members g = s.members g :=
      members_of_setup (by simp) g
    dsimp only
    rw [port_updMembers, hmembers, port_updPort]
    by_cases hq : q = g
    · subst hq
      by_cases hlt : q < 48 <;> simp [hlt, mem_members_self, Port.afterLoss]
    · simp [hq, Ne.symm hq, Port.afterLoss]

/-- Another group's turn leaves a group, and a member that is none of the other's, what its own turn brings (R138). -/
theorem port_portLoss_after {s : State} {g h q : Nat} (hq : q ∉ s.members h) (hg : g ∉ s.members h) :
    ((s.portLoss h).portLoss g).port q = (s.portLoss g).port q := by
  have hmembers : (s.portLoss h).members g = s.members g := members_of_setup (portLoss_setup s h) g
  have hport (p : Nat) (hp : p ∉ s.members h) : (s.portLoss h).port p = s.port p := by
    rw [port_portLoss, if_neg (fun hc => hp hc.1)]
  rw [port_portLoss (s.portLoss h), hmembers, hport q hq, hport g hg, ← port_portLoss]

/-- A group whose members no other group has takes the loss in its own turn alone (R138). -/
theorem port_foldl_portLoss {g q : Nat} {l : List Nat} (hl : l.Nodup) {s : State}
    (halone : ∀ h ∈ l, h ≠ g → ∀ m ∈ s.members h, m ∉ s.members g) (hq : q ∈ s.members g) :
    (l.foldl State.portLoss s).port q = if g ∈ l then (s.portLoss g).port q else s.port q := by
  induction l generalizing s with
  | nil => simp
  | cons h l ih =>
    obtain ⟨hh, hl⟩ := List.nodup_cons.1 hl
    have hmembers (x : Nat) : (s.portLoss h).members x = s.members x := members_of_setup (portLoss_setup s h) x
    have hrest : ∀ x ∈ l, x ≠ g → ∀ m ∈ (s.portLoss h).members x, m ∉ (s.portLoss h).members g := by
      intro x hx
      rw [hmembers, hmembers]
      exact halone x (List.mem_cons_of_mem _ hx)
    rw [List.foldl_cons, ih hl hrest (by rwa [hmembers])]
    by_cases hsame : h = g
    · subst hsame
      rw [if_neg hh, if_pos List.mem_cons_self]
    · have hother : ∀ m ∈ s.members g, m ∉ s.members h :=
        fun m hm hmh => halone h List.mem_cons_self hsame m hmh hm
      have hkept : (s.portLoss h).port q = s.port q := by rw [port_portLoss, if_neg (fun hc => hother q hq hc.1)]
      rw [port_portLoss_after (hother q hq) (hother g (mem_members_self s g)), hkept]
      simp [Ne.symm hsame]

theorem groups_nodup (s : State) : s.groups.Nodup := List.nodup_range.filter _

/-- The record of a group's member after the loss of the link (R138). -/
theorem loseLink_port {s : State} (cause : LinkCause) {g m : Nat} (hg : g ∈ s.groups)
    (halone : ∀ h ∈ s.groups, h ≠ g → ∀ x ∈ s.members h, x ∉ s.members g) (hm : m ∈ s.members g) :
    (s.loseLink cause).port m =
      if m < 48 then (s.port m).afterLoss (s.port g).state (decide (m = g)) else s.port m := by
  have hports : (s.lost cause).ports = s.ports := by rw [lost_eq]
  have hsetup : setupOf (s.lost cause).ports = setupOf s.ports := by rw [hports]
  have hmembers := members_of_setup hsetup
  rw [loseLink_eq, groups_of_setup hsetup,
    port_foldl_portLoss (groups_nodup s) (by simpa only [hmembers] using halone) (by rwa [hmembers]), if_pos hg, port_portLoss,
    hmembers, port_of_ports hports, port_of_ports hports]
  simp only [hm, true_and]

/-! ### The return to UP -/

/-- The link as it has reached UP, its START_DIVERT words not yet handed (R146). -/
def State.comeUp (s : State) (p : LinkParams) : State :=
  { s with
    link := { s.link with state := .up, established := some p, egressFull := BitVec.allOnes 48, hold := false }
    mgmt := s.mgmt.raise (.linkState (.up p))
    out := if s.link.paused then s.out ++ [.pause] else s.out }

theorem reachUp_eq (s : State) (p : LinkParams) : s.reachUp p = s.groups.foldl State.restart (s.comeUp p) := by
  unfold State.reachUp State.comeUp
  dsimp only
  by_cases hpaused : s.link.paused = true
  · rw [if_pos (by simpa using hpaused), if_pos hpaused]
    rfl
  · rw [if_neg (by simpa using hpaused), if_neg hpaused]
    rfl

/-- A group in STARTING has START_DIVERT for each member handed at UP (R138). -/
theorem restart_hands {s : State} {g : Nat} (hup : s.link.state = .up) (hstate : (s.port g).state = .starting) {m : Nat}
    (hm : m ∈ s.members g) : ⟨true, m⟩ ∈ (s.restart g).link.control := by
  rw [State.restart, if_pos (beq_iff_eq.2 hstate), handStart_up hup]
  exact mem_joinWords.2 (Or.inr (mem_memberWords hm))

theorem restart_control {s : State} {g : Nat} (hup : s.link.state = .up) {w : ControlWord} (hw : w ∈ s.link.control) :
    w ∈ (s.restart g).link.control := by
  unfold State.restart
  split
  · rw [handStart_up hup]
    exact mem_joinWords.2 (Or.inl hw)
  · exact hw

/-- The restarts at UP hand START_DIVERT for every member of the groups in STARTING (R138, R146). -/
theorem reachUp_hands {s : State} (p : LinkParams) {g : Nat} (hg : g ∈ s.groups) (hstate : (s.port g).state = .starting)
    {m : Nat} (hm : m ∈ s.members g) : ⟨true, m⟩ ∈ (s.reachUp p).link.control := by
  have hports {t : State} (ht : t.ports = s.ports) : (t.port g).state = .starting ∧ m ∈ t.members g := by
    rw [port_of_ports ht, members_of_setup (congrArg setupOf ht)]
    exact ⟨hstate, hm⟩
  rw [reachUp_eq]
  refine foldl_each (P := fun t : State => t.link.state = .up ∧ t.ports = s.ports)
    (Q := fun t h => h = g → ⟨true, m⟩ ∈ t.link.control) ?_ ?_ ?_ s.groups (s := s.comeUp p) ⟨rfl, rfl⟩ g hg rfl
  · rintro t h ⟨hup, ht⟩
    exact ⟨by simpa using hup, by simpa using ht⟩
  · rintro t h ⟨hup, ht⟩ rfl
    exact restart_hands hup (hports ht).1 (hports ht).2
  · rintro t h x ⟨hup, -⟩ hx rfl
    exact restart_control hup (hx rfl)

/-- The members of a drain group by the state in which it takes the loss (R138). -/
theorem loseLink_members {s : State} (cause : LinkCause) {g : Nat} (hg : g ∈ s.groups)
    (halone : ∀ h ∈ s.groups, h ≠ g → ∀ m ∈ s.members h, m ∉ s.members g) :
    ((s.port g).state = .active ∨ (s.port g).state = .starting →
      ((s.loseLink cause).port g).state = .starting ∧ ∀ m ∈ s.members g, m < 48 → (s.loseLink cause).port m =
        { s.port m with state := if m = g then .starting else (s.port m).state, startedSeen := false }) ∧
    ((s.port g).state = .drainOut ∨ (s.port g).state = .faulted →
      ∀ m ∈ s.members g, m < 48 → (s.loseLink cause).port m = { s.port m with stoppedSeen := true }) ∧
    ((s.port g).state = .disabled → ∀ m ∈ s.members g, (s.loseLink cause).port m = s.port m) := by
  have hport {m : Nat} (hm : m ∈ s.members g) (hlt : m < 48) :
      (s.loseLink cause).port m = (s.port m).afterLoss (s.port g).state (decide (m = g)) :=
    (loseLink_port cause hg halone hm).trans (if_pos hlt)
  refine ⟨fun hstate => ?_, fun hstate m hm hlt => ?_, fun hstate m hm => ?_⟩
  · have hmember : ∀ m ∈ s.members g, m < 48 → (s.loseLink cause).port m =
        { s.port m with state := if m = g then .starting else (s.port m).state, startedSeen := false } := by
      intro m hm hlt
      rw [hport hm hlt]
      rcases hstate with hactive | hstarting
      · rw [hactive]
        simp [Port.afterLoss]
      · rw [hstarting]
        by_cases hmg : m = g
        · simp [Port.afterLoss, hmg, ← hstarting]
        · simp [Port.afterLoss, hmg]
    refine ⟨?_, hmember⟩
    rw [hmember g (mem_members_self s g) (mem_groups_lt hg)]
    exact if_pos rfl
  · rw [hport hm hlt]
    rcases hstate with hdrain | hfaulted
    · rw [hdrain]
      rfl
    · rw [hfaulted]
      rfl
  · rw [loseLink_port cause hg halone hm, hstate]
    exact ite_self _

/-- Settles O44: the loss by `lost_eq`, `lost_paused` and `loseLink_members`, the return by `reachUp_eq` and `reachUp_hands`. -/
theorem linkLossAndReturnTakeThePorts : Obligations.LinkLossAndReturnTakeThePorts := by
  refine ⟨fun s cause => ?_, fun s p => ?_⟩
  · intro t openStaged passing opened
    have hkept {α : Type} (f : State → α) (hf : ∀ (u : State) g, f (u.portLoss g) = f u) : f t = f (s.lost cause) :=
      foldl_keeps f _ hf _ _
    have htaken {α : Type} (f : State → α) (hf : ∀ (u : State) g, f (u.portLoss g) = f u) :=
      (hkept f hf).trans (congrArg f (lost_eq s cause))
    have hpassing : passing = s.link.passing := by
      simp only [passing, Link.passing]
      cases s.link.sending with
      | none => rfl
      | some item => cases item <;> rfl
    have hpaused : t.link.paused = (s.link.paused && !((openStaged || passing) && decide (t.stagingFill ≤ 49152))) := by
      have hfill : t.stagingFill = (s.lost cause).stagingFill :=
        stagingFill_of_room (hkept (fun u => u.link.room) (by simp)) (hkept (fun u => u.store) (by simp))
      rw [hkept (fun u => u.link.paused) (by simp), hfill, hpassing]
      exact lost_paused s cause
    have hdiscards : t.link.discards = if passing then bump32 opened else opened := by
      rw [hpassing]
      exact htaken (fun u => u.link.discards) (by simp)
    exact ⟨htaken (fun u => u.link.state) (by simp), htaken (fun u => u.link.lanes) (by simp),
      htaken (fun u => u.link.lastGood) (by simp), htaken (fun u => u.link.loss) (by simp),
      htaken (fun u => u.link.control) (by simp), htaken (fun u => u.link.hold) (by simp),
      htaken (fun u => u.link.sending) (by simp), htaken (fun u => u.link.openPacket) (by simp),
      htaken (fun u => u.mgmt) (by simp), htaken (fun u => u.out) (by simp), hdiscards,
      htaken (fun u => u.link.returnLosses) (by simp), htaken (fun u => u.link.stagingDrops) (by simp),
      htaken (fun u => u.link.ignoredSightings) (by simp), hpaused, htaken (fun u => u.link.rejectedWords) (by simp),
      htaken (fun u => u.link.mismatch) (by simp), htaken (fun u => u.link.stubs) (by simp),
      htaken (fun u => u.link.passList) (by simp), htaken (fun u => u.link.egressFull) (by simp),
      htaken (fun u => u.link.expected) (by simp), htaken (fun u => u.link.established) (by simp),
      htaken (fun u => u.sched) (by simp), htaken (fun u => u.store) (by simp), htaken (fun u => u.table) (by simp),
      htaken (fun u => u.pacers) (by simp), htaken (fun u => u.counters) (by simp),
      fun g hg halone => loseLink_members cause hg halone⟩
  · have hkept {α : Type} (f : State → α) (hf : ∀ (t : State) g, f (t.restart g) = f t) : f (s.reachUp p) = f (s.comeUp p) := by
      rw [reachUp_eq]
      exact foldl_keeps f _ hf _ _
    exact ⟨hkept (fun t => t.link.state) (by simp), hkept (fun t => t.link.established) (by simp),
      hkept (fun t => t.link.egressFull) (by simp), hkept (fun t => t.link.hold) (by simp), hkept (fun t => t.mgmt) (by simp),
      hkept (fun t => t.out) (by simp), hkept (fun t => t.ports) (by simp), hkept (fun t => t.table) (by simp),
      fun g hg hstate m hm => reachUp_hands p hg hstate hm⟩

end Sys2Proof.Machine
end

-- ==== Proofs: descriptors, payload and staging ====
section
/-! The packets that descriptors and payload words build, break or complete, and the staging room they hold (R148 to R151, R185).
-/

namespace Sys2Proof.Machine

/-! ### Staging -/

/-- The rooms of staging, source by source (R150). -/
theorem stagingFill_rooms (s : State) : s.stagingFill =
    (match s.link.openPacket with | some o => if o.staged then o.desc.length else 0 | none => 0) +
    (match s.link.sending with | some (.passed p) => p.desc.length | _ => 0) +
    (s.link.passList.map (fun p => p.desc.length)).sum + (s.store.writeList.map (fun p => p.length)).sum +
    (match s.store.transfer with | .write p => p.length | _ => 0) := by
  have hsending : s.link.sendingRoom = match s.link.sending with | some (.passed p) => p.desc.length | _ => 0 := by
    unfold Link.sendingRoom
    cases s.link.sending with
    | none => rfl
    | some item => cases item <;> rfl
  have hwritten : (s.store.transfer.written?.toList.map (fun p => p.length)).sum =
      match s.store.transfer with | .write p => p.length | _ => 0 := by
    cases s.store.transfer with
    | write p => exact List.sum_singleton
    | _ => rfl
  rw [State.stagingFill, hsending, hwritten]
  rfl

/-- A staged packet that is opened where none was open adds its length to the fill (R149, R150). -/
theorem stagingFill_opened {s : State} (h : s.link.openPacket = none) (d : Descriptor) :
    { s with link := { s.link with openPacket := some ⟨d, true, 0, []⟩ } }.stagingFill = s.stagingFill + d.length := by
  have hroom : s.link.openRoom = 0 := by rw [Link.openRoom, h]
  rw [stagingFill_eq, stagingFill_eq, Link.room, Link.room, hroom]
  simp only [Link.openRoom, Link.sendingRoom, if_true]
  omega

/-- Room was released: a part that is paused resumes the switch at 49,152 bytes or less (R151). -/
theorem resumeCheck_eq (s : State) : s.resumeCheck =
    if s.link.paused = true ∧ s.stagingFill ≤ 49152 then
      { s with link := { s.link with paused := false }, out := if s.link.state = .up then s.out ++ [.resume] else s.out }
    else s := by
  unfold State.resumeCheck
  refine if_congr (by rw [Bool.and_eq_true, decide_eq_true_eq]) ?_ rfl
  by_cases hup : s.link.state = .up
  · exact (if_pos (linkUp_iff.2 hup)).trans (by rw [if_pos hup]; rfl)
  · exact (if_neg (mt linkUp_iff.1 hup)).trans (by rw [if_neg hup])

/-- Room was reserved in UP: a part that is not paused pauses the switch at 147,456 bytes or more (R151). -/
theorem pauseCheck_up {s : State} (h : s.link.state = .up) : s.pauseCheck =
    if s.link.paused = false ∧ 147456 ≤ s.stagingFill then
      { s with link := { s.link with paused := true }, out := s.out ++ [.pause] }
    else s := by
  unfold State.pauseCheck
  refine if_congr (by rw [Bool.and_eq_true, decide_eq_true_eq, Bool.not_eq_true']) ?_ rfl
  exact if_pos (linkUp_iff.2 h)

/-! ### Packets broken, opened and completed -/

/-- An open packet is broken: counted and its room released only where it was staged (R149; log entry 17). -/
theorem breakOpen_eq (s : State) (ended : Bool) : s.breakOpen ended =
    match s.link.openPacket with
    | none => s
    | some o =>
      let after : Option OpenPacket := if ended then none else some { o with staged := false }
      if o.staged then
        { s with link := { s.link with openPacket := after, discards := bump32 s.link.discards } }.resumeCheck
      else { s with link := { s.link with openPacket := after } } := by
  unfold State.breakOpen
  cases hopen : s.link.openPacket with
  | none => rfl
  | some o =>
    obtain ⟨desc, staged, received, data⟩ := o
    cases staged with
    | true => simp only [if_true, sat32_succ]
    | false =>
      cases ended with
      | true => rfl
      | false => simp only [Bool.false_eq_true, if_false, ← hopen]

/-- A packet whose words are only consumed is not counted again when its last payload word ends it (log entry 17). -/
theorem breakOpen_consumed {s : State} {o : OpenPacket} (ho : s.link.openPacket = some o) (h : o.staged = false) :
    s.breakOpen true = { s with link := { s.link with openPacket := none } } := by
  rw [breakOpen_eq, ho]
  simp only [h, Bool.false_eq_true, if_false, if_true]

/-- A descriptor in UP finds the open packet broken, and is malformed, a staging drop, or staged with its room reserved
(R149 to R151). -/
theorem takeDescriptor_up {s w : State} (h : s.link.state = .up) (hw : s.breakOpen true = w) (d : Descriptor) :
    s.takeDescriptor d =
      if d.length < 64 ∨ 9216 < d.length ∨ s.establishedLength < d.length ∨ s.establishedPorts ≤ d.port then
        { w with link := { w.link with discards := bump32 w.link.discards, openPacket := some ⟨d, false, 0, []⟩ } }
      else if 196608 < w.stagingFill + d.length then
        { w with link := { w.link with stagingDrops := bump32 s.link.stagingDrops, openPacket := some ⟨d, false, 0, []⟩ } }
      else if w.link.paused = false ∧ 147456 ≤ w.stagingFill + d.length then
        { w with link := { w.link with openPacket := some ⟨d, true, 0, []⟩, paused := true }, out := w.out ++ [.pause] }
      else { w with link := { w.link with openPacket := some ⟨d, true, 0, []⟩ } } := by
  have hup : w.link.state = .up := by simpa [← hw] using h
  have hlength : w.establishedLength = s.establishedLength := by simp [State.establishedLength, ← hw]
  have hports : w.establishedPorts = s.establishedPorts := by simp [State.establishedPorts, ← hw]
  have hdrops : w.link.stagingDrops = s.link.stagingDrops := by simp [← hw]
  have hclosed : w.link.openPacket = none := hw ▸ breakOpen_ended s
  have hreserved := pauseCheck_up (s := { w with link := { w.link with openPacket := some ⟨d, true, 0, []⟩ } }) hup
  rw [stagingFill_opened hclosed] at hreserved
  unfold State.takeDescriptor
  simp only [hw, hlength, hports, sat32_succ]
  refine if_congr ?_ rfl (if_congr Iff.rfl (by rw [hdrops]) ?_)
  · simp only [inRange, Bool.or_eq_true, Bool.not_eq_true', Bool.and_eq_false_iff, decide_eq_false_iff_not, decide_eq_true_eq,
      not_le, or_assoc]
  · exact hreserved

/-- A payload word of an open packet (R148, R149, R185). -/
theorem takePayload_open {s : State} {o : OpenPacket} (ho : s.link.openPacket = some o) (last : Bool) (count : Byte)
    (data : List Byte) : s.takePayload last count data =
      if o.staged = false then (if last then { s with link := { s.link with openPacket := none } } else s)
      else if count.toNat = 0 ∨ 28 < count.toNat ∨ o.desc.length < o.received + count.toNat then s.breakOpen last
      else if last = false then
        { s with link := { s.link with
          openPacket := some { o with received := o.received + count.toNat, data := o.data ++ data.take count.toNat } } }
      else if o.received + count.toNat ≠ o.desc.length then s.breakOpen true
      else { s with link := { s.link with openPacket := none } }.arrive o.desc (o.data ++ data.take count.toNat) := by
  have hbad : (!(inRange 1 28 count.toNat) || decide (o.desc.length < o.received + count.toNat)) = true ↔
      count.toNat = 0 ∨ 28 < count.toNat ∨ o.desc.length < o.received + count.toNat := by
    simp only [inRange, Bool.or_eq_true, Bool.not_eq_true', Bool.and_eq_false_iff, decide_eq_false_iff_not, decide_eq_true_eq,
      not_le, or_assoc, Nat.lt_one_iff]
  unfold State.takePayload
  simp only [ho]
  by_cases hstaged : o.staged = false
  · rw [if_pos hstaged, if_pos (by rw [hstaged]; rfl), breakOpen_consumed ho hstaged]
  · rw [if_neg hstaged, if_neg (by rwa [Bool.not_eq_true'])]
    refine if_congr hbad rfl (if_congr (by rw [Bool.not_eq_true']) rfl ?_)
    exact (ite_not _ _ _).symm

/-- Settles O29: a descriptor by `takeDescriptor_up`, a payload word by whether a packet is open and `takePayload_open`, a broken
packet and the staging room by the equations of their operations. -/
theorem descriptorsAndPayloadBuildPackets : Obligations.DescriptorsAndPayloadBuildPackets := by
  refine ⟨fun s port flags length dest src tag grant hr hup => ?_, fun s last count data hr hup => ?_, breakOpen_eq,
    stagingFill_rooms, fun s p hp => ?_, resumeCheck_eq⟩
  · exact endsAt_wordUp hr hup rfl (takeDescriptor_up (s := s.wordIn) hup rfl _)
  · refine endsAt_wordUp hr hup rfl ?_
    have hsame : s.wordIn.link.openPacket = s.link.openPacket := rfl
    cases ho : s.link.openPacket with
    | none =>
      unfold State.takePayload
      rw [hsame, ho]
      exact rejectWord_eq s.wordIn
    | some o => exact takePayload_open (hsame.trans ho) last count data
  · simp only [State.establishedPorts, State.establishedLength, hp, Option.map_some, Option.getD_some, and_self]

end Sys2Proof.Machine
end

-- ==== Proofs: the lanes of the divert link ====
section
/-! The lanes of the divert link and its establishment: framing errors and damaged words, alignment words and lane markers, the
pattern that the part sends, and the parameter block (R142 to R149). -/

namespace Sys2Proof.Machine

/-! ### Lanes -/

theorem vmap_eq_map {α β : Type} {n : Nat} (v : Vector α n) (f : α → β) : vmap v f = v.map f := by
  apply Vector.toList_inj.1
  simp only [vmap, Vector.toList_mk, Vector.toList_map]

theorem updLanes_congr {s : State} {f g : Nat → Lane → Lane} (h : ∀ i l, f i l = g i l) : s.updLanes f = s.updLanes g := by
  rw [funext fun i => funext fun l => h i l]

/-- DESKEW's check: whether every lane's marker has come, and whether a lane has had five words since its own (R144). -/
theorem deskewCheck_eq (s : State) : s.deskewCheck =
    if ∀ l ∈ s.link.lanes.toList, l.sinceMarker.isSome = true then
      { s with link := { s.link with state := .params, lanes := vmap s.link.lanes (fun l => { l with sinceMarker := none }) } }
    else if ∃ l ∈ s.link.lanes.toList, ∃ n, l.sinceMarker = some n ∧ 5 ≤ n then s.toAligning
    else s := by
  unfold State.deskewCheck
  refine if_congr List.all_eq_true rfl (if_congr ?_ rfl rfl)
  simp only [List.any_eq_true, Option.any_eq_true, decide_eq_true_eq]

/-- A lane of DESKEW after its block of a damaged word: only a good sync header makes it a word (R142, R144). -/
theorem checkedWord_eq (l : Lane) (b : BlockCheck) :
    l.checkedWord b = if b = .good ∨ b = .code then { l.word with framingRun := 0 } else l := by
  cases b <;> rfl

/-- Outside UP a block of a damaged word acts on the framing run alone (R142). -/
theorem checked_uncounted (l : Lane) (b : BlockCheck) :
    l.checked b false = if b = .good ∨ b = .code then { l with framingRun := 0 } else l := by
  cases b <;> rfl

/-! ### Errors of the lanes -/

/-- Settles O45: each row by the link state it finds, a framing error also by the lane's run; the lanes after a damaged word by
`checkedWord_eq` and `checked_uncounted`. -/
theorem laneErrorsRealignRejectOrBreak : Obligations.LaneErrorsRealignRejectOrBreak := by
  constructor
  · intro s lane hr run raised
    have hstate : s.begun.link.state = s.link.state := rfl
    have hrun : (vget s.begun.link.lanes lane.val Lane.zero).framingRun = run :=
      congrArg Lane.framingRun (dif_pos lane.isLt)
    have ends {u : State} (hu : s.begun.framingError lane.val = u) : EndsAt (.framingError lane) s u := endsAt_event rfl hr hu
    refine ⟨fun h => ends ?_, fun h => ends ?_, fun h hfour => ends ?_, fun h hfour => ends ?_, fun h hless => ends ?_,
      fun h hless => ends ?_⟩
    · simp only [State.framingError, hstate, h]
    · simp only [State.framingError, hstate, h]
    · rcases h with h | h <;> simp only [State.framingError, hstate, h, hrun, if_pos hfour]
    · simp only [State.framingError, hstate, h, hrun, if_pos hfour]
    · rcases h with h | h <;> simp only [State.framingError, hstate, h, hrun, if_neg (not_le.2 hless), raised]
    · simp only [State.framingError, hstate, h, hrun, if_neg (not_le.2 hless), raised]
  · intro s blocks code ofPacket hr goodSync
    have hstate : s.begun.link.state = s.link.state := rfl
    have ends {u : State} (hu : s.begun.damagedWord blocks code ofPacket = u) :
        EndsAt (.damagedWord blocks code ofPacket) s u := endsAt_event rfl hr hu
    refine ⟨fun h => ends ?_, fun h => ends ?_, fun h => ends ?_, fun h => ends ?_, fun h => ?_⟩
    · simp only [State.damagedWord, hstate, h]
    · simp only [State.damagedWord, hstate, h, checkedWord_eq, goodSync]
    · simp only [State.damagedWord, hstate, h, checked_uncounted, beq_iff_eq, goodSync]
    · simp only [State.damagedWord, hstate, h, beq_iff_eq]
    · intro u
      have hlanes : s.begun.updLanes (fun i l => l.checked (vget blocks i .absent) true) = u :=
        updLanes_congr fun i l => by cases vget blocks i .absent <;> rfl
      refine ends ?_
      simp only [State.damagedWord, hstate, h, hlanes, rejectWord_eq, Bool.and_eq_true]
      rfl

/-! ### The establishment of the link -/

/-- The pattern that each lane of the part carries before UP (R143). -/
theorem patternBlock_eq (state : LinkState) (lane : Fin 4) (i : Nat) : state.patternBlock lane i =
    if state = .down ∨ state = .up then none
    else if i % 17 < 16 then some ⟨0b10, List.replicate 8 0x0F⟩
    else some ⟨0b10, [0xE1, BitVec.ofNat 8 lane.val, 0, 0, 0, 0, 0, 0]⟩ := by
  have hblock : some (establishmentBlock lane i) = if i % 17 < 16 then some ⟨0b10, List.replicate 8 0x0F⟩
      else some ⟨0b10, [0xE1, BitVec.ofNat 8 lane.val, 0, 0, 0, 0, 0, 0]⟩ := by
    unfold establishmentBlock establishmentPattern
    split
    · rename_i hlt
      rw [List.getD_append _ _ _ _ (by simpa using hlt), List.getD_replicate _ hlt]
      rfl
    · rename_i hge
      have hlast : i % 17 = 16 := by omega
      rw [hlast]
      rfl
  cases state with
  | down => rfl
  | up => rfl
  | aligning => exact hblock
  | deskew => exact hblock
  | params => exact hblock

theorem checksum_beq (p : LinkParams) (checksum : Byte) : (p.checksum == checksum) = true ↔
    (p.linkId + p.laneCount + p.portCount + p.maxLength) % 256 = checksum.toNat := by
  rw [beq_iff_eq, LinkParams.checksum, ← BitVec.toNat_inj, BitVec.toNat_ofNat]

/-- A parameter block in PARAMS: its checksum, the comparison, and the mismatch told once (R145). -/
theorem takeParams_eq (s : State) (p : LinkParams) (checksum : Byte) : s.takeParams p checksum =
    (let u := { s with link := { s.link with lastGood := some p } }
     if (p.linkId + p.laneCount + p.portCount + p.maxLength) % 256 ≠ checksum.toNat then s.toAligning
     else if p = s.link.expected then u.reachUp p
     else if s.link.mismatch = true then u
     else { u with link := { u.link with mismatch := true } }.raise (.linkState (.mismatch p s.link.expected))) := by
  unfold State.takeParams
  by_cases hsum : (p.linkId + p.laneCount + p.portCount + p.maxLength) % 256 = checksum.toNat
  · rw [if_pos ((checksum_beq p checksum).2 hsum)]
    simp only [ne_eq, hsum, not_true_eq_false, if_false, beq_iff_eq]
  · rw [if_neg (mt (checksum_beq p checksum).1 hsum)]
    exact (if_pos hsum).symm

/-- Settles O46: alignment words and markers by the link state they find, the lanes of DESKEW by `deskewCheck_eq`, the pattern by
`patternBlock_eq` and the parameter block by `takeParams_eq`. -/
theorem lanesAreEstablishedAndParametersCompared : Obligations.LanesAreEstablishedAndParametersCompared := by
  have alignment {s u : State} {lanes : BitVec 4} (hr : Runs s) (hu : s.begun.alignmentWord lanes = u) :
      EndsAt (.alignmentWord lanes) s u := endsAt_event rfl hr hu
  have marker {s u : State} {lanes : BitVec 4} (hr : Runs s) (hu : s.begun.laneMarkerWord lanes = u) :
      EndsAt (.laneMarkerWord lanes) s u := endsAt_event rfl hr hu
  have hstate (s : State) : s.begun.link.state = s.link.state := rfl
  refine ⟨fun s lanes hr h => ?_, fun s lanes hr h => ?_, fun s lanes hr h => ?_, fun s lanes hr => ?_, patternBlock_eq,
    fun s id laneCount portCount length checksum hr => ?_, fun _ => rfl, fun _ => rfl, fun s => ?_⟩
  · refine alignment hr ?_
    simp only [State.alignmentWord, hstate, h, List.all_eq_true, beq_iff_eq]
  · intro u
    refine marker hr ?_
    simp only [State.laneMarkerWord, hstate, h, updLanes_updLanes]
    have hlanes : s.begun.updLanes (fun i l => if lanes.getLsbD i then
        (if lanes.getLsbD i then { l with framingRun := 0 } else l).marker
        else if lanes.getLsbD i then { l with framingRun := 0 } else l) = u :=
      updLanes_congr fun i l => by cases lanes.getLsbD i <;> rfl
    rw [hlanes, deskewCheck_eq]
  · intro u v
    exact ⟨alignment hr (by simp only [State.alignmentWord, hstate, h, rejectWord_eq]; rfl),
      marker hr (by simp only [State.laneMarkerWord, hstate, h, rejectWord_eq]; rfl)⟩
  · intro cleared
    refine ⟨fun h => ⟨alignment hr ?_, marker hr ?_⟩, fun h => marker hr ?_, fun h => alignment hr ?_,
      fun h => ⟨alignment hr ?_, marker hr ?_⟩⟩
    · simp only [State.alignmentWord, hstate, h]
    · simp only [State.laneMarkerWord, hstate, h]
    · simp only [State.laneMarkerWord, hstate, h]
    · simp only [State.alignmentWord, hstate, h, updLanes_updLanes]
      exact congrArg State.deskewCheck (updLanes_congr fun i l => by cases lanes.getLsbD i <;> rfl)
    · simp only [State.alignmentWord, hstate, h, cleared]
    · simp only [State.laneMarkerWord, hstate, h, cleared]
  · intro p u
    refine ⟨fun h => endsAt_event rfl hr ((takeWord_params h _ _).trans (takeParams_eq s.wordIn p checksum)), fun h => ?_⟩
    exact endsAt_wordUp hr h rfl (rejectWord_eq s.wordIn)
  · rw [deskewCheck_eq, vmap_eq_map]
    refine if_congr ?_ rfl (if_congr Iff.rfl rfl rfl)
    simp only [Option.isSome_iff_ne_none]

end Sys2Proof.Machine
end

-- ==== Proofs: the event counters and the stand-down ====
section
/-! The counts of a drain group and their reached marks (R159 to R163), and the entry into DRAIN_OUT that a protected type orders
(R126, R130, R133, R140). -/

namespace Sys2Proof.Machine

/-! ### Counts and marks -/

theorem vupd_same {α : Type} {n : Nat} {v : Vector α n} {i : Nat} {f : α → α} {d : α} (h : f (vget v i d) = vget v i d) :
    vupd v i f = v := by
  unfold vupd
  split
  · rename_i hi
    have hentry : vget v i d = v[i] := dif_pos hi
    rw [← hentry, h, hentry, Vector.set_getElem_self]
  · rfl

theorem counterSet_of_counters {s t : State} (h : t.counters = s.counters) (g : Nat) : t.counterSet g = s.counterSet g := by
  rw [State.counterSet, h, State.counterSet]

/-- A counter set after one event of a type under a mode, with T as the threshold (R161, R162). -/
def CounterSet.counted (c : CounterSet) (type : EvType) (mode : CounterMode) (threshold : Nat) : CounterSet :=
  { counts := vupd c.counts type.index (bumpCount mode),
    marks := if reachesThreshold mode (vget c.counts type.index 0) threshold then vupd c.marks type.index (fun _ => true)
      else c.marks }

/-- Whether one more event of a type reaches the threshold in a drain group (R161, R162). -/
def State.reaches (s : State) (g : Nat) (type : EvType) : Bool :=
  reachesThreshold (s.policy g).mode (vget (s.counterSet g).counts type.index 0) s.counters.threshold

/-- The state with one event of a type counted, and nothing yet done about it. -/
def State.bumped (s : State) (g : Nat) (type : EvType) : State :=
  s.updCounters g (fun c => { c with counts := vupd c.counts type.index (bumpCount (s.policy g).mode) })

theorem count_of_not_reaches {s : State} {g : Nat} {type : EvType} (h : s.reaches g type = false) :
    s.count g type = s.bumped g type := if_neg (by simpa [State.reaches] using h)

theorem count_of_reaches {s : State} {g : Nat} {type : EvType} (h : s.reaches g type = true) :
    s.count g type = (s.bumped g type).reached g type (bumpCount (s.policy g).mode (vget (s.counterSet g).counts type.index 0)) :=
  if_pos h

theorem reached_counters (s : State) (g : Nat) (type : EvType) (n : Nat) : (s.reached g type n).counters =
    (s.updCounters g (fun c => { c with marks := vupd c.marks type.index (fun _ => true) })).counters := by
  unfold State.reached
  dsimp only
  (repeat' split) <;> simp

/-- A count changes one counter set (R161, R162). -/
theorem counterSet_count (s : State) {g : Nat} (hg : g < 48) (type : EvType) (h : Nat) : (s.count g type).counterSet h =
    if h = g then (s.counterSet g).counted type (s.policy g).mode s.counters.threshold else s.counterSet h := by
  have hbumped : (s.bumped g type).counterSet h = if h = g then
      { s.counterSet g with counts := vupd (s.counterSet g).counts type.index (bumpCount (s.policy g).mode) }
      else s.counterSet h := by
    rw [State.bumped, counterSet_updCounters]
    by_cases heq : h = g
    · subst heq
      simp [hg]
    · simp [heq, Ne.symm heq]
  cases hr : s.reaches g type with
  | false =>
    rw [count_of_not_reaches hr, hbumped]
    simp only [CounterSet.counted, show reachesThreshold _ _ _ = false from hr, Bool.false_eq_true, if_false]
  | true =>
    rw [count_of_reaches hr, counterSet_of_counters (reached_counters _ _ _ _), counterSet_updCounters, hbumped]
    simp only [CounterSet.counted, show reachesThreshold _ _ _ = true from hr, if_true]
    by_cases heq : h = g
    · subst heq
      simp [hg]
    · simp [heq, Ne.symm heq]

theorem CounterSet.counted_count (c : CounterSet) (type : EvType) (mode : CounterMode) (threshold : Nat) :
    vget (c.counted type mode threshold).counts type.index 0 = bumpCount mode (vget c.counts type.index 0) := by
  rw [CounterSet.counted, vget_vupd, if_pos ⟨rfl, index_lt type⟩]

theorem CounterSet.counted_other (c : CounterSet) {type other : EvType} (h : other ≠ type) (mode : CounterMode)
    (threshold : Nat) : vget (c.counted type mode threshold).counts other.index 0 = vget c.counts other.index 0 := by
  rw [CounterSet.counted, vget_vupd, if_neg (fun hi => h (index_injective _ _ hi.1).symm)]

theorem CounterSet.counted_mark (c : CounterSet) (type : EvType) (mode : CounterMode) (threshold : Nat) :
    vget (c.counted type mode threshold).marks type.index false =
      if reachesThreshold mode (vget c.counts type.index 0) threshold then true else vget c.marks type.index false := by
  rw [CounterSet.counted]
  split
  · rw [vget_vupd, if_pos ⟨rfl, index_lt type⟩]
  · rfl

/-- The count of the type after the increment (R161). -/
theorem count_count (s : State) {g : Nat} (hg : g < 48) (type : EvType) :
    vget ((s.count g type).counterSet g).counts type.index 0 =
      bumpCount (s.policy g).mode (vget (s.counterSet g).counts type.index 0) := by
  rw [counterSet_count s hg, if_pos rfl, CounterSet.counted_count]

/-- The mark of the type after the increment (R162). -/
theorem count_mark (s : State) {g : Nat} (hg : g < 48) (type : EvType) :
    vget ((s.count g type).counterSet g).marks type.index false =
      if s.reaches g type then true else vget (s.counterSet g).marks type.index false := by
  rw [counterSet_count s hg, if_pos rfl, CounterSet.counted_mark, State.reaches]

theorem bumpCount_le {mode : CounterMode} {n : Nat} (h : n ≤ 255) : bumpCount mode n ≤ 255 := by
  unfold bumpCount
  split
  · omega
  · cases mode with
    | hold => exact h
    | wrap => exact Nat.zero_le _

/-- Under HOLD an increment at 255 changes nothing (R161). -/
theorem count_held {s : State} {g : Nat} {type : EvType} (hold : vget (s.counterSet g).counts type.index 0 = 255)
    (hmode : (s.policy g).mode = .hold) : s.count g type = s := by
  have hbump : bumpCount (s.policy g).mode (vget (s.counterSet g).counts type.index 0) =
      vget (s.counterSet g).counts type.index 0 := by
    rw [hmode, hold]
    rfl
  have hreaches : s.reaches g type = false := by
    rw [State.reaches, reachesThreshold, hbump, bne_self_eq_false, Bool.false_and]
  have hset : ({ s.counterSet g with
      counts := vupd (s.counterSet g).counts type.index (bumpCount (s.policy g).mode) } : CounterSet) = s.counterSet g := by
    rw [vupd_same hbump]
  rw [count_of_not_reaches hreaches, State.bumped, State.updCounters, vupd_same hset]

/-- Settles O41: the changed counter set by `counterSet_count`, an increment that HOLD stops by `count_held`. -/
theorem countFollowsItsMode : Obligations.CountFollowsItsMode := by
  intro s g type hg old
  refine ⟨?_, fun other hother => ?_, fun h hne => ?_, by simp, fun hle => ?_, fun hmost hmode => ?_⟩
  · exact count_count s hg type
  · rw [counterSet_count s hg, if_pos rfl, CounterSet.counted_other _ hother]
  · rw [counterSet_count s hg, if_neg hne]
  · exact (count_count s hg type).trans_le (bumpCount_le hle)
  · rw [count_held hmost hmode]
    exact ⟨rfl, rfl, rfl⟩

/-! ### The stand-down -/

/-- The port records of a drain group as it enters DRAIN_OUT, before its STOP_DIVERT words are handed (R130). -/
def State.draining (s : State) (g : Nat) (cause : DrainCause) : State :=
  (s.updPort g (fun p => { p with state := .drainOut, drainCause := some cause })).updMembers g
    (fun p => { p with stoppedSeen := false })

theorem enterDrainOut_eq (s : State) (g : Nat) (cause : DrainCause) :
    s.enterDrainOut g cause = ((s.draining g cause).handStop g).unpaceGroup g := rfl

theorem draining_members (s : State) (g : Nat) (cause : DrainCause) : (s.draining g cause).members g = s.members g :=
  members_of_setup (by simp [State.draining]) g

theorem draining_link (s : State) (g : Nat) (cause : DrainCause) : (s.draining g cause).link = s.link := by
  simp [State.draining]

theorem draining_port (s : State) (g : Nat) (cause : DrainCause) {q : Nat} (hq : q < 48) : (s.draining g cause).port q =
    let x := if g = q then { s.port q with state := .drainOut, drainCause := some cause } else s.port q
    if q ∈ s.members g then { x with stoppedSeen := false } else x := by
  have hmembers := members_of_setup (updPort_setup s g
    (fun p => { p with state := .drainOut, drainCause := some cause }) (fun _ => ⟨rfl, rfl⟩)) g
  rw [State.draining, port_updMembers, hmembers, port_updPort]
  simp only [hq, and_true]

/-- The port records of a drain group that has entered DRAIN_OUT: its own state and cause, and its members' stopped-seen flags,
which are set at once where no STOP_DIVERT can be sent (R126, R130). -/
theorem enterDrainOut_port (s : State) (g : Nat) (cause : DrainCause) {q : Nat} (hq : q < 48) :
    (s.enterDrainOut g cause).port q =
      let x := if g = q then { s.port q with state := .drainOut, drainCause := some cause } else s.port q
      if q ∈ s.members g then { x with stoppedSeen := decide (s.link.state ≠ .up) } else x := by
  have hunpaced : (s.enterDrainOut g cause).port q = ((s.draining g cause).handStop g).port q := by
    rw [enterDrainOut_eq]
    simp [State.port]
  rw [hunpaced]
  by_cases hup : s.link.state = .up
  · rw [handStop_up (by rw [draining_link, hup])]
    simp only [hup, ne_eq, not_true_eq_false, decide_false]
    exact draining_port s g cause hq
  · rw [handStop_notUp (by rw [draining_link]; exact hup), port_updMembers, draining_members, draining_port s g cause hq]
    by_cases hm : q ∈ s.members g <;> simp [hm, hq, hup]

/-- The STOP_DIVERT words of a drain group that enters DRAIN_OUT while the link is UP (R126, R130). -/
theorem enterDrainOut_hands {s : State} (hup : s.link.state = .up) (g : Nat) (cause : DrainCause) {m : Nat}
    (hm : m ∈ s.members g) : ⟨false, m⟩ ∈ (s.enterDrainOut g cause).link.control := by
  have hunpaced : (s.enterDrainOut g cause).link = ((s.draining g cause).handStop g).link := by
    rw [enterDrainOut_eq]
    simp
  rw [hunpaced, handStop_up (by rw [draining_link, hup])]
  exact mem_joinWords.2 (Or.inr (mem_memberWords ((draining_members s g cause).symm ▸ hm)))

/-- A stand-down of a group in ACTIVE: the entry into DRAIN_OUT, and PORT_STATE with the cause (R130, R133, R140). -/
theorem standDown_active {s : State} {g : Nat} (hg : g < 48) (h : (s.port g).state = .active) :
    s.standDown g = (s.enterDrainOut g .standDown).raise (.portState
      { port := g, cause := .standDown, state := .drainOut, suspended := (s.port g).suspended,
        stopAwaited := decide (∃ m ∈ s.members g, ((s.enterDrainOut g .standDown).port m).stoppedSeen = false),
        fault := none }) := by
  have hstate := enterDrainOut_portState s g .standDown hg
  have hsuspended : ((s.enterDrainOut g .standDown).port g).suspended = (s.port g).suspended := by
    rw [enterDrainOut_port s g .standDown hg]
    dsimp only
    (repeat' split) <;> rfl
  have hmembers : (s.enterDrainOut g .standDown).members g = s.members g := members_of_setup (enterDrainOut_setup s g _) g
  have hawaited : (s.enterDrainOut g .standDown).stopAwaited g =
      decide (∃ m ∈ s.members g, ((s.enterDrainOut g .standDown).port m).stoppedSeen = false) := by
    rw [State.stopAwaited, hstate, hmembers, Bool.eq_iff_iff]
    simp
  rw [State.standDown, if_pos (beq_iff_eq.2 h), State.raisePortState, hstate, hsuspended, hawaited]
  rfl

theorem standDown_notActive {s : State} {g : Nat} (h : (s.port g).state ≠ .active) : s.standDown g = s :=
  if_neg (mt beq_iff_eq.1 h)

/-! ### Reaching the threshold -/

/-- The state after a count that reached T has set its mark and told it: THRESHOLD is raised if the mark was clear (R162). -/
def State.toldReached (s : State) (g : Nat) (type : EvType) : State :=
  let marked := vget (s.counterSet g).marks type.index false
  let masked := (s.policy g).protect.getLsbD type.index
  { s with
    counters := (s.count g type).counters
    mgmt := if marked = true then s.mgmt else s.mgmt.raise (.threshold
      { port := g, type := type, count := vget ((s.count g type).counterSet g).counts type.index 0,
        threshold := s.counters.threshold, mode := (s.policy g).mode, inMask := masked, ordered := masked,
        state := (s.port g).state })
    evThresholds := if marked = true then s.evThresholds else s.evThresholds ++ [(g, type)] }

/-- A count that reaches T: it is told, and a protected type orders the stand-down (R162, R163). -/
theorem count_reached {s : State} {g : Nat} {type : EvType} (hg : g < 48) (h : s.reaches g type = true) :
    s.count g type =
      if (s.policy g).protect.getLsbD type.index = true then (s.toldReached g type).standDown g else s.toldReached g type := by
  have hcount := count_count s hg type
  have hcounters : (s.count g type).counters = ((s.bumped g type).updCounters g (fun c =>
      { c with marks := vupd c.marks type.index (fun _ => true) })).counters := by
    rw [count_of_reaches h, reached_counters]
  have hmark : vget ((s.bumped g type).counterSet g).marks type.index false = vget (s.counterSet g).marks type.index false := by
    rw [State.bumped, counterSet_updCounters, if_pos ⟨rfl, hg⟩]
  unfold State.toldReached
  rw [hcounters, hcount, count_of_reaches h, State.reached, hmark]
  cases vget (s.counterSet g).marks type.index false <;> rfl

theorem reaches_iff {s : State} {g : Nat} (hg : g < 48) {type : EvType} : s.reaches g type = true ↔
    vget ((s.count g type).counterSet g).counts type.index 0 ≠ vget (s.counterSet g).counts type.index 0 ∧
      vget ((s.count g type).counterSet g).counts type.index 0 = s.counters.threshold := by
  rw [count_count s hg, State.reaches, reachesThreshold, Bool.and_eq_true, bne_iff_ne, beq_iff_eq]

theorem refreshThresholds_eq (s : State) : s.refreshThresholds = { s with mgmt := { s.mgmt with
    notices := s.mgmt.notices.map (fun n =>
      match n with
      | .threshold x => if (x.port, x.type) ∈ s.evThresholds then .threshold { x with state := (s.port x.port).state } else n
      | _ => n) } } := by
  unfold State.refreshThresholds
  refine congrArg (fun refresh => { s with mgmt := { s.mgmt with notices := s.mgmt.notices.map refresh } }) (funext fun n => ?_)
  cases n with
  | threshold x => exact if_congr List.contains_iff_mem rfl rfl
  | _ => rfl

/-- Settles O42: an increment by whether it reaches T, the stand-down by `standDown_active` and the ports and words of
`State.enterDrainOut`. -/
theorem reachingTheThresholdTellsAndProtects : Obligations.ReachingTheThresholdTellsAndProtects := by
  refine ⟨fun s g type hg => ?_, refreshThresholds_eq⟩
  intro old t new mark masked told
  refine ⟨fun hnot => ?_, fun hreach => ?_⟩
  · have hr : s.reaches g type = false := Bool.eq_false_iff.2 (fun h => hnot ((reaches_iff hg).1 h))
    refine ⟨?_, ?_⟩
    · exact (count_mark s hg type).trans (by rw [hr]; rfl)
    · change s.count g type = { s with counters := (s.count g type).counters }
      rw [count_of_not_reaches hr]
      rfl
  · have hr : s.reaches g type = true := (reaches_iff hg).2 hreach
    have hcount := count_reached hg hr
    intro u drained stopping
    refine ⟨(count_mark s hg type).trans (by rw [hr]; rfl), fun hmasked hactive => ?_, fun hnot => ?_⟩
    · have ht : t = u.standDown g := hcount.trans (if_pos hmasked)
      have hstand : t = stopping.raise _ := ht.trans (standDown_active (s := u) hg hactive)
      have hport (m : Nat) : t.port m = stopping.port m := by
        rw [hstand]
        rfl
      refine ⟨hstand, fun hup => ⟨fun m hm hlt => ?_, fun m hm => ?_⟩, fun hdown m hm hlt => ?_⟩
      · rw [hport, show stopping = u.enterDrainOut g .standDown from rfl, enterDrainOut_port u g .standDown hlt]
        have hm' : m ∈ u.members g := hm
        simp [hm', show u.link.state = .up from hup]
      · rw [hstand]
        exact enterDrainOut_hands (s := u) hup g .standDown hm
      · rw [hport, show stopping = u.enterDrainOut g .standDown from rfl, enterDrainOut_port u g .standDown hlt]
        have hm' : m ∈ u.members g := hm
        simp [hm', show u.link.state ≠ .up from hdown]
    · by_cases hmasked : masked = true
      · have hstate : (s.port g).state ≠ .active := hnot.resolve_left (by rw [hmasked]; exact Bool.noConfusion)
        exact (hcount.trans (if_pos hmasked)).trans (standDown_notActive (s := u) hstate)
      · exact hcount.trans (if_neg hmasked)

end Sys2Proof.Machine
end

-- ==== Proofs: the counters and settings in a row ====
section
/-! What a row can set of what the host sets: the counters, policy records, bond roles, expected parameters, floor and ready flag
(R77, R123, R124, R156, R159, R165, R175). Each command is held to `Frame.maySet` and each row to `rowMaySet`; what follows an
event performs no command but those that wait in it (R172). SET_THRESHOLD (R165) is one such row. -/

namespace Sys2Proof.Machine

/-! ### The settings -/

/-- What the host sets, and the counters that it clears. -/
inductive Setting where
  | threshold | counts | setup | expected | floor | ready

/-- What a setting is read as. -/
abbrev Setting.Value : Setting → Type
  | .threshold => Nat
  | .counts => Vector CounterSet 48
  | .setup => List (Policy × BondRole)
  | .expected => LinkParams
  | .floor => Nat
  | .ready => Bool

/-- A setting as it stands. -/
def State.setting (s : State) : (x : Setting) → x.Value
  | .threshold => s.counters.threshold
  | .counts => s.counters.sets
  | .setup => setupOf s.ports
  | .expected => s.link.expected
  | .floor => s.store.floor
  | .ready => s.mgmt.ready

/-- Every setting but the counts and marks, and the commands that wait. -/
@[simp] def State.besidesCounts (s : State) :=
  (s.mgmt.commands, s.counters.threshold, setupOf s.ports, s.link.expected, s.store.floor, s.mgmt.ready)

/-- Every setting, and the commands that wait. -/
@[simp] def State.settings (s : State) := (s.counters.sets, s.besidesCounts)

/-- `t` has a setting of `s`, and no command waits in it that did not wait in `s`. -/
structure State.Keeps (x : Setting) (s t : State) : Prop where
  setting : t.setting x = s.setting x
  commands : ∀ f ∈ t.mgmt.commands, f ∈ s.mgmt.commands

theorem State.Keeps.trans {x : Setting} {s t u : State} (h : s.Keeps x t) (h' : t.Keeps x u) : s.Keeps x u :=
  ⟨h'.setting.trans h.setting, fun f hf => h.commands f (h'.commands f hf)⟩

theorem keeps_of_besidesCounts {s t : State} (h : t.besidesCounts = s.besidesCounts) {x : Setting} (hx : x ≠ .counts) :
    s.Keeps x t := by
  simp only [State.besidesCounts, Prod.mk.injEq] at h
  obtain ⟨hcommands, hthreshold, hsetup, hexpected, hfloor, hready⟩ := h
  refine ⟨?_, fun f hf => hcommands ▸ hf⟩
  cases x with
  | threshold => exact hthreshold
  | counts => exact absurd rfl hx
  | setup => exact hsetup
  | expected => exact hexpected
  | floor => exact hfloor
  | ready => exact hready

theorem keeps_of_settings {s t : State} (h : t.settings = s.settings) (x : Setting) : s.Keeps x t := by
  obtain ⟨hcounts, hrest⟩ := Prod.mk.inj h
  by_cases hx : x = .counts
  · subst hx
    have hcommands : t.mgmt.commands = s.mgmt.commands := congrArg Prod.fst hrest
    exact ⟨hcounts, fun f hf => hcommands ▸ hf⟩
  · exact keeps_of_besidesCounts hrest hx

theorem keeps_refl (x : Setting) (s : State) : s.Keeps x s := keeps_of_settings rfl x

/-! ### The commands of the host -/

/-- The settings that a command can change, by its kind (R77, R124, R125, R127, R156, R165, R167, R168). -/
def Frame.maySet (f : Frame) (x : Setting) : Bool :=
  match f.kind.toNat, x with
  | 3, .counts => true
  | 3, .setup => true
  | 4, .counts => true
  | 20, .counts => true
  | 21, .threshold => true
  | 23, .floor => true
  | 25, .expected => true
  | _, _ => false

theorem setPortEffect_setting {body : List Byte} {s t : State} {b : ReplyBody} (h : setPortEffect body s = .ok t b) {x : Setting}
    (hc : x ≠ .counts) (hs : x ≠ .setup) : t.setting x = s.setting x := by
  have hkeeps := setPortEffect_keeps h
  cases x with
  | counts => exact absurd rfl hc
  | setup => exact absurd rfl hs
  | _ => simp [State.setting, hkeeps]

theorem enablePortEffect_settings {body : List Byte} {s t : State} {b : ReplyBody} (h : enablePortEffect body s = .ok t b) :
    t.besidesCounts = s.besidesCounts := by
  have hkeeps := enablePortEffect_keeps h
  have hsetup : setupOf t.ports = setupOf s.ports := by
    unfold enablePortEffect at h
    dsimp only at h
    (repeat' split at h) <;> cases h
    exact enable_setup s _
  simp [hkeeps, hsetup]

theorem disablePortEffect_settings {body : List Byte} {s t : State} {b : ReplyBody} (h : disablePortEffect body s = .ok t b) :
    t.settings = s.settings := by
  unfold disablePortEffect at h
  split at h
  · have hkeeps := disableFlushEffect_keeps h
    have hsetup : setupOf t.ports = setupOf s.ports := by
      unfold disableFlushEffect at h
      dsimp only at h
      (repeat' split at h) <;> cases h <;> simp
    simp [hkeeps, hsetup]
  · have hkeeps := disableDrainEffect_keeps h
    have hsetup : setupOf t.ports = setupOf s.ports := by
      unfold disableDrainEffect at h
      dsimp only at h
      (repeat' split at h) <;> cases h <;> simp
    simp [hkeeps, hsetup]

theorem updPort_settings (s : State) (p : Nat) {f : Port → Port} (h : ∀ x, (f x).policy = x.policy ∧ (f x).role = x.role) :
    (s.updPort p f).settings = s.settings := by
  simp [updPort_setup s p f h]

theorem resumePortEffect_settings {body : List Byte} {s t : State} {b : ReplyBody} (h : resumePortEffect body s = .ok t b) :
    t.settings = s.settings := by
  unfold resumePortEffect at h
  dsimp only at h
  split at h <;> cases h
  exact updPort_settings s _ (fun _ => ⟨rfl, rfl⟩)

/-- PORT_STATUS writes the clearing progress alone (R139). -/
theorem portStatusEffect_settings {body : List Byte} {s t : State} {b : ReplyBody} (h : portStatusEffect body s = .ok t b) :
    t.settings = s.settings := by
  unfold portStatusEffect at h
  dsimp only at h
  split at h <;> cases h
  exact updPort_settings s _ (fun x => by split <;> exact ⟨rfl, rfl⟩)

theorem relinkEffect_settings {body : List Byte} {s t : State} {b : ReplyBody} (h : relinkEffect body s = .ok t b) :
    t.settings = s.settings := by
  have hkeeps := relinkEffect_keeps h
  have hsetup : setupOf t.ports = setupOf s.ports := by
    unfold relinkEffect at h
    cases h
    split <;> simp
  simp [hkeeps, hsetup]

theorem setThresholdEffect_setting {body : List Byte} {s t : State} {b : ReplyBody} (h : setThresholdEffect body s = .ok t b)
    {x : Setting} (hx : x ≠ .threshold) : t.setting x = s.setting x := by
  have hkeeps := setThresholdEffect_keeps h
  cases x with
  | threshold => exact absurd rfl hx
  | _ => simp [State.setting, hkeeps]

theorem setPoolEffect_setting {body : List Byte} {s t : State} {b : ReplyBody} (h : setPoolEffect body s = .ok t b)
    {x : Setting} (hx : x ≠ .floor) : t.setting x = s.setting x := by
  have hkeeps := setPoolEffect_keeps h
  cases x with
  | floor => exact absurd rfl hx
  | _ => simp [State.setting, hkeeps]

theorem setLinkParamsEffect_setting {body : List Byte} {s t : State} {b : ReplyBody} (h : setLinkParamsEffect body s = .ok t b)
    {x : Setting} (hx : x ≠ .expected) : t.setting x = s.setting x := by
  have hkeeps := setLinkParamsEffect_keeps h
  cases x with
  | expected => exact absurd rfl hx
  | _ => simp [State.setting, hkeeps]

/-- A performed command changes no setting but those of its kind. -/
theorem performed_setting {f : Frame} {s t : State} {b : ReplyBody} {x : Setting} (hx : f.maySet x = false)
    (h : performed f s = .ok t b) : t.setting x = s.setting x := by
  have quiet (h : t.settings = s.settings) : t.setting x = s.setting x := (keeps_of_settings h x).setting
  have other {y : Setting} (hy : f.maySet y = true) : x ≠ y := fun he => by rw [he, hy] at hx; cases hx
  unfold performed at h
  split at h
  · rw [identifyEffect_keeps h]
  · cases h
  · rename_i hk
    exact setPortEffect_setting h (other (by simp [Frame.maySet, hk])) (other (by simp [Frame.maySet, hk]))
  · rename_i hk
    exact (keeps_of_besidesCounts (enablePortEffect_settings h) (other (by simp [Frame.maySet, hk]))).setting
  · exact quiet (disablePortEffect_settings h)
  · exact quiet (resumePortEffect_settings h)
  · exact quiet (portStatusEffect_settings h)
  · exact quiet (by simp [setRateEffect_keeps h])
  · exact quiet (by simp [commitRateEffect_keeps h])
  · rw [rateStatusEffect_keeps h]
  · rw [listEpisodesEffect_keeps h]
  · rw [episodeStatusEffect_keeps h]
  · exact quiet (by simp [haltEffect_keeps h])
  · exact quiet (by simp [haltEffect_keeps h])
  · exact quiet (by simp [abortEffect_keeps h])
  · exact quiet (by simp [extendEffect_keeps h])
  · exact quiet (by simp [addReservationEffect_keeps h])
  · unfold captureEffect at h
    split at h <;> cases h
  · rw [readCountersEffect_keeps h]
  · rename_i hk
    exact (keeps_of_besidesCounts (by simp [clearCountersEffect_keeps h])
      (other (by simp [Frame.maySet, hk]))).setting
  · rename_i hk
    exact setThresholdEffect_setting h (other (by simp [Frame.maySet, hk]))
  · rw [storeStatusEffect_keeps h]
  · rename_i hk
    exact setPoolEffect_setting h (other (by simp [Frame.maySet, hk]))
  · exact quiet (by simp [linkStatusEffect_keeps h])
  · rename_i hk
    exact setLinkParamsEffect_setting h (other (by simp [Frame.maySet, hk]))
  · exact quiet (relinkEffect_settings h)
  · cases h

/-! ### What follows an event -/

/-- A command that is taken: it leaves the queue, and changes no setting but those of its kind (R173, R174). -/
theorem take_keeps {x : Setting} {f : Frame} (hf : f.maySet x = false) {s : State} {rest : List Frame}
    (hc : s.mgmt.commands = f :: rest) : s.Keeps x (s.take f rest) := by
  have htaken : s.Keeps x { s with mgmt := { s.mgmt with commands := rest } } :=
    ⟨by cases x <;> rfl, fun g hg => by rw [hc]; exact List.mem_cons_of_mem f hg⟩
  have hmade (t : State) (m : Mgmt) (h : m.commands = t.mgmt.commands) (hr : m.ready = t.mgmt.ready) :
      t.Keeps x { t with mgmt := m } := keeps_of_settings (by simp [h, hr]) x
  refine htaken.trans ?_
  unfold State.take
  dsimp only
  split
  · exact hmade _ _ rfl rfl
  · unfold State.perform
    split
    · exact hmade _ _ rfl rfl
    · rename_i t b hperformed
      have hkeeps := performed_mgmt hperformed
      exact State.Keeps.trans ⟨performed_setting hf hperformed, by simp [hkeeps]⟩ (hmade t _ rfl rfl)
    · exact hmade _ _ rfl rfl
    · exact hmade _ _ rfl rfl

/-- A gift of a place, where no waiting command changes the setting (R172). -/
theorem give_keeps {x : Setting} {s : State} (h : ∀ f ∈ s.mgmt.commands, f.maySet x = false) : s.Keeps x s.give := by
  unfold State.give
  split
  · split
    · exact keeps_of_settings (by simp [State.reply]) x
    · split
      · rename_i f rest _ hc
        exact take_keeps (h f (by rw [hc]; exact List.mem_cons_self)) hc
      · exact keeps_of_settings (by simp) x
  · exact keeps_refl x s

theorem consequences_keeps_setting (x : Setting) (s : State) (wasIdle : Bool) : s.Keeps x (s.consequences wasIdle) :=
  keeps_of_settings (by simp [consequences_commands]) x

theorem serve_keeps {x : Setting} (wasIdle : Bool) (n : Nat) {s : State} (h : ∀ f ∈ s.mgmt.commands, f.maySet x = false) :
    s.Keeps x (State.serve wasIdle n s) := by
  induction n generalizing s with
  | zero => exact keeps_refl x s
  | succ n ih =>
    unfold State.serve
    split
    · have hturn := (give_keeps h).trans (consequences_keeps_setting x s.give wasIdle)
      exact hturn.trans (ih (fun f hf => h f (hturn.commands f hf)))
    · exact keeps_refl x s

/-- What follows an event, where no waiting command changes the setting. -/
theorem settle_keeps {x : Setting} {s : State} (h : ∀ f ∈ s.mgmt.commands, f.maySet x = false) (wasIdle : Bool) :
    s.Keeps x (s.settle wasIdle) := by
  have hturns := consequences_keeps_setting x s wasIdle
  have hserved := hturns.trans (serve_keeps wasIdle 16 (fun f hf => h f (hturns.commands f hf)))
  unfold State.settle
  dsimp only
  generalize State.serve wasIdle 16 (s.consequences wasIdle) = served at hserved ⊢
  have hbegun : s.Keeps x served.refreshThresholds.transmit :=
    hserved.trans (keeps_of_settings (by simp) x)
  have hlast := hbegun.trans (serve_keeps wasIdle 16 (fun f hf => h f (hbegun.commands f hf)))
  exact hlast.trans (keeps_of_settings (by simp) x)

theorem settle_setting {s : State} (hc : s.mgmt.commands = []) (x : Setting) (wasIdle : Bool) :
    (s.settle wasIdle).setting x = s.setting x := (settle_keeps (by simp [hc]) wasIdle).setting

/-! ### The rows -/

/-- The settings that a row can change. FRAME_RECEIVED can carry any command, and TRANSMIT_COMPLETE can be the reset event, which
keeps the expected parameters (R158, R177). -/
def rowMaySet : Instr → Setting → Bool
  | .frameReceived _, _ => true
  | .resetInputAssert, _ => true
  | .resetInputRelease, _ => true
  | .transmitComplete, .expected => false
  | .transmitComplete, _ => true
  | .setThreshold _ _, .threshold => true
  | .payloadWord _ _ _, .counts => true
  | .grantTimerExpiry _ _ _, .counts => true
  | .deadlineExpiry _, .counts => true
  | .enablePort _ _, .counts => true
  | .clearCounters _ _, .counts => true
  | .setPort _ _ _, .counts => true
  | .setPort _ _ _, .setup => true
  | .setLinkParams _ _ _ _ _, .expected => true
  | .setPool _ _, .floor => true
  | .storeInitComplete, .ready => true
  | _, _ => false

/-- A row that is a command of the host may set what its frame's command may set. -/
theorem frameOf?_maySet {i : Instr} {f : Frame} (hf : frameOf? i = some f) (x : Setting) : f.maySet x = rowMaySet i x := by
  cases i <;> cases hf <;> cases x <;> rfl

/-- FRAME_RECEIVED and the rows of the reset input are neither events of their own nor commands of the host. -/
theorem rowMaySet_of_neither {i : Instr} (he : eventOf? i = none) (hf : frameOf? i = none) (x : Setting) :
    rowMaySet i x = true := by
  cases i with
  | frameReceived _ => rfl
  | resetInputAssert => rfl
  | resetInputRelease => rfl
  | _ => first | (cases hf; done) | cases he

/-- The body of a row's frame is within the length of a frame (R169). -/
theorem frameOf?_length {i : Instr} (hi : i.wellFormed = true) {f : Frame} (hf : frameOf? i = some f) : f.body.length ≤ 1024 := by
  cases i with
  | commitRate tag ports =>
    cases hf
    have hports : ports.length ≤ 48 := of_decide_eq_true hi
    exact hports.trans (by decide)
  | _ => cases hf <;> simp [toBe]

theorem transmitDone_keeps_expected (s : State) : s.Keeps .expected s.transmitDone := by
  refine ⟨by simp [State.setting], ?_⟩
  unfold State.transmitDone
  split
  · exact fun _ => id
  · dsimp only
    split
    · exact fun _ => id
    · split
      · simp [State.resetPart, Mgmt.resetEvent]
      · exact fun _ => id

theorem finishInit_keeps_setting (s : State) {x : Setting} (hx : x ≠ .ready) : s.Keeps x s.finishInit := by
  refine ⟨?_, by simp⟩
  cases x with
  | ready => exact absurd rfl hx
  | _ => simp [State.setting]

theorem takeWord_keeps {x : Setting} {inParams inUp : State → State} (hp : ∀ t : State, t.Keeps x (inParams t))
    (hu : ∀ t : State, t.Keeps x (inUp t)) (s : State) : s.Keeps x (s.takeWord inParams inUp) := by
  have hcleared : s.Keeps x (s.updLanes (fun _ l => { l with framingRun := 0 })) :=
    keeps_of_settings (by simp) x
  unfold State.takeWord
  dsimp only
  split
  · exact keeps_refl x s
  · exact keeps_of_settings (by simp) x
  · exact keeps_of_settings (by simp) x
  · exact hcleared.trans (hp _)
  · exact hcleared.trans (hu _)

theorem markerWord_keeps {x : Setting} {act : State → Nat → State} (h : ∀ (t : State) (m : Nat), t.Keeps x (act t m)) (s : State)
    (port : Nat) : s.Keeps x (s.markerWord port act) := by
  have hbroken : s.Keeps x (s.breakOpen false) := keeps_of_settings (by simp) x
  refine hbroken.trans ?_
  unfold State.markerWord
  dsimp only
  split
  · exact keeps_of_settings (by simp) x
  · exact h _ port

/-- The effect of a row that is an event of its own changes no setting but those of the row. -/
theorem eventOf?_keeps {i : Instr} {effect : State → State} {x : Setting} (hi : eventOf? i = some effect)
    (hx : rowMaySet i x = false) (s : State) : s.Keeps x (effect s) := by
  have quiet {s t : State} (h : t.settings = s.settings) : s.Keeps x t := keeps_of_settings h x
  have counts {s t : State} (h : t.besidesCounts = s.besidesCounts) (hc : rowMaySet i .counts = true) : s.Keeps x t :=
    keeps_of_besidesCounts h (fun he => by rw [he, hc] at hx; cases hx)
  cases i with
  | transmitComplete =>
    cases hi
    cases x with
    | expected => exact transmitDone_keeps_expected s
    | _ => cases hx
  | storeInitComplete =>
    cases hi
    exact finishInit_keeps_setting s (fun he => by rw [he] at hx; cases hx)
  | grantTimerExpiry | deadlineExpiry =>
    cases hi
    exact counts (by simp) rfl
  | payloadWord =>
    cases hi
    exact takeWord_keeps (keeps_refl x) (fun t => counts (by simp) rfl) s
  | parameterBlock =>
    cases hi
    exact takeWord_keeps (fun t => quiet (by simp)) (fun t => quiet (by simp)) s
  | packetDescriptor | sighting | statusWord | holdReturn | resumeReturn | idleWord | unknownTypeWord =>
    cases hi
    exact takeWord_keeps (keeps_refl x) (fun t => quiet (by simp)) s
  | divertStarted | divertStopped =>
    cases hi
    exact takeWord_keeps (keeps_refl x) (fun t => markerWord_keeps (fun u m => quiet (by simp)) t _) s
  | _ => cases hi <;> exact quiet (by simp)

theorem event_setting {x : Setting} {effect : State → State} (h : ∀ s : State, s.Keeps x (effect s)) {s : State}
    (hc : s.mgmt.commands = []) : (s.event effect).setting x = s.setting x := by
  unfold State.event
  split
  · rfl
  · have heffect : s.Keeps x (effect s.freshEvent) :=
      (keeps_of_settings (s := s) (t := s.freshEvent) rfl x).trans (h s.freshEvent)
    have hnone : (effect s.freshEvent).mgmt.commands = [] :=
      List.eq_nil_iff_forall_not_mem.2 (fun f hf => by simpa [hc] using heffect.commands f hf)
    exact (settle_setting hnone x _).trans heffect.setting

/-- The arrival of a command's frame at a part with no command waiting, whenever the command is taken in the event. -/
theorem hostSends_setting {x : Setting} {f : Frame} (hx : f.maySet x = false) (hl : f.body.length ≤ 1024) {s t : State}
    (hf : s.mgmt.framer = []) (hc : s.mgmt.commands = []) (h : hostSends f s = .next t) : t.setting x = s.setting x := by
  cases hr : s.inReset with
  | true =>
    unfold hostSends bytesOutcome at h
    rw [if_pos hr] at h
    cases h
    rfl
  | false =>
    have ht := Host.Outcome.next.inj ((hostSends_runs s f hr hf hl).symm.trans h)
    rw [← ht]
    have hcommands : (s.mgmt.acceptFrame f).commands = [f] := by
      rw [Mgmt.acceptFrame, if_pos (by rw [hc]; decide), hc]
      rfl
    have hwaits : ∀ c ∈ (s.mgmt.acceptFrame f).commands, c.maySet x = false := by
      rw [hcommands]
      exact List.forall_mem_singleton.2 hx
    have hstart : ({ s.begun with mgmt := s.mgmt.acceptFrame f } : State).setting x = s.setting x := by
      cases x <;> simp [State.setting, State.begun]
    have hgiven := give_keeps (s := { s.begun with mgmt := s.mgmt.acceptFrame f }) hwaits
    have hend := hgiven.trans (settle_keeps (fun c hin => hwaits c (hgiven.commands c hin)) s.dramIdle)
    exact hend.setting.trans hstart

/-- Every row that can be, on a part between frames with no command waiting, changes no setting but its own. -/
theorem exec_setting {i : Instr} {s t : State} {x : Setting} (hi : i.wellFormed = true) (hf : s.mgmt.framer = [])
    (hc : s.mgmt.commands = []) (h : exec i s = .next t) (hx : rowMaySet i x = false) : t.setting x = s.setting x := by
  cases hevent : eventOf? i with
  | some effect =>
    rw [exec_event i s effect hevent] at h
    cases h
    exact event_setting (eventOf?_keeps hevent hx) hc
  | none =>
    cases hframe : frameOf? i with
    | some f =>
      rw [exec_host i s f hframe] at h
      exact hostSends_setting ((frameOf?_maySet hframe x).trans hx) (frameOf?_length hi hframe) hf hc h
    | none =>
      rw [rowMaySet_of_neither hevent hframe] at hx
      cases hx

/-- Settles O49: each clause is one setting, which `exec_setting` keeps in the rows that are not its own. -/
theorem otherCommandsKeepCountersAndSettings : Obligations.OtherCommandsKeepCountersAndSettings := by
  intro i s t hi hf hc h
  have kept (x : Setting) (hx : rowMaySet i x = false) : t.setting x = s.setting x := exec_setting hi hf hc h hx
  refine ⟨?_, ?_, ?_, ?_, ?_, ?_⟩
  · cases i <;> first | exact trivial | exact kept .threshold rfl
  · cases i <;> first | exact trivial | exact kept .counts rfl
  · cases i <;> first | exact trivial | exact fun p => ⟨policy_of_setup (kept .setup rfl) p, role_of_setup (kept .setup rfl) p⟩
  · cases i <;> first | exact trivial | exact kept .expected rfl
  · cases i <;> first | exact trivial | exact kept .floor rfl
  · cases i <;> first | exact trivial | exact kept .ready rfl

/-! ### SET_THRESHOLD -/

/-- A command that fails a shared check ends in its refusal (R173, R174). -/
theorem endsAt_refused {i : Instr} {s : State} {f : Frame} {status : Status} (hf : frameOf? i = some f) (h : TakesCommand s)
    (hl : f.body.length ≤ 1024) (hk : sharedCheck s.mgmt.ready f = some status) : EndsAt i s (s.refusal f.kind f.tag status) := by
  obtain ⟨-, -, -, -, hcommands, -⟩ := id h
  unfold EndsAt
  rw [exec_host i s f hf, hostSends_takes s f h hl, take_refuses s.begun f [] status hk, ← hcommands]
  rfl

/-- Where no command waits, what follows a row's effect changes no counter, and the reply made in it waits or is being sent. -/
theorem endsAt_counters {i : Instr} {s u : State} (h : EndsAt i s u) (hc : u.mgmt.commands = []) {r : Reply}
    (hr : r ∈ u.mgmt.replies) : ∃ t, exec i s = .next t ∧ t.counters.sets = u.counters.sets ∧
      t.counters.threshold = u.counters.threshold ∧ (r ∈ t.mgmt.replies ∨ t.mgmt.sending = some (.reply r)) :=
  ⟨u.settle s.dramIdle, h, settle_setting hc .counts s.dramIdle, settle_setting hc .threshold s.dramIdle,
    settle_reply u s.dramIdle r hr⟩

/-- Settles O43: the row's end is O40's, and what follows it changes no counter and keeps the reply. -/
theorem setThresholdSetsTAndKeepsCounts : Obligations.SetThresholdSetsTAndKeepsCounts := by
  obtain ⟨-, -, -, -, hends⟩ := storeAndCounterCommandsReportAndSet
  refine ⟨fun s tag value hS => ?_, fun s tag value h hready => ?_⟩
  · obtain ⟨⟨-, -, -, -, hcommands, -⟩, -⟩ := id hS
    have hend := hends s tag value hS
    by_cases hzero : value = 0
    · rw [if_pos hzero] at hend
      simp only [if_pos hzero]
      exact endsAt_counters hend hcommands List.mem_concat_self
    · rw [if_neg hzero] at hend
      simp only [if_neg hzero]
      exact endsAt_counters hend hcommands List.mem_concat_self
  · refine endsAt_refused (f := ⟨kindSetThreshold, tag, [value]⟩) rfl h (by simp) ?_
    rw [hready]
    rfl

end Sys2Proof.Machine
end

-- ==== Proofs: the bounds of the notices, the reply places, the counters and the lanes ====
section
/-! The bounds of the notice queue (R178), of the command queue and the reply places (R171, R172), of the counters (R159, R161)
and of the lane counts (Table 7-2). A notice is raised by `State.raise` alone, an event counted by `State.count` alone; most
other operations leave what the bounds are read from as it was (`State.boundView`). -/

namespace Sys2Proof.Machine

/-! ### The bounds of one state -/

/-- The bounds that every step keeps, together: one walk over the operations serves all four. -/
structure State.Bounded (s : State) : Prop where
  notices : s.mgmt.NoticesSound
  places : s.mgmt.PlacesSound
  counters : s.counters.Sound
  lanes : s.link.LanesSound

/-- What the bounds are read from. -/
@[simp] def State.boundView (s : State) :=
  (s.mgmt.notices, s.mgmt.commands, s.mgmt.replies, s.mgmt.engine, s.counters, s.link.lanes)

/-- The ranges of one lane's counts (Table 7-2). -/
def Lane.Sound (l : Lane) : Prop := l.alignRun ≤ 16 ∧ l.framingRun ≤ 3 ∧ l.codeErrors ≤ 255

/-- No count of a set exceeds 255 (R161). -/
def CounterSet.Sound (c : CounterSet) : Prop := ∀ n ∈ c.counts.toList, n ≤ 255

theorem counterSet_zero_sound : CounterSet.zero.Sound := fun n hn => by
  rw [eq_of_mem_replicate_toList (x := 0) hn]
  exact Nat.zero_le _

theorem lane_zero_sound : Lane.zero.Sound := by
  refine ⟨?_, ?_, ?_⟩ <;> exact Nat.zero_le _

/-- An entry of a vector after every entry was changed by a function of its place. -/
theorem mem_vmapIdx {α β : Type} {n : Nat} {v : Vector α n} {f : Nat → α → β} {x : β} (h : x ∈ (vmapIdx v f).toList)
    (d : α) : ∃ i < n, vget v i d ∈ v.toList ∧ x = f i (vget v i d) := by
  have hmem : x ∈ v.toList.zipIdx.map (fun p => f p.2 p.1) := h
  obtain ⟨⟨y, i⟩, hy, rfl⟩ := List.mem_map.1 hmem
  obtain ⟨hi, hat⟩ := List.mem_zipIdx' hy
  have hlt : i < n := by simpa using hi
  have hget : vget v i d = y := by simp [vget, hlt, hat]
  exact ⟨i, hlt, hget ▸ hat ▸ List.getElem_mem hi, by rw [hget]⟩

theorem capturing_of_captureWaiting? {s : State} {tag : Byte} {h : Handle} (hw : s.captureWaiting? = some (tag, h)) :
    s.mgmt.engine = .capturing tag h := by
  unfold State.captureWaiting? at hw
  split at hw <;> cases hw
  assumption

/-- A reply that is made fills one place more (R172). -/
theorem makeReply_filled (m : Mgmt) (r : Reply) :
    (m.makeReply r).replies.length + (m.makeReply r).reserved = m.replies.length + m.reserved + 1 := by
  simp only [Mgmt.makeReply, Mgmt.reserved, List.length_append, List.length_singleton, Nat.add_right_comm]

/-! ### The notice queue -/

/-- A notice takes the place of the one of its kind and object, or a free place of the queue, or is dropped (R178, R179). -/
theorem raise_noticesSound {m : Mgmt} (h : m.NoticesSound) (n : Notice) : (m.raise n).NoticesSound := by
  obtain ⟨hlength, hkeys⟩ := h
  unfold Mgmt.raise
  split
  · have hsame : (m.notices.map (fun x => if x.key == n.key then n else x)).map Notice.key = m.notices.map Notice.key := by
      rw [List.map_map]
      refine List.map_congr_left (fun x _ => ?_)
      by_cases hx : x.key = n.key <;> simp [hx]
    exact ⟨by simpa using hlength, hsame ▸ hkeys⟩
  · rename_i hnone
    split
    · rename_i hroom
      have hfree : n.key ∉ m.notices.map Notice.key := by simpa using hnone
      refine ⟨by simpa [Config.noticePlaces] using hroom, ?_⟩
      rw [List.map_append]
      exact List.concat_eq_append ▸ hkeys.concat hfree
    · exact ⟨hlength, hkeys⟩

/-- The port state of a THRESHOLD notice is no part of its key (R162, R178). -/
theorem refreshThresholds_noticesSound {s : State} (h : s.mgmt.NoticesSound) : s.refreshThresholds.mgmt.NoticesSound := by
  obtain ⟨hlength, hkeys⟩ := h
  have hsame : s.refreshThresholds.mgmt.notices.map Notice.key = s.mgmt.notices.map Notice.key := by
    unfold State.refreshThresholds
    rw [List.map_map]
    refine List.map_congr_left (fun x _ => ?_)
    cases x with
    | threshold t => simp only [Function.comp]; split <;> rfl
    | _ => rfl
  exact ⟨by simpa [State.refreshThresholds] using hlength, hsame ▸ hkeys⟩

/-- A frame that the transmitter begins has left its queue (R180). -/
theorem beginFrame_noticesSound {m : Mgmt} (h : m.NoticesSound) (f : TxFrame) : (m.beginFrame f).NoticesSound := by
  obtain ⟨hlength, hkeys⟩ := h
  cases f with
  | reply r => exact ⟨hlength, hkeys⟩
  | notice n dropped =>
    have hsub : (m.notices.drop 1).Sublist m.notices := List.drop_sublist 1 _
    exact ⟨hsub.length_le.trans hlength, hkeys.sublist (hsub.map Notice.key)⟩

namespace State.Bounded

variable {s t : State}

theorem frame (h : s.Bounded) (hv : t.boundView = s.boundView) : t.Bounded := by
  simp only [State.boundView, Prod.mk.injEq] at hv
  obtain ⟨hnotices, hcommands, hreplies, hengine, hcounters, hlanes⟩ := hv
  refine ⟨?_, ?_, hcounters ▸ h.counters, ?_⟩
  · simpa only [Mgmt.NoticesSound, hnotices] using h.notices
  · simpa only [Mgmt.PlacesSound, Mgmt.reserved, hcommands, hreplies, hengine] using h.places
  · simpa only [Link.LanesSound, hlanes] using h.lanes

theorem raise (h : s.Bounded) (n : Notice) : (s.raise n).Bounded :=
  ⟨raise_noticesSound h.notices n, by simpa [Mgmt.PlacesSound, Mgmt.reserved] using h.places, by simpa using h.counters,
    by simpa using h.lanes⟩

theorem updEp (h : s.Bounded) (slot : Nat) (f : Episode → Episode) : (s.updEp slot f).Bounded := h.frame rfl

theorem raisePortState (h : s.Bounded) (g : Nat) (cause : PortCause) : (s.raisePortState g cause).Bounded := h.raise _

theorem updCounters (h : s.Bounded) (g : Nat) {f : CounterSet → CounterSet} (hf : ∀ c, c.Sound → (f c).Sound) :
    (s.updCounters g f).Bounded := by
  obtain ⟨hleast, hmost, hsets⟩ := h.counters
  refine ⟨h.notices, h.places, ⟨hleast, hmost, fun set hset => ?_⟩, h.lanes⟩
  obtain hold | ⟨old, hold, rfl⟩ := mem_vupd _ _ _ _ hset
  · exact hsets set hold
  · exact hf old (hsets old hold)

/-- The lanes are changed, each by what it was. -/
theorem updLanes (h : s.Bounded) {f : Nat → Lane → Lane}
    (hf : ∀ i l, vget s.link.lanes i Lane.zero = l → l.Sound → (f i l).Sound) : (s.updLanes f).Bounded := by
  refine ⟨h.notices, h.places, h.counters, fun x hx => ?_⟩
  obtain ⟨i, -, hmem, rfl⟩ := mem_vmapIdx hx Lane.zero
  exact hf i _ rfl (h.lanes _ hmem)

/-- A lane's counts only fall, or stay. -/
theorem lowerLanes (h : s.Bounded) {f : Nat → Lane → Lane} (hf : ∀ i l, (f i l).alignRun ≤ l.alignRun ∧
    (f i l).framingRun ≤ l.framingRun ∧ (f i l).codeErrors ≤ l.codeErrors) : (s.updLanes f).Bounded :=
  h.updLanes fun i l _ ⟨ha, hr, hc⟩ => ⟨(hf i l).1.trans ha, (hf i l).2.1.trans hr, (hf i l).2.2.trans hc⟩

theorem toAligning (h : s.Bounded) : s.toAligning.Bounded := by
  refine ⟨h.notices, h.places, h.counters, fun x hx => ?_⟩
  rw [eq_of_mem_replicate_toList hx]
  exact lane_zero_sound

/-! ### Counts and stand-downs -/

theorem standDown (h : s.Bounded) (g : Nat) : (s.standDown g).Bounded := by
  unfold State.standDown
  split
  · exact raisePortState (h.frame (by simp)) g .standDown
  · exact h

theorem reached (h : s.Bounded) (g : Nat) (type : EvType) (n : Nat) : (s.reached g type n).Bounded := by
  have ordered (t : State) (ht : t.Bounded) : (if protects (t.policy g).protect type then t.standDown g else t).Bounded := by
    split
    · exact ht.standDown g
    · exact ht
  have hmarked := h.updCounters g (f := fun c => { c with marks := vupd c.marks type.index (fun _ => true) }) fun _ hc => hc
  unfold State.reached
  dsimp only
  split
  · exact ordered _ hmarked
  · exact ordered _ ((hmarked.raise _).frame rfl)

theorem count (h : s.Bounded) (g : Nat) (type : EvType) : (s.count g type).Bounded := by
  have hbumped : (s.bumped g type).Bounded := h.updCounters g fun c hc n hn => by
    obtain hold | ⟨old, hold, rfl⟩ := mem_vupd _ _ _ _ hn
    · exact hc n hold
    · exact bumpCount_le (hc old hold)
  unfold State.count
  dsimp only
  split
  · exact hbumped.reached g type _
  · exact hbumped

/-! ### Closing, completing, tearing down -/

theorem closeEpisode (h : s.Bounded) (slot : Nat) : (s.closeEpisode slot).Bounded := by
  unfold State.closeEpisode
  split
  · exact h
  · unfold State.raiseClosed
    split
    · exact raise (h.frame (by simp)) _
    · exact h.frame (by simp)

theorem closeIfEmpty (h : s.Bounded) (slot : Nat) : (s.closeIfEmpty slot).Bounded := by
  unfold State.closeIfEmpty
  split
  · exact h
  · split
    · exact h.closeEpisode slot
    · exact h

theorem afterEmptying (h : s.Bounded) (slot : Nat) : (s.afterEmptying slot).Bounded := by
  unfold State.afterEmptying
  split
  · exact h
  · split
    · exact closeIfEmpty (h.frame (by simp)) slot
    · exact h.closeIfEmpty slot

theorem abortEpisode (h : s.Bounded) (slot : Nat) : (s.abortEpisode slot).Bounded := closeIfEmpty (h.frame (by simp)) slot

theorem testCompletion (h : s.Bounded) (slot : Nat) : (s.testCompletion slot).Bounded := by
  unfold State.testCompletion
  split
  · exact h
  · split
    · exact afterEmptying (h.frame (by simp)) slot
    · exact h

/-! ### Rates -/

theorem applyRate (h : s.Bounded) (g : Nat) : (s.applyRate g).Bounded := by
  unfold State.applyRate
  split
  · exact h
  · exact raise (h.frame (by simp)) _

theorem applyNextEpisode (h : s.Bounded) (g : Nat) : (s.applyNextEpisode g).Bounded := by
  unfold State.applyNextEpisode
  split
  · exact h
  · split
    · exact h.applyRate g
    · exact h

/-! ### Sightings -/

theorem refuseSighting (h : s.Bounded) (cause : FullCause) : (s.refuseSighting cause).Bounded := by
  unfold State.refuseSighting
  split
  · exact h
  · exact raise (h.frame (by rfl)) _

theorem createSighted (h : s.Bounded) (a : Announcement) : (s.createSighted a).Bounded := by
  unfold State.createSighted
  split
  · exact h.refuseSighting .table
  · split
    · exact h.refuseSighting .store
    · exact h.frame rfl

theorem sightAgain (h : s.Bounded) (a : Announcement) (e : Episode) : (s.sightAgain a e).Bounded := by
  unfold State.sightAgain
  split
  · exact h.frame rfl
  · split
    · exact createSighted ((h.closeEpisode e.slot).frame (by simp)) a
    · exact createSighted (h.frame (by simp)) a

theorem takeSighting (h : s.Bounded) (a : Announcement) : (s.takeSighting a).Bounded := by
  unfold State.takeSighting
  split
  · split
    · exact h.createSighted a
    · exact h.sightAgain a _
  · exact h.frame rfl

/-! ### Arriving packets -/

theorem trim (h : s.Bounded) (slot : Nat) (a : Arrival) (listed : Bool) : (s.trim slot a listed).Bounded := by
  unfold State.trim
  split
  · exact h
  · rename_i e _
    have htrimmed : (s.updEp slot (fun x => { x with trimmed := x.trimmed.add a.desc.length })).resumeCheck.Bounded :=
      h.frame (by simp)
    dsimp only
    split
    · exact (htrimmed.count e.key.group .trim).frame (by simp)
    · exact htrimmed.frame (by simp)

theorem borrowOrTrim (h : s.Bounded) (slot : Nat) (a : Arrival) (listed : Bool) : (s.borrowOrTrim slot a listed).Bounded := by
  unfold State.borrowOrTrim
  split
  · exact h
  · dsimp only
    split
    · exact h.frame (by simp)
    · exact h.trim slot a listed

theorem judgeAndHold (h : s.Bounded) (slot : Nat) (a : Arrival) (r : Responder) : (s.judgeAndHold slot a r).Bounded := by
  unfold State.judgeAndHold
  dsimp only
  split
  · exact (h.count _ _).borrowOrTrim _ _ _
  · exact (h.count _ _).borrowOrTrim _ _ _
  · exact (h.count _ _).borrowOrTrim _ _ _
  · exact h.borrowOrTrim _ _ _
  · exact h.frame (by simp)
  · split
    · exact h.frame (by simp)
    · split
      · exact h.frame (by simp)
      · exact borrowOrTrim (h.frame (by simp)) _ _ _

theorem enter (h : s.Bounded) (slot : Nat) (a : Arrival) : (s.enter slot a).Bounded := h.frame (by simp)

theorem applyLast (h : s.Bounded) (slot : Nat) (a : Arrival) (r : Responder) : (s.applyLast slot a r).Bounded :=
  h.frame (by simp)

theorem arriveSighted (h : s.Bounded) (slot : Nat) (a : Arrival) : (s.arriveSighted slot a).Bounded := by
  have hactive : (if (s.ep? slot).any (fun e => e.state == .armed) then
      (s.updEp slot (fun x => { x with state := .active })).applyNextEpisode a.group else s).Bounded := by
    split
    · exact applyNextEpisode (h.frame (by simp)) a.group
    · exact h
  unfold State.arriveSighted
  dsimp only
  split
  · exact ((hactive.enter slot a).updEp slot _).borrowOrTrim _ _ _
  · exact ((((hactive.enter slot a).updEp slot _).judgeAndHold _ _ _).applyLast _ _ _).testCompletion _

theorem arriveAdopted (h : s.Bounded) (slot : Nat) (a : Arrival) : (s.arriveAdopted slot a).Bounded :=
  ((h.enter slot a).updEp slot _).borrowOrTrim _ _ _

theorem arriveDraining (h : s.Bounded) (slot : Nat) (a : Arrival) : (s.arriveDraining slot a).Bounded :=
  ((h.count a.group .late).updEp slot _).borrowOrTrim _ _ _

theorem arriveUnmatched (h : s.Bounded) (a : Arrival) : (s.arriveUnmatched a).Bounded := by
  unfold State.arriveUnmatched
  split
  · split
    · exact h.frame (by simp)
    · exact arriveAdopted (applyNextEpisode (h.frame (by simp)) _) _ _
  · exact h.frame (by simp)

theorem arriveMatched (h : s.Bounded) (e : Episode) (a : Arrival) : (s.arriveMatched e a).Bounded := by
  unfold State.arriveMatched
  split
  · exact h.arriveDraining _ _
  · exact (h.count a.group .late).frame (by simp)
  · exact h.arriveSighted _ _
  · split
    · exact h.arriveSighted _ _
    · exact h.arriveAdopted _ _

theorem unpaceGroup (h : s.Bounded) (g : Nat) : (s.unpaceGroup g).Bounded := h.frame (by simp)

theorem portFault (h : s.Bounded) (a : Arrival) : (s.portFault a).Bounded := by
  unfold State.portFault
  dsimp only
  split
  · exact raisePortState (h.frame (by simp)) _ _
  · exact unpaceGroup (raisePortState (h.frame (by simp)) _ _) _

theorem arrive (h : s.Bounded) (desc : Descriptor) (data : List Byte) : (s.arrive desc data).Bounded := by
  unfold State.arrive
  dsimp only
  split
  · split
    · exact h.arriveUnmatched _
    · exact h.arriveMatched _ _
  · exact h.portFault _

/-! ### Grants that expire -/

theorem retire (h : s.Bounded) (slot position : Nat) (e : Episode) : (s.retire slot position e).Bounded :=
  (((h.updEp slot _).count e.key.group .retire).updEp slot _).testCompletion slot

theorem expireGrant (h : s.Bounded) (slot position number : Nat) : (s.expireGrant slot position number).Bounded := by
  unfold State.expireGrant
  split
  · exact h
  · split
    · exact h
    · split
      · dsimp only
        split
        · exact retire (h.frame (by simp)) _ _ _
        · exact h.frame (by simp)
      · exact h

/-! ### Store transfers -/

theorem finishWrite (h : s.Bounded) : s.finishWrite.Bounded := by
  unfold State.finishWrite
  split
  · exact h
  · exact h
  · exact h
  · dsimp only
    split
    · exact h.frame (by simp)
    · split
      · exact h.frame (by simp)
      · exact closeIfEmpty (h.frame (by simp)) _

theorem suspend (h : s.Bounded) (port : Nat) : (s.suspend port).Bounded := by
  unfold State.suspend
  dsimp only
  split
  · exact h
  · exact raisePortState (h.frame (by simp)) _ _

theorem finishRelease (h : s.Bounded) (g : Nat) (p : HeldPacket) (uncorrectable : Bool) :
    (s.finishRelease g p uncorrectable).Bounded := by
  unfold State.finishRelease
  dsimp only
  split
  · split
    · exact suspend (h.frame (by simp)) _
    · exact h.frame (by simp)
  · refine afterEmptying ?_ _
    split
    · exact suspend (h.frame (by simp)) _
    · split
      · exact h.frame (by simp)
      · exact h.frame (by simp)

theorem finishRead (h : s.Bounded) (corrected : Nat) (uncorrectable : Bool) :
    (s.finishRead corrected uncorrectable).Bounded := by
  unfold State.finishRead
  split
  · exact h
  · exact h
  · exact h
  · split
    · exact h.frame rfl
    · exact finishRelease (h.frame (by simp)) _ _ _

/-- The CAPTURE that the engine holds has its reply place reserved (R172). -/
theorem answerCapture (h : s.Bounded) {handle : Handle} {tag : Byte} (he : s.mgmt.engine = .capturing tag handle)
    (status : Status) (body : ReplyBody) : (s.answerCapture tag status body).Bounded := by
  obtain ⟨hcommands, hfilled⟩ := h.places
  refine ⟨h.notices, ⟨hcommands, ?_⟩, h.counters, h.lanes⟩
  simpa [State.answerCapture, Mgmt.reserved, he] using hfilled

theorem noteCorrected (h : s.Bounded) (words : Nat) : (s.noteCorrected words).Bounded := h.frame rfl

theorem finishCapture (h : s.Bounded) (corrected : Nat) (uncorrectable : Bool) :
    (s.finishCapture corrected uncorrectable).Bounded := by
  unfold State.finishCapture
  split
  · exact h
  · exact h
  · exact h
  · have hended : ({ s with store := { s.store with transfer := .none } } : State).Bounded := h.frame rfl
    dsimp only
    split
    · exact hended
    · rename_i hwaits
      have hengine := capturing_of_captureWaiting? hwaits
      split
      · exact hended.answerCapture hengine _ _
      · exact (hended.noteCorrected corrected).answerCapture hengine _ _

/-! ### The divert link -/

theorem breakOpen (h : s.Bounded) (ended : Bool) : (s.breakOpen ended).Bounded := h.frame (by simp)

theorem rejectWord (h : s.Bounded) : s.rejectWord.Bounded := h.frame rfl

theorem deskewCheck (h : s.Bounded) : s.deskewCheck.Bounded := by
  unfold State.deskewCheck
  split
  · refine ⟨h.notices, h.places, h.counters, fun x hx => ?_⟩
    have hmem : x ∈ s.link.lanes.toList.map (fun l : Lane => { l with sinceMarker := none }) := hx
    obtain ⟨l, hl, rfl⟩ := List.mem_map.1 hmem
    exact h.lanes l hl
  · split
    · exact h.toAligning
    · exact h

theorem loseLink (h : s.Bounded) (cause : LinkCause) : (s.loseLink cause).Bounded := by
  have hleft : (s.leaveUp cause).Bounded := raise (h.toAligning.frame (by rfl)) _
  have hlost : (s.lost cause).Bounded := hleft.frame (by simp [State.lost])
  exact foldl_inv State.Bounded State.portLoss (fun _ _ hu => hu.frame (by simp)) _ _ hlost

theorem reachUp (h : s.Bounded) (p : LinkParams) : (s.reachUp p).Bounded := by
  have hup : (s.comeUp p).Bounded := (h.raise (.linkState (.up p))).frame rfl
  rw [reachUp_eq]
  exact foldl_inv State.Bounded State.restart (fun _ _ hu => hu.frame (by simp)) _ _ hup

/-- A whole word lowers the lanes' runs; what it carries is taken in PARAMS and in UP (R142, R148). -/
theorem takeWord (h : s.Bounded) {inParams inUp : State → State} (hp : ∀ t : State, t.Bounded → (inParams t).Bounded)
    (hu : ∀ t : State, t.Bounded → (inUp t).Bounded) : (s.takeWord inParams inUp).Bounded := by
  have hcleared : (s.updLanes (fun _ l => { l with framingRun := 0 })).Bounded := h.lowerLanes (by simp)
  unfold State.takeWord
  dsimp only
  split
  · exact h
  · exact h.lowerLanes (by simp)
  · exact (hcleared.lowerLanes (by simp [Lane.word])).deskewCheck
  · exact hp _ hcleared
  · exact hu _ hcleared

/-- A framing run is raised while it is below 3 (R142, R143). -/
theorem framingError (h : s.Bounded) (lane : Nat) : (s.framingError lane).Bounded := by
  have hraised (hrun : ¬ 3 ≤ (vget s.link.lanes lane Lane.zero).framingRun) :
      (s.updLanes (fun i l => if i = lane then { l with framingRun := l.framingRun + 1 } else l)).Bounded := by
    refine h.updLanes (fun i l hget hl => ?_)
    obtain ⟨ha, hr, hc⟩ := hl
    split
    · rename_i hi
      rw [← hi, hget] at hrun
      exact ⟨ha, by simpa using hrun, hc⟩
    · exact ⟨ha, hr, hc⟩
  unfold State.framingError
  dsimp only
  split
  · exact h
  · exact h.lowerLanes (fun i l => by split <;> simp)
  · split
    · exact h.toAligning
    · exact ((hraised ‹_›).lowerLanes (fun i l => by split <;> simp [Lane.word])).deskewCheck
  · split
    · exact h.toAligning
    · exact hraised ‹_›
  · split
    · exact h.loseLink .framing
    · exact hraised ‹_›

/-- A code error is counted up to 255 (R142). -/
theorem checked_sound {l : Lane} (hl : l.Sound) (b : BlockCheck) (counts : Bool) : (l.checked b counts).Sound := by
  obtain ⟨ha, hr, hc⟩ := hl
  have hcounted : (l.codeError counts).codeErrors ≤ 255 := by
    unfold Lane.codeError
    dsimp only
    split
    · exact Nat.min_le_left _ _
    · exact hc
  cases b with
  | good => exact ⟨ha, Nat.zero_le _, hc⟩
  | framing => exact ⟨ha, hr, hc⟩
  | code => exact ⟨ha, Nat.zero_le _, hcounted⟩
  | both => exact ⟨ha, hr, hcounted⟩
  | absent => exact ⟨ha, hr, hc⟩

theorem checkedLanes (h : s.Bounded) (block : Nat → BlockCheck) (counts : Bool) :
    (s.updLanes (fun i l => l.checked (block i) counts)).Bounded :=
  h.updLanes fun i _ _ hl => checked_sound hl (block i) counts

theorem damagedWord (h : s.Bounded) (blocks : Vector BlockCheck 4) (typeCode : Byte) (ofPacket : Bool) :
    (s.damagedWord blocks typeCode ofPacket).Bounded := by
  unfold State.damagedWord
  dsimp only
  split
  · exact h
  · exact h.lowerLanes (fun i l => by split <;> simp)
  · refine deskewCheck (h.lowerLanes (fun i l => ?_))
    rw [checkedWord_eq]
    split <;> simp [Lane.word]
  · split
    · exact h.toAligning
    · exact h.checkedLanes _ false
  · split
    · exact (h.checkedLanes _ true).breakOpen false
    · exact (h.checkedLanes _ true).rejectWord

/-- The lanes named by a word of the establishment pattern have their framing runs back at 0 (R142). -/
theorem clearedLanes (h : s.Bounded) (lanes : BitVec 4) :
    (s.updLanes (fun i l => if lanes.getLsbD i then { l with framingRun := 0 } else l)).Bounded :=
  h.lowerLanes fun i l => by split <;> simp

/-- An alignment run is raised up to 16 (R143). -/
theorem alignmentWord (h : s.Bounded) (lanes : BitVec 4) : (s.alignmentWord lanes).Bounded := by
  have hcleared := h.clearedLanes lanes
  have hraised : (s.updLanes (fun i l =>
      if lanes.getLsbD i then { l with alignRun := min 16 (l.alignRun + 1) } else l)).Bounded := by
    refine h.updLanes (fun i l _ hl => ?_)
    split
    · exact ⟨Nat.min_le_left _ _, hl.2⟩
    · exact hl
  unfold State.alignmentWord
  dsimp only
  split
  · exact h
  · split
    · exact hraised.frame rfl
    · exact hraised
  · exact (hcleared.lowerLanes (fun i l => by split <;> simp [Lane.word])).deskewCheck
  · exact hcleared
  · exact hcleared.rejectWord

theorem laneMarkerWord (h : s.Bounded) (lanes : BitVec 4) : (s.laneMarkerWord lanes).Bounded := by
  have hcleared := h.clearedLanes lanes
  unfold State.laneMarkerWord
  dsimp only
  split
  · exact h
  · exact h.lowerLanes (fun i l => by split <;> simp)
  · exact (hcleared.lowerLanes (fun i l => by split <;> simp [Lane.marker])).deskewCheck
  · exact hcleared
  · exact hcleared.rejectWord

theorem takeParams (h : s.Bounded) (p : LinkParams) (checksum : Byte) : (s.takeParams p checksum).Bounded := by
  have hgood : ({ s with link := { s.link with lastGood := some p } } : State).Bounded := h.frame rfl
  unfold State.takeParams
  split
  · dsimp only
    split
    · exact hgood.reachUp p
    · split
      · exact hgood
      · exact (hgood.frame (t := { s with link := { s.link with lastGood := some p, mismatch := true } }) rfl).raise _
  · exact h.toAligning

theorem takePayload (h : s.Bounded) (last : Bool) (count : Byte) (data : List Byte) :
    (s.takePayload last count data).Bounded := by
  unfold State.takePayload
  split
  · exact h.rejectWord
  · dsimp only
    split
    · split
      · exact h.breakOpen true
      · exact h
    · split
      · exact h.breakOpen last
      · split
        · exact h.frame rfl
        · split
          · exact arrive (h.frame (by rfl)) _ _
          · exact h.breakOpen true

theorem sightingWord (h : s.Bounded) (port : Nat) (a : Announcement) : (s.sightingWord port a).Bounded := by
  unfold State.sightingWord
  dsimp only
  split
  · exact (h.breakOpen false).frame rfl
  · exact (h.breakOpen false).takeSighting _

theorem started (h : s.Bounded) (member : Nat) : (s.started member).Bounded := by
  unfold State.started
  dsimp only
  split
  · split
    · exact raisePortState (h.frame (by rfl)) _ _
    · exact h.frame rfl
  · exact h.frame (by simp)

theorem markerWord (h : s.Bounded) (port : Nat) {taken : State → Nat → State}
    (ht : ∀ t : State, t.Bounded → (taken t port).Bounded) : (s.markerWord port taken).Bounded := by
  unfold State.markerWord
  dsimp only
  split
  · exact (h.breakOpen false).rejectWord
  · exact ht _ (h.breakOpen false)

/-! ### Ticks, expiries and the clock -/

theorem decideClock (h : s.Bounded) (edgesSeen : Bool) : (s.decideClock edgesSeen).Bounded := by
  unfold State.decideClock
  split
  · split
    · exact h.frame rfl
    · exact raise (h.frame (by rfl)) _
  · exact h

theorem loseReference (h : s.Bounded) : s.loseReference.Bounded := by
  unfold State.loseReference
  split
  · exact raise (h.frame (by rfl)) _
  · exact h

theorem regainReference (h : s.Bounded) : s.regainReference.Bounded := by
  unfold State.regainReference
  split
  · exact raise (h.frame (by rfl)) _
  · exact h

theorem finishInit (h : s.Bounded) : s.finishInit.Bounded := by
  unfold State.finishInit
  split
  · exact raise (h.frame (by rfl)) _
  · exact h

theorem applyDue (h : s.Bounded) (g : Nat) : (s.applyDue g).Bounded := by
  unfold State.applyDue
  split
  · exact h.applyRate g
  · exact h

theorem pacersTick (h : s.Bounded) : s.pacersTick.Bounded :=
  (foldl_inv State.Bounded State.applyDue (fun _ g hu => hu.applyDue g) s.groups s h).frame rfl

theorem pacerTick (h : s.Bounded) : s.pacerTick.Bounded := by
  unfold State.pacerTick
  split
  · exact h
  · have hticked : ({ s with time := ⟨s.time.clock, s.time.ticks + 1⟩ } : State).pacersTick.Bounded :=
      pacersTick (h.frame rfl)
    dsimp only
    (repeat' split) <;> exact hticked.frame rfl

theorem raiseExpired (h : s.Bounded) (slot : Nat) (e : Episode) (action : Option ExpiryAction) :
    (s.raiseExpired slot e action).Bounded := by
  unfold State.raiseExpired
  split
  · exact h
  · exact h.raise _

theorem expireDeadline (h : s.Bounded) (slot : Nat) (e : Episode) : (s.expireDeadline slot e).Bounded := by
  unfold State.expireDeadline
  split
  · exact (((h.updEp slot _).closeIfEmpty slot).count e.key.group .expire).raiseExpired slot e none
  · split
    · exact ((afterEmptying (h.frame (by simp)) slot).count e.key.group .expire).raiseExpired slot e (some .drain)
    · exact ((closeIfEmpty (h.frame (by simp)) slot).count e.key.group .expire).raiseExpired slot e (some .discard)
  · exact h
  · exact h

theorem takeDeadline (h : s.Bounded) (slot : Nat) : (s.takeDeadline slot).Bounded := by
  unfold State.takeDeadline
  split
  · exact h
  · split
    · exact h
    · split
      · split
        · exact h.expireDeadline slot _
        · exact h.updEp slot _
      · exact h

theorem takeIdle (h : s.Bounded) (slot : Nat) : (s.takeIdle slot).Bounded := by
  unfold State.takeIdle
  split
  · exact h
  · split
    · exact (h.updEp slot _).afterEmptying slot
    · exact h

/-! ### Resets -/

theorem powerOn (held : Bool) (q : List Instr) (n : Nat) :
    ({ State.powerOn held with pending := q, choices := n } : State).Bounded :=
  ⟨⟨Nat.zero_le _, List.nodup_nil⟩, ⟨Nat.zero_le _, Nat.zero_le _⟩, reset_countersSound, reset_lanesSound⟩

/-- The reset event empties the notice and command queues and frees the engine; the replies stay (R177). -/
theorem resetPart (h : s.Bounded) : s.resetPart.Bounded := by
  obtain ⟨-, hfilled⟩ := h.places
  have hcleared : ({ s with
      mgmt := s.mgmt.resetEvent, table := ⟨vmap s.table.generations (· + 1), [], false⟩, sched := Scheduler.powerOn,
      store := Store.powerOn true, pacers := Vector.replicate 48 Pacer.powerOn, counters := Counters.powerOn,
      ports := Vector.replicate 48 Port.powerOn, link := Link.afterReset .aligning s.link.expected } : State).Bounded :=
    ⟨⟨Nat.zero_le _, List.nodup_nil⟩, ⟨Nat.zero_le _, (Nat.le_add_right _ _).trans hfilled⟩, reset_countersSound,
      reset_lanesSound⟩
  unfold State.resetPart State.resetClock
  dsimp only
  split
  · exact raise (hcleared.frame (by rfl)) _
  · exact hcleared.frame rfl

theorem transmitDone (h : s.Bounded) : s.transmitDone.Bounded := by
  unfold State.transmitDone
  split
  · exact h
  · have hsent : ({ s with mgmt := { s.mgmt with sending := none } } : State).Bounded := h.frame rfl
    dsimp only
    split
    · exact hsent
    · split
      · exact hsent.resetPart
      · exact hsent

/-! ### The commands of the host -/

theorem rebond (h : s.Bounded) (p : Nat) (before after : Bond) : (s.rebond p before after).Bounded := by
  have hzeroed (t : State) (ht : t.Bounded) : (t.updCounters (p + 1) (fun _ => CounterSet.zero)).Bounded :=
    ht.updCounters _ fun _ _ => counterSet_zero_sound
  unfold State.rebond
  split
  · exact hzeroed _ (h.frame rfl)
  · exact hzeroed _ (h.frame rfl)
  · exact h
  · exact h

theorem setPortEffect {body : List Byte} {b : ReplyBody} (ht : setPortEffect body s = .ok t b) (h : s.Bounded) : t.Bounded := by
  obtain ⟨p, pol, -, -, -, -, rfl⟩ := setPortEffect_ok ht
  exact rebond (h.frame (by rfl)) _ _ _

theorem enable (h : s.Bounded) (g : Nat) : (s.enable g).Bounded :=
  updCounters (h.frame (by simp)) g fun _ _ n hn => by
    rw [eq_of_mem_replicate_toList (x := 0) hn]
    exact Nat.zero_le _

theorem enablePortEffect {body : List Byte} {b : ReplyBody} (ht : enablePortEffect body s = .ok t b) (h : s.Bounded) :
    t.Bounded := by
  unfold Machine.enablePortEffect at ht
  dsimp only at ht
  (repeat' split at ht) <;> cases ht
  exact h.enable _

theorem abortGroup (h : s.Bounded) (g : Nat) : (s.abortGroup g).Bounded :=
  foldl_inv State.Bounded State.abortEpisode (fun _ slot hu => hu.abortEpisode slot) _ _ h

theorem disablePortEffect {body : List Byte} {b : ReplyBody} (ht : disablePortEffect body s = .ok t b) (h : s.Bounded) :
    t.Bounded := by
  have haborted := h.abortGroup (portAt body 0)
  unfold Machine.disablePortEffect at ht
  split at ht
  · unfold disableFlushEffect at ht
    dsimp only at ht
    (repeat' split at ht) <;> cases ht <;> exact haborted.frame (by simp)
  · unfold disableDrainEffect at ht
    dsimp only at ht
    (repeat' split at ht) <;> cases ht <;> exact h.frame (by simp)

theorem abortEffect {body : List Byte} {b : ReplyBody} (ht : abortEffect body s = .ok t b) (h : s.Bounded) : t.Bounded := by
  unfold Machine.abortEffect at ht
  (repeat' split at ht) <;> cases ht
  exact h.abortEpisode _

theorem clearCountersEffect {body : List Byte} {b : ReplyBody} (ht : clearCountersEffect body s = .ok t b) (h : s.Bounded) :
    t.Bounded := by
  unfold Machine.clearCountersEffect at ht
  dsimp only at ht
  split at ht <;> cases ht
  exact h.updCounters _ fun _ _ => counterSet_zero_sound

/-- SET_THRESHOLD takes a byte other than 0 (R165). -/
theorem setThresholdEffect {body : List Byte} {b : ReplyBody} (ht : setThresholdEffect body s = .ok t b) (h : s.Bounded) :
    t.Bounded := by
  obtain ⟨-, -, hsets⟩ := h.counters
  unfold Machine.setThresholdEffect at ht
  dsimp only at ht
  split at ht
  · cases ht
  · rename_i hzero
    cases ht
    have hbyte := (byteAt body 0).isLt
    exact ⟨h.notices, h.places, ⟨Nat.one_le_iff_ne_zero.2 hzero, Nat.le_of_lt_succ hbyte, hsets⟩, h.lanes⟩

theorem setLinkParamsEffect {body : List Byte} {b : ReplyBody} (ht : setLinkParamsEffect body s = .ok t b) (h : s.Bounded) :
    t.Bounded := by
  unfold Machine.setLinkParamsEffect at ht
  split at ht <;> cases ht
  unfold State.expectParams
  dsimp only
  split
  · exact reachUp (h.frame (by rfl)) _
  · exact h.frame rfl

theorem relinkEffect {body : List Byte} {b : ReplyBody} (ht : relinkEffect body s = .ok t b) (h : s.Bounded) : t.Bounded := by
  cases ht
  split
  · exact h.loseLink .relink
  · exact h.toAligning

/-- The effect of every command of the host. -/
theorem performed {f : Frame} {b : ReplyBody} (ht : performed f s = .ok t b) (h : s.Bounded) : t.Bounded := by
  unfold Machine.performed at ht
  split at ht
  · rw [identifyEffect_keeps ht]; exact h
  · cases ht
  · exact setPortEffect ht h
  · exact enablePortEffect ht h
  · exact disablePortEffect ht h
  · exact h.frame (by simp [resumePortEffect_keeps ht])
  · exact h.frame (by simp [portStatusEffect_keeps ht])
  · exact h.frame (by simp [setRateEffect_keeps ht])
  · exact h.frame (by simp [commitRateEffect_keeps ht])
  · rw [rateStatusEffect_keeps ht]; exact h
  · rw [listEpisodesEffect_keeps ht]; exact h
  · rw [episodeStatusEffect_keeps ht]; exact h
  · exact h.frame (by simp [haltEffect_keeps ht])
  · exact h.frame (by simp [haltEffect_keeps ht])
  · exact abortEffect ht h
  · exact h.frame (by simp [extendEffect_keeps ht])
  · exact h.frame (by simp [addReservationEffect_keeps ht])
  · unfold captureEffect at ht; split at ht <;> cases ht
  · rw [readCountersEffect_keeps ht]; exact h
  · exact clearCountersEffect ht h
  · exact setThresholdEffect ht h
  · rw [storeStatusEffect_keeps ht]; exact h
  · exact h.frame (by simp [setPoolEffect_keeps ht])
  · exact h.frame (by simp [linkStatusEffect_keeps ht])
  · exact setLinkParamsEffect ht h
  · exact relinkEffect ht h
  · cases ht

/-! ### The reply places -/

/-- A reply is made while a place is free and not reserved (R172). -/
theorem reply (h : s.Bounded) (hfree : s.mgmt.replies.length + s.mgmt.reserved < 16) (f : Frame) (status : Status)
    (body : ReplyBody) : (s.reply f status body).Bounded := by
  obtain ⟨hcommands, -⟩ := h.places
  exact ⟨h.notices, ⟨hcommands, (makeReply_filled s.mgmt _).trans_le hfree⟩, h.counters, h.lanes⟩

/-- A command is performed by an idle engine while a place is free: it fills the place, or CAPTURE reserves it (R95, R172). -/
theorem perform (h : s.Bounded) (hengine : s.mgmt.engine = .idle) (hfree : s.mgmt.replies.length < 16) (f : Frame) :
    (s.perform f).Bounded := by
  obtain ⟨hcommands, -⟩ := h.places
  unfold State.perform
  split
  · exact h.reply (by simpa [Mgmt.reserved, hengine] using hfree) _ _ _
  · rename_i t b ht
    obtain ⟨-, -, hreplies, hsame, -⟩ := performed_mgmt ht
    exact (performed ht h).reply (by simpa [Mgmt.reserved, hreplies, hsame, hengine] using hfree) _ _ _
  · exact ⟨h.notices, ⟨hcommands, hfree⟩, h.counters, h.lanes⟩
  · have haccepted : ({ s with mgmt := { s.mgmt with engine := .resetting } } : State).Bounded :=
      ⟨h.notices, ⟨hcommands, hfree.le⟩, h.counters, h.lanes⟩
    exact haccepted.reply hfree _ _ _

/-- The head command leaves the queue as it is taken (R172, R173). -/
theorem take (h : s.Bounded) (hengine : s.mgmt.engine = .idle) (hfree : s.mgmt.replies.length < 16) {f : Frame}
    {rest : List Frame} (hc : s.mgmt.commands = f :: rest) : (s.take f rest).Bounded := by
  obtain ⟨hcommands, hfilled⟩ := h.places
  have htaken : ({ s with mgmt := { s.mgmt with commands := rest } } : State).Bounded := by
    refine ⟨h.notices, ⟨?_, hfilled⟩, h.counters, h.lanes⟩
    rw [hc, List.length_cons] at hcommands
    exact (Nat.le_succ _).trans hcommands
  unfold State.take
  dsimp only
  split
  · exact htaken.reply (by simpa [Mgmt.reserved, hengine] using hfree) _ _ _
  · exact htaken.perform hengine hfree f

theorem giveFramer (h : s.Bounded) (hfree : s.mgmt.replies.length + s.mgmt.reserved < 16) :
    ({ s with mgmt := s.mgmt.giveFramer } : State).Bounded := by
  obtain ⟨hcommands, hfilled⟩ := h.places
  refine ⟨by simpa [Mgmt.NoticesSound] using h.notices, ⟨by simpa using hcommands, ?_⟩, h.counters, h.lanes⟩
  unfold Mgmt.giveFramer
  split
  · rw [makeReply_filled]
    exact hfree
  · split
    · exact hfilled
    · rw [makeReply_filled]
      exact hfree

theorem give (h : s.Bounded) : s.give.Bounded := by
  unfold State.give
  split
  · rename_i hplace
    have hfree : s.mgmt.replies.length + s.mgmt.reserved < 16 := of_decide_eq_true hplace
    split
    · rename_i rest _
      have howed : ({ s with mgmt := { s.mgmt with owed := rest } } : State).Bounded := h.frame rfl
      exact howed.reply hfree _ _ _
    · split
      · rename_i hengine hc
        exact h.take hengine ((Nat.le_add_right _ _).trans_lt hfree) hc
      · exact h.giveFramer hfree
  · exact h

/-! ### What follows an event -/

/-- The store arbiter answers a CAPTURE in the place that it had reserved (R96, R172). -/
theorem storeArbiter (h : s.Bounded) (wasIdle : Bool) : (s.storeArbiter wasIdle).Bounded := by
  obtain ⟨hcommands, hfilled⟩ := h.places
  refine ⟨by simpa [Mgmt.NoticesSound] using h.notices, ⟨by simpa using hcommands, ?_⟩, by simpa using h.counters,
    by simpa using h.lanes⟩
  rw [storeArbiter_places]
  exact hfilled

theorem completeDrain (h : s.Bounded) (g : Nat) : (s.completeDrain g).Bounded := by
  unfold State.completeDrain
  split
  · have hfreed := foldl_inv State.Bounded State.freeEpisode (fun _ slot hu => hu.frame rfl)
      ((s.groupEpisodes g).map (fun e => e.slot)) s h
    exact raisePortState (hfreed.frame (by rfl)) g .drained
  · exact h

theorem beginItem (h : s.Bounded) : s.beginItem.Bounded := h.frame (by simp)

theorem decisions (h : s.Bounded) (n : Nat) : (State.decisions n s).Bounded := h.frame (by simp)

theorem consequences (h : s.Bounded) (wasIdle : Bool) : (s.consequences wasIdle).Bounded := by
  have hdrained : s.completeDrains.Bounded :=
    foldl_inv State.Bounded State.completeDrain (fun _ g hu => hu.completeDrain g) _ _ h
  have hreleased : s.completeDrains.beginItem.beginReleases.Bounded := hdrained.beginItem.frame (by simp)
  exact (((hreleased.storeArbiter wasIdle).decisions 512).beginItem).decisions 512

theorem serve (h : s.Bounded) (wasIdle : Bool) (n : Nat) : (State.serve wasIdle n s).Bounded :=
  serve_inv (fun _ hu => hu.give) (fun _ w hu => hu.consequences w) wasIdle n s h

theorem refreshThresholds (h : s.Bounded) : s.refreshThresholds.Bounded :=
  ⟨refreshThresholds_noticesSound h.notices, h.places, h.counters, h.lanes⟩

/-- A frame that the transmitter begins frees its place (R172, R180). -/
theorem transmit (h : s.Bounded) : s.transmit.Bounded := by
  obtain ⟨hcommands, hfilled⟩ := h.places
  unfold State.transmit
  split
  · exact h
  · rename_i f _
    refine ⟨beginFrame_noticesSound h.notices f, ⟨by simpa [State.emit] using hcommands, ?_⟩, h.counters, h.lanes⟩
    have hfewer : (s.mgmt.beginFrame f).replies.length ≤ s.mgmt.replies.length := by
      cases f with
      | reply r => exact (List.drop_sublist 1 _).length_le
      | notice n dropped => exact le_rfl
    have hreserved : (s.mgmt.beginFrame f).reserved = s.mgmt.reserved := by simp [Mgmt.reserved]
    exact hreserved ▸ (Nat.add_le_add_right hfewer _).trans hfilled

theorem settle (h : s.Bounded) (wasIdle : Bool) : (s.settle wasIdle).Bounded := by
  have hbegun := ((h.consequences wasIdle).serve wasIdle 16).refreshThresholds.transmit
  have hlast := (hbegun.serve wasIdle 16).refreshThresholds
  unfold State.settle
  exact hlast.frame (by simp)

/-! ### Steps -/

/-- The effect of every row that is an event of its own. -/
theorem eventOf {i : Instr} {effect : State → State} (hi : eventOf? i = some effect) (h : s.Bounded) :
    (effect s).Bounded := by
  cases i with
  | transmitComplete => cases hi; exact h.transmitDone
  | clockStartDecision edgesSeen => cases hi; exact h.decideClock edgesSeen
  | storeInitComplete => cases hi; exact h.finishInit
  | referenceLost => cases hi; exact h.loseReference
  | referenceReturned => cases hi; exact h.regainReference
  | pacerTick => cases hi; exact h.pacerTick
  | grantTimerExpiry slot position number => cases hi; exact h.expireGrant slot position number
  | deadlineExpiry slot => cases hi; exact h.takeDeadline slot
  | idleExpiry slot => cases hi; exact h.takeIdle slot
  | framingError lane => cases hi; exact h.framingError lane.val
  | damagedWord blocks typeCode ofPacket => cases hi; exact h.damagedWord blocks typeCode ofPacket
  | alignmentWord lanes => cases hi; exact h.alignmentWord lanes
  | laneMarkerWord lanes => cases hi; exact h.laneMarkerWord lanes
  | parameterBlock => cases hi; exact h.takeWord (fun _ ht => ht.takeParams _ _) (fun _ ht => ht.rejectWord)
  | payloadWord => cases hi; exact h.takeWord (fun _ => id) (fun _ ht => ht.takePayload _ _ _)
  | sighting => cases hi; exact h.takeWord (fun _ => id) (fun _ ht => ht.sightingWord _ _)
  | divertStarted port => cases hi; exact h.takeWord (fun _ => id) (fun _ ht => ht.markerWord _ (fun _ hu => hu.started _))
  | divertStopped port =>
    cases hi; exact h.takeWord (fun _ => id) (fun _ ht => ht.markerWord _ (fun _ hu => hu.frame (by simp)))
  | packetDescriptor | statusWord | holdReturn | resumeReturn | idleWord | unknownTypeWord =>
    cases hi; exact h.takeWord (fun _ => id) (fun _ ht => ht.frame (by simp))
  | storeWriteComplete => cases hi; exact h.finishWrite
  | releaseReadComplete corrected uncorrectable => cases hi; exact h.finishRead corrected uncorrectable
  | captureReadComplete corrected uncorrectable => cases hi; exact h.finishCapture corrected uncorrectable
  | _ => cases hi <;> exact h.frame (by simp)

/-- A frame joins the command queue while it holds fewer than 8 (R171). -/
theorem acceptFrame (h : s.Bounded) (f : Frame) : ({ s with mgmt := s.mgmt.acceptFrame f } : State).Bounded := by
  obtain ⟨hcommands, hfilled⟩ := h.places
  refine ⟨by simpa [Mgmt.NoticesSound] using h.notices, ⟨?_, by simpa [Mgmt.reserved] using hfilled⟩, h.counters,
    h.lanes⟩
  unfold Mgmt.acceptFrame
  split
  · rename_i hroom
    simpa using hroom
  · exact hcommands

theorem frameEvent (h : s.Bounded) (found : Option Frame) : (s.frameEvent found).Bounded := by
  refine settle ?_ _
  cases found with
  | none => exact give (h.frame (by simp))
  | some f => exact (h.acceptFrame f).give

theorem bytes (h : s.Bounded) {l : List Byte} (ht : bytesOutcome l s = .next t) : t.Bounded := by
  cases ht
  split
  · exact h
  · exact foldl_inv State.Bounded State.frameEvent (fun _ found hu => hu.frameEvent found) _ _ (h.frame rfl)

theorem event (h : s.Bounded) {effect : State → State} (he : ∀ u : State, u.Bounded → (effect u).Bounded) :
    (s.event effect).Bounded := by
  unfold State.event
  split
  · exact h
  · exact (he s.freshEvent (h.frame rfl)).settle _

theorem exec {i : Instr} (h : s.Bounded) (ht : exec i s = .next t) : t.Bounded := by
  cases hi : eventOf? i with
  | some effect =>
    rw [exec_event i s effect hi] at ht
    cases ht
    exact h.event (fun _ hu => hu.eventOf hi)
  | none =>
    cases hf : frameOf? i with
    | some f =>
      rw [exec_host i s f hf] at ht
      exact h.bytes ht
    | none =>
      cases i with
      | frameReceived l => exact h.bytes ht
      | resetInputAssert => cases ht; exact powerOn true s.pending s.choices
      | resetInputRelease =>
        cases ht
        unfold State.releaseReset
        split
        · exact powerOn false s.pending s.choices
        · exact h
      | _ => first | (cases hf; done) | cases hi

theorem step (h : s.Bounded) (ht : step s = .next t) : t.Bounded := by
  unfold Machine.step at ht
  split at ht
  · cases ht
    exact h
  · rename_i rest _
    have hqueue : ({ s with pending := rest } : State).Bounded := h.frame rfl
    exact hqueue.exec ht

end State.Bounded

/-- Settles O53: the four bounds together are kept by every effect and by what follows it (`State.Bounded.step`). -/
theorem stepsKeepQueuesAndCountsBounded : Obligations.StepsKeepQueuesAndCountsBounded := by
  intro s t ht hnotices hplaces hcounters hlanes
  have hbounded : s.Bounded := ⟨hnotices, hplaces, hcounters, hlanes⟩
  obtain ⟨hn, hp, hc, hl⟩ := hbounded.step ht
  exact ⟨hn, hp, hc, hl⟩

end Sys2Proof.Machine
end

-- ==== Proofs: the reply places, the command engine and the transmitter ====
section
/-! The reply places, the command engine and the transmitter (R172 to R174, R178 to R180): who is given a free place, the shared
checks of a command that is taken, and the frame that the transmitter begins. -/

namespace Sys2Proof.Machine

/-! ### The shared checks -/

/-- The command kinds are 1 to 26 (Table 11-2). -/
theorem bodyLength_eq_none (kind : Byte) : bodyLength kind = none ↔ kind.toNat = 0 ∨ 26 < kind.toNat := by
  revert kind
  decide

theorem allowedBeforeReady_eq_false (kind : Byte) : allowedBeforeReady kind = false ↔
    kind ≠ kindIdentify ∧ kind ≠ kindLinkStatus ∧ kind ≠ kindSetLinkParams ∧ kind ≠ kindRelink := by
  simp [allowedBeforeReady, and_assoc]

/-- The shared checks of a taken command: kind, length, readiness (R173). -/
theorem sharedCheck_eq (ready : Bool) (f : Frame) : sharedCheck ready f =
    if f.kind.toNat = 0 ∨ 26 < f.kind.toNat then some .badKind
    else if (bodyLength f.kind).any (fun b => decide (b.1 ≤ f.body.length ∧ f.body.length ≤ b.2)) = false then
      some .badLength
    else if ready = false ∧ f.kind ≠ kindIdentify ∧ f.kind ≠ kindLinkStatus ∧ f.kind ≠ kindSetLinkParams ∧
        f.kind ≠ kindRelink then some .notReady
    else none := by
  unfold sharedCheck
  cases hb : bodyLength f.kind with
  | none => exact (if_pos ((bodyLength_eq_none f.kind).1 hb)).symm
  | some b =>
    have hkind : ¬ (f.kind.toNat = 0 ∨ 26 < f.kind.toNat) := fun h => by
      rw [(bodyLength_eq_none f.kind).2 h] at hb
      cases hb
    rw [if_neg hkind]
    refine if_congr ?_ rfl (if_congr ?_ rfl rfl)
    · simp only [Bool.or_eq_true, decide_eq_true_eq, Option.any_some, decide_eq_false_iff_not]
      omega
    · rw [← allowedBeforeReady_eq_false]
      simp

/-- The row of a host command whose body a frame of Table 11-2 can have passes the shared checks of a ready part (R173). -/
theorem sharedCheck_row {i : Instr} {f : Frame} (hf : frameOf? i = some f) (hl : f.body.length ≤ 48) :
    sharedCheck true f = none := by
  cases i with
  | commitRate tag ports =>
    cases hf
    have hports : ¬ 48 < ports.length := not_lt.2 hl
    simp [sharedCheck, bodyLength, kindCommitRate, hports]
  | setPort tag port policy =>
    cases hf
    simp [sharedCheck, bodyLength, kindSetPort]
  | _ => cases hf <;> rfl

/-! ### The reply places -/

theorem placeFree_iff {m : Mgmt} : m.placeFree = true ↔ m.replies.length + m.reserved < 16 := decide_eq_true_iff

/-- The oldest owed NOT_READY reply is made first (R172). -/
theorem give_owed {s : State} {f : Frame} {rest : List Frame} (ho : s.mgmt.owed = f :: rest)
    (hfree : s.mgmt.replies.length + s.mgmt.reserved < 16) : s.give = { s with mgmt := { s.mgmt with
      owed := rest, replies := s.mgmt.replies ++ [⟨f.tag, f.kind, .notReady, .nothing⟩] } } := by
  unfold State.give
  rw [if_pos (placeFree_iff.2 hfree), ho]
  rfl

/-- With no reply owed and no command to take, the place goes to the framer's replies (R172). -/
theorem give_framer {s : State} (ho : s.mgmt.owed = []) (hc : s.mgmt.engine ≠ .idle ∨ s.mgmt.commands = [])
    (hfree : s.mgmt.replies.length + s.mgmt.reserved < 16) : s.give = { s with mgmt := s.mgmt.giveFramer } := by
  unfold State.give
  rw [if_pos (placeFree_iff.2 hfree), ho]
  dsimp only
  split
  · rename_i hidle htake
    rcases hc with hc | hc
    · exact absurd hidle hc
    · rw [hc] at htake
      cases htake
  · rfl

theorem give_full {s : State} (h : 16 ≤ s.mgmt.replies.length + s.mgmt.reserved) : s.give = s := by
  unfold State.give
  rw [if_neg (fun hfree => absurd (placeFree_iff.1 hfree) (Nat.not_lt.2 h))]

/-- The framer's replies: the pending frame errors first, then the head of the BUSY backlog (R172). -/
theorem giveFramer_eq (s : State) : ({ s with mgmt := s.mgmt.giveFramer } : State) =
    if 0 < s.mgmt.pendingErrors then
      { s with mgmt := { s.mgmt with pendingErrors := 0, replies := s.mgmt.replies ++
        [⟨0, 0, .frameError, .number (min s.mgmt.pendingErrors 65535)⟩] } }
    else match s.mgmt.busyBacklog with
      | [] => s
      | b :: more => { s with mgmt := { s.mgmt with busyBacklog := more, replies := s.mgmt.replies ++
          [⟨b.tag, b.kind, .busy, .number (min b.answered 65535)⟩] } } := by
  unfold Mgmt.giveFramer
  split
  · rfl
  · cases hb : s.mgmt.busyBacklog <;> rfl

/-- Settles O8: the owed replies by `give_owed`, the engine by `give_takes` and `sharedCheck_eq`, the framer's replies by
`give_framer`. -/
theorem engineTakesTheHeadAndChecksInOrder : Obligations.EngineTakesTheHeadAndChecksInOrder := by
  refine ⟨fun s f rest he ho hc hfree => ?_, ?_, fun s f rest ho hfree => give_owed ho hfree, fun s ho hc hfree => ?_,
    fun s h => give_full h, fun i s f hf hl hS => ?_⟩
  · intro taken refused
    rw [give_takes s f rest he ho hc hfree]
    have hcheck := sharedCheck_eq s.mgmt.ready f
    split_ifs at hcheck ⊢
    · exact take_refuses s f rest _ hcheck
    · exact take_refuses s f rest _ hcheck
    · exact take_refuses s f rest _ hcheck
    · exact take_performs s f rest hcheck
  · decide
  · exact (give_framer ho hc hfree).trans (giveFramer_eq s)
  · obtain ⟨htakes, hready⟩ := hS
    exact endsAt_performs i s _ f (exec_host i s f hf) htakes (hl.trans (by decide)) (hready ▸ sharedCheck_row hf hl) rfl

/-! ### The transmitter -/

/-- The completion of a frame that is no ACCEPTED reply of a RESET_PART (R177, R180). -/
theorem transmitDone_eq {s : State} {x : TxFrame} (hx : s.mgmt.sending = some x)
    (hother : s.mgmt.engine ≠ .resetting ∨ ∀ r, x = .reply r → r.status ≠ .accepted) :
    s.transmitDone = { s with mgmt := { s.mgmt with sending := none } } := by
  unfold State.transmitDone
  rw [hx]
  cases x with
  | notice n dropped => rfl
  | reply r =>
    refine if_neg (fun hreset => ?_)
    simp only [Bool.and_eq_true, beq_iff_eq] at hreset
    exact hother.elim (fun h => h hreset.2) (fun h => h r rfl hreset.1)

theorem transmit_busy {s : State} (h : s.mgmt.sending ≠ none) : s.transmit = s := by
  unfold State.transmit Mgmt.nextFrame?
  cases hs : s.mgmt.sending with
  | none => exact absurd hs h
  | some x => rfl

/-- The head of the reply queue goes ahead of every notice (R180). -/
theorem transmit_begins {s : State} {r : Reply} {rest : List Reply} (hs : s.mgmt.sending = none)
    (hr : s.mgmt.replies = r :: rest) : s.transmit = { s with
      mgmt := { s.mgmt with sending := some (.reply r), replies := rest }, out := s.out ++ [.frame (.reply r)] } := by
  unfold State.transmit Mgmt.nextFrame?
  rw [hs, hr]
  dsimp only [Mgmt.beginFrame, State.emit]
  rw [hr, List.drop_one, List.tail_cons]

/-- With no reply waiting, the head of the notice queue takes the overflow mark with it (R179, R180). -/
theorem transmit_notice {s : State} {n : Notice} {rest : List Notice} (hs : s.mgmt.sending = none) (hr : s.mgmt.replies = [])
    (hn : s.mgmt.notices = n :: rest) : s.transmit = { s with
      mgmt := { s.mgmt with sending := some (.notice n s.mgmt.overflow), notices := rest, overflow := false },
      out := s.out ++ [.frame (.notice n s.mgmt.overflow)] } := by
  unfold State.transmit Mgmt.nextFrame?
  rw [hs, hr, hn]
  dsimp only [Mgmt.beginFrame, State.emit]
  rw [hn, List.drop_one, List.tail_cons]

theorem transmit_empty {s : State} (hr : s.mgmt.replies = []) (hn : s.mgmt.notices = []) : s.transmit = s := by
  by_cases hs : s.mgmt.sending = none
  · unfold State.transmit Mgmt.nextFrame?
    rw [hs, hr, hn]
  · exact transmit_busy hs

/-- The reply that waits longest is being sent at the end of an event that found the transmitter idle (R180). -/
theorem settle_sends {s : State} {r : Reply} {rest : List Reply} (hs : s.mgmt.sending = none) (hr : s.mgmt.replies = r :: rest)
    (wasIdle : Bool) : (s.settle wasIdle).mgmt.sending = some (.reply r) := by
  obtain ⟨l, hl⟩ := consequences_replies s wasIdle
  obtain ⟨k, hk⟩ := serve_replies wasIdle 16 (s.consequences wasIdle)
  have hidle := (serve_sending wasIdle 16 (s.consequences wasIdle)).trans ((consequences_sending s wasIdle).trans hs)
  rw [hl, hr, List.cons_append, List.cons_append] at hk
  unfold State.settle
  dsimp only
  generalize State.serve wasIdle 16 (s.consequences wasIdle) = served at hk hidle ⊢
  have hbegun : served.refreshThresholds.transmit.mgmt.sending = some (.reply r) := by
    rw [transmit_begins (s := served.refreshThresholds) hidle hk]
  generalize served.refreshThresholds.transmit = begun at hbegun ⊢
  exact (serve_sending wasIdle 16 begun).trans hbegun

/-! ### The notice queue -/

theorem any_key_iff {l : List Notice} {n : Notice} : l.any (fun x => x.key == n.key) = true ↔ ∃ x ∈ l, x.key = n.key := by
  simp only [List.any_eq_true, beq_iff_eq]

/-- Settles O9: the row by `transmitDone_eq` and `settle_sends`, the begin by the queue that it serves, a raised notice by its
three cases. -/
theorem transmitterServesRepliesAheadOfNotices : Obligations.TransmitterServesRepliesAheadOfNotices := by
  refine ⟨fun s x hr hx hother => ?_,
    fun s => ⟨fun r rest => transmit_begins, fun n rest => transmit_notice, ?_⟩, fun m n => ?_⟩
  · have hend : EndsAt .transmitComplete s { s.begun with mgmt := { s.mgmt with sending := none } } :=
      endsAt_event rfl hr (transmitDone_eq (s := s.begun) hx hother)
    refine ⟨hend, fun r rest hreplies => ⟨_, hend, ?_⟩⟩
    exact settle_sends (s := { s.begun with mgmt := { s.mgmt with sending := none } }) rfl hreplies s.dramIdle
  · rintro (hs | ⟨hr, hn⟩)
    · exact transmit_busy hs
    · exact transmit_empty hr hn
  · have hnone (h : ∀ x ∈ m.notices, x.key ≠ n.key) : ¬ m.notices.any (fun x => x.key == n.key) = true := fun hany => by
      obtain ⟨x, hx, hkey⟩ := any_key_iff.1 hany
      exact h x hx hkey
    unfold Mgmt.raise
    refine ⟨fun h => ?_, fun h hroom => ?_, fun h hfull => ?_⟩
    · rw [if_pos (any_key_iff.2 h)]
      simp only [beq_iff_eq]
    · rw [if_neg (hnone h), if_pos hroom]
    · rw [if_neg (hnone h), if_neg (Nat.not_lt.2 hfull)]

end Sys2Proof.Machine
end

-- ==== Proofs: the commands that need no ready part ====
section
/-! IDENTIFY, LINK_STATUS, SET_LINK_PARAMS and RELINK (R155 to R157, R176): the effect of each on the body of its row's
frame. -/

namespace Sys2Proof.Machine

/-- A command that needs no ready part ends in what its performance comes to, ready or not (R173). -/
theorem endsAt_early {i : Instr} {s u : State} {f : Frame} (hf : frameOf? i = some f) (h : TakesCommand s)
    (ha : allowedBeforeReady f.kind = true) (hb : bodyLength f.kind = some (f.body.length, f.body.length))
    (hl : f.body.length ≤ 1024) (hu : (performed f s.begun).ends s f = u) : EndsAt i s u := by
  refine endsAt_performs i s u f (exec_host i s f hf) h hl ?_ ((perform_ends s f).trans hu)
  unfold sharedCheck
  simp [hb, ha]

/-- The body of SET_LINK_PARAMS (Table 11-2). -/
def setLinkParamsBody (linkId : Half) (laneCount portCount : Byte) (maxLength : Half) : List Byte :=
  toBe 2 linkId.toNat ++ [laneCount, portCount] ++ toBe 2 maxLength.toNat

/-- Parameters that SET_LINK_PARAMS refuses (R156). -/
abbrev LinkParams.OutOfRange (p : LinkParams) : Prop :=
  p.laneCount ≠ 4 ∨ p.portCount = 0 ∨ 48 < p.portCount ∨ p.maxLength < 64 ∨ 9216 < p.maxLength

theorem linkParams_inRange (p : LinkParams) :
    (p.laneCount == 4 && inRange 1 48 p.portCount && inRange 64 9216 p.maxLength) = true ↔ ¬ p.OutOfRange := by
  simp only [inRange, LinkParams.OutOfRange, Bool.and_eq_true, beq_iff_eq, decide_eq_true_eq]
  omega

/-- The parameters of SET_LINK_PARAMS, read back from the body of its row's frame and held to their ranges (R156). -/
theorem linkParamsAt_row (linkId : Half) (laneCount portCount : Byte) (maxLength : Half) :
    linkParamsAt (setLinkParamsBody linkId laneCount portCount maxLength) =
      (let p : LinkParams := ⟨linkId.toNat, laneCount.toNat, portCount.toNat, maxLength.toNat⟩
       if p.OutOfRange then none else some p) := by
  have hid := fieldAt_half linkId [] ([laneCount, portCount] ++ toBe 2 maxLength.toNat) 0 rfl
  have hlength := fieldAt_half maxLength (toBe 2 linkId.toNat ++ [laneCount, portCount]) [] 4 rfl
  rw [List.nil_append, ← List.append_assoc] at hid
  rw [List.append_nil] at hlength
  have hlanes : byteAt (setLinkParamsBody linkId laneCount portCount maxLength) 2 = laneCount := rfl
  have hports : byteAt (setLinkParamsBody linkId laneCount portCount maxLength) 3 = portCount := rfl
  unfold linkParamsAt
  dsimp only
  rw [hlanes, hports]
  unfold setLinkParamsBody
  rw [hid, hlength]
  have hrange := linkParams_inRange ⟨linkId.toNat, laneCount.toNat, portCount.toNat, maxLength.toNat⟩
  exact (if_congr hrange rfl rfl).trans (ite_not _ _ _)

/-- The expected parameters replaced: in PARAMS a last good block that matches brings the link UP (R156). -/
theorem expectParams_eq (s : State) (p : LinkParams) : s.expectParams p =
    (let u := { s with link := { s.link with expected := p } }
     if s.link.state = .params ∧ s.link.lastGood = some p then u.reachUp p else u) :=
  if_congr (by simp) rfl rfl

/-- SET_LINK_PARAMS on the body of its row's frame (R156). -/
theorem setLinkParamsEffect_eq (s : State) (linkId : Half) (laneCount portCount : Byte) (maxLength : Half) :
    setLinkParamsEffect (setLinkParamsBody linkId laneCount portCount maxLength) s.begun =
      (let p : LinkParams := ⟨linkId.toNat, laneCount.toNat, portCount.toNat, maxLength.toNat⟩
       let u := { s.begun with link := { s.link with expected := p } }
       if p.OutOfRange then .refuse .badValue
       else .ok (if s.link.state = .params ∧ s.link.lastGood = some p then u.reachUp p else u) .nothing) := by
  unfold setLinkParamsEffect
  rw [linkParamsAt_row]
  dsimp only
  split_ifs with hout hup
  · rfl
  · exact congrArg (fun t => Performed.ok t .nothing) ((expectParams_eq s.begun _).trans (if_pos hup))
  · exact congrArg (fun t => Performed.ok t .nothing) ((expectParams_eq s.begun _).trans (if_neg hup))

/-- Settles O10: each row by its effect on its frame's body. -/
theorem commandsBeforeReadyReportAndSetTheLink : Obligations.CommandsBeforeReadyReportAndSetTheLink := by
  refine ⟨fun s tag h => ?_, fun s tag h => ?_, fun s tag linkId laneCount portCount maxLength h => ?_, fun s tag h => ?_⟩
  · exact endsAt_early rfl h rfl rfl (by simp) rfl
  · exact endsAt_early rfl h rfl rfl (by simp) rfl
  · have heffect : performed ⟨kindSetLinkParams, tag, setLinkParamsBody linkId laneCount portCount maxLength⟩ s.begun = _ :=
      setLinkParamsEffect_eq s linkId laneCount portCount maxLength
    refine endsAt_early (f := ⟨kindSetLinkParams, tag, setLinkParamsBody linkId laneCount portCount maxLength⟩) rfl h rfl rfl
      (by simp [setLinkParamsBody, toBe]) ?_
    rw [heffect]
    dsimp only
    split_ifs <;> rfl
  · have heffect : (if s.begun.linkUp then s.begun.loseLink .relink else s.begun.toAligning) = (if s.link.state = .up then
        s.begun.loseLink .relink
      else { s.begun with link :=
        { s.link with state := .aligning, lanes := Vector.replicate 4 Lane.zero, lastGood := none } }) :=
      if_congr linkUp_iff rfl rfl
    exact endsAt_early rfl h rfl rfl (by simp) (congrArg (fun t : State => t.replied kindRelink tag .ok .nothing) heffect)

end Sys2Proof.Machine
end

-- ==== Proofs: the receive framer and the command queue ====
section
/-! The receive framer and the command queue (R169 to R172): what the framer finds at the front of its bytes, and the events
that arriving bytes bring about. -/

namespace Sys2Proof.Machine

/-! ### The framer -/

theorem framedAt_hunting {b : Byte} (hb : b ≠ 0x5A) (l : List Byte) : framedAt (b :: l) = .hunting :=
  if_pos (by simpa [startByte] using hb)

/-- Fewer than five bytes say no length yet (R169). -/
theorem framedAt_short {l : List Byte} (h : l.length < 4) : framedAt (0x5A :: l) = .collecting := by
  unfold framedAt
  rw [if_neg (by simp [startByte])]
  exact if_pos (Nat.succ_lt_succ h)

/-- The frame whose header has come: its length, then its body and CRC (R169, Table 11-1). -/
theorem framedAt_header (kind tag high low : Byte) (l : List Byte) : framedAt (0x5A :: kind :: tag :: high :: low :: l) =
    (let n := high.toNat * 256 + low.toNat
     if 1024 < n then .discarded
     else if l.length < n + 2 then .collecting
     else if (crc16 (kind :: tag :: high :: low :: l.take n)).toNat = fieldAt l n 2 then
       .accepted ⟨kind, tag, l.take n⟩ (n + 7)
     else .discarded) := by
  have hn : fieldAt (0x5A :: kind :: tag :: high :: low :: l) 3 2 = high.toNat * 256 + low.toNat := by simp [fieldAt, beNat]
  unfold framedAt
  rw [if_neg (by simp [startByte]), if_neg (by simp), hn]
  generalize high.toNat * 256 + low.toNat = n
  dsimp only
  refine if_congr Iff.rfl rfl (if_congr ?_ rfl (if_congr ?_ rfl rfl))
  · simp only [List.length_cons]
    omega
  · rw [beq_iff_eq]
    simp only [fieldAt, List.drop_succ_cons, List.drop_zero, List.take_succ_cons]

/-- Bytes that are no start byte are ignored (R169). -/
theorem scanFrames_hunting (n : Nat) {l : List Byte} (hl : l.length ≤ n) (h : ∀ b ∈ l, b ≠ 0x5A) :
    scanFrames n l = ⟨[], []⟩ := by
  induction n generalizing l with
  | zero =>
    rw [List.length_eq_zero_iff.1 (Nat.le_zero.1 hl)]
    rfl
  | succ n ih =>
    cases l with
    | nil => rfl
    | cons b rest =>
      rw [scanFrames, framedAt_hunting (h b List.mem_cons_self)]
      exact ih (Nat.le_of_succ_le_succ hl) (fun c hc => h c (List.mem_cons_of_mem b hc))

/-- A part of a frame waits for the rest (R169). -/
theorem scanFrames_collecting {l : List Byte} (h : framedAt l = .collecting) (n : Nat) : scanFrames n l = ⟨[], l⟩ := by
  cases n with
  | zero => rfl
  | succ n =>
    cases l with
    | nil => rfl
    | cons b rest => rw [scanFrames, h]

/-- After a discard the framer takes the bytes after the start byte again (R169). -/
theorem scanFrames_discarded {b : Byte} {l : List Byte} (h : framedAt (b :: l) = .discarded) :
    scanFrames (b :: l).length (b :: l) = ⟨none :: (scanFrames l.length l).found, (scanFrames l.length l).rest⟩ := by
  rw [List.length_cons, scanFrames, h]

/-- A number of 16 bits in its two bytes (11). -/
theorem exists_toBe_two {n : Nat} (hn : n < 65536) :
    ∃ high low : Byte, toBe 2 n = [high, low] ∧ high.toNat * 256 + low.toNat = n := by
  refine ⟨_, _, toBe_two n, ?_⟩
  simp only [BitVec.toNat_ofNat]
  omega

/-- A whole frame whose CRC is not that of its bytes is discarded (R169). -/
theorem framedAt_wrongCrc (kind tag high low : Byte) {body : List Byte} (hl : body.length ≤ 1024)
    (hcrc : high.toNat * 256 + low.toNat ≠ (crc16 ([kind, tag] ++ toBe 2 body.length ++ body)).toNat) :
    framedAt (0x5A :: ([kind, tag] ++ toBe 2 body.length ++ body ++ [high, low])) = .discarded := by
  obtain ⟨first, second, hbytes, hlength⟩ := exists_toBe_two (hl.trans_lt (by decide : 1024 < 65536))
  have hcovered : crc16 (kind :: tag :: first :: second :: (body ++ [high, low]).take body.length) =
      crc16 ([kind, tag] ++ toBe 2 body.length ++ body) := by
    rw [List.take_left, hbytes]
    rfl
  have hgiven : fieldAt (body ++ [high, low]) body.length 2 = high.toNat * 256 + low.toNat := by
    simp [fieldAt, beNat]
  have hsplit : [kind, tag] ++ toBe 2 body.length ++ body ++ [high, low] =
      kind :: tag :: first :: second :: (body ++ [high, low]) := by
    simp [hbytes]
  rw [hsplit, framedAt_header, hlength]
  dsimp only
  rw [if_neg (not_lt.2 hl), if_neg (by simp), hcovered, hgiven, if_neg hcrc.symm]

/-- A frame of which at least the last byte is missing is collected (R169). -/
theorem framedAt_take_encode {f : Frame} (hl : f.body.length ≤ 1024) {n : Nat} (hpos : 0 < n) (hn : n < f.encode.length) :
    framedAt (f.encode.take n) = .collecting := by
  obtain ⟨high, low, hbytes, hlength⟩ := exists_toBe_two (hl.trans_lt (by decide : 1024 < 65536))
  have hencode : f.encode = 0x5A :: f.kind :: f.tag :: high :: low ::
      (f.body ++ toBe 2 (crc16 ([f.kind, f.tag] ++ toBe 2 f.body.length ++ f.body)).toNat) := by
    simp [Frame.encode, frameBytes, hbytes, startByte]
  rw [hencode] at hn ⊢
  rcases Nat.lt_or_ge n 5 with hshort | hlong
  · obtain ⟨k, rfl⟩ := Nat.exists_eq_succ_of_ne_zero (Nat.pos_iff_ne_zero.1 hpos)
    rw [List.take_succ_cons]
    exact framedAt_short ((List.length_take_le _ _).trans_lt (by omega))
  · obtain ⟨k, rfl⟩ := Nat.exists_eq_add_of_le' hlong
    simp only [List.take_succ_cons]
    rw [framedAt_header, hlength]
    dsimp only
    rw [if_neg (not_lt.2 hl), if_pos]
    simp [toBe] at hn ⊢
    omega

/-! ### Bytes on the receive line -/

/-- Bytes that come to a framer between frames: each frame they finish is an event of its own (R169, log entry 31). -/
theorem exec_frameReceived {s : State} (hr : Runs s) (hf : s.mgmt.framer = []) {bytes : List Byte} {found : List (Option Frame)}
    {rest : List Byte} (h : scanFrames bytes.length bytes = ⟨found, rest⟩) : exec (.frameReceived bytes) s =
      .next (found.foldl State.frameEvent { s.begun with mgmt := { s.mgmt with framer := rest } }) := by
  have hbegun : s.freshEvent.mgmt.framer = [] := hf
  refine congrArg Host.Outcome.next ?_
  rw [if_neg (by simp [show s.inReset = false from hr])]
  unfold State.receiveBytes
  simp only [hbegun, List.nil_append, h]
  rfl

theorem framer_unchanged {s : State} (hf : s.mgmt.framer = []) :
    ({ s.begun with mgmt := { s.mgmt with framer := [] } } : State) = s.begun := by
  rw [← hf]
  rfl

/-- The state with one discarded frame counted (R170). -/
def State.discarding (s : State) : State :=
  { s with mgmt := { s.mgmt with frameErrors := bump32 s.mgmt.frameErrors, pendingErrors := s.mgmt.pendingErrors + 1 } }

theorem frameEvent_none (s : State) : s.frameEvent none = s.discarding.give.settle s.dramIdle := by
  unfold State.frameEvent State.frameDone Mgmt.discardFrame
  rw [sat32_succ]
  rfl

/-- Bytes at whose front the framer discards a frame: the discard is the first event, and the bytes after the start byte are
taken again (R169, R170). -/
theorem exec_discarded {s : State} (hr : Runs s) (hf : s.mgmt.framer = []) {after : List Byte}
    (h : framedAt (0x5A :: after) = .discarded) : exec (.frameReceived (0x5A :: after)) s =
      .next ((scanFrames after.length after).found.foldl State.frameEvent
        (State.settle (State.discarding { s.begun with
          mgmt := { s.mgmt with framer := (scanFrames after.length after).rest } }).give s.dramIdle)) := by
  rw [exec_frameReceived hr hf (scanFrames_discarded h), List.foldl_cons, frameEvent_none]
  rfl

/-- An accepted frame joins the command queue, or is refused with BUSY (R171). -/
theorem acceptFrame_eq (m : Mgmt) (f : Frame) : m.acceptFrame f =
    if m.commands.length < 8 then { m with commands := m.commands ++ [f] }
    else { m with busyCount := bump32 m.busyCount, busyBacklog := addBusy f m.busyBacklog } := by
  rw [← sat32_succ]
  rfl

/-! ### The BUSY backlog -/

theorem addBusy_new {f : Frame} {l : List BusyEntry} (h : ∀ x ∈ l, x.tag ≠ f.tag) :
    addBusy f l = l ++ [{ tag := f.tag, kind := f.kind, answered := 1 }] := by
  induction l with
  | nil => rfl
  | cons b rest ih =>
    rw [addBusy, if_neg (by simpa using h b List.mem_cons_self), ih (fun x hx => h x (List.mem_cons_of_mem b hx))]
    rfl

theorem addBusy_known {f : Frame} {before after : List BusyEntry} {b : BusyEntry} (h : ∀ x ∈ before, x.tag ≠ f.tag)
    (hb : b.tag = f.tag) :
    addBusy f (before ++ b :: after) = before ++ { b with kind := f.kind, answered := b.answered + 1 } :: after := by
  induction before with
  | nil => exact if_pos (by simpa using hb)
  | cons c rest ih =>
    rw [List.cons_append, addBusy, if_neg (by simpa using h c List.mem_cons_self),
      ih (fun x hx => h x (List.mem_cons_of_mem c hx))]
    rfl

/-- Settles O7: the bytes of each clause by what the framer scans in them, the BUSY backlog by its two cases. -/
theorem framesJoinTheQueueAreBusyOrAreDiscarded : Obligations.FramesJoinTheQueueAreBusyOrAreDiscarded := by
  refine ⟨fun s f hr hf hl => ?_, fun s kind tag high low hr hf hk ht hh hlow hlong => ?_,
    fun s kind tag high low body hr hf hl hcrc => ?_, fun s b hr hf hb => ?_, fun s f n hr hf hl hpos hn => ?_,
    fun s bytes => ?_, fun i s f hi => exec_host i s f hi, fun f l => addBusy_new, fun f before after b => addBusy_known⟩
  · unfold EndsAt
    rw [← acceptFrame_eq]
    exact hostSends_runs s f hr hf hl
  · have hdiscard : framedAt [0x5A, kind, tag, high, low] = .discarded :=
      (framedAt_header kind tag high low []).trans (if_pos hlong)
    have hignored : scanFrames [kind, tag, high, low].length [kind, tag, high, low] = ⟨[], []⟩ := scanFrames_hunting 4 le_rfl (List.forall_mem_cons.2
      ⟨hk, List.forall_mem_cons.2 ⟨ht, List.forall_mem_cons.2 ⟨hh, List.forall_mem_singleton.2 hlow⟩⟩⟩)
    unfold EndsAt
    rw [exec_discarded hr hf hdiscard, hignored, framer_unchanged hf]
    rfl
  · exact exec_discarded hr hf (framedAt_wrongCrc kind tag high low hl hcrc)
  · have hignored : scanFrames [b].length [b] = ⟨[], []⟩ := scanFrames_hunting 1 le_rfl (List.forall_mem_singleton.2 hb)
    rw [exec_frameReceived hr hf hignored, framer_unchanged hf]
    rfl
  · exact exec_frameReceived hr hf (scanFrames_collecting (framedAt_take_encode hl hpos hn) _)
  · by_cases hreset : s.inReset = true
    · rw [if_pos hreset]
      exact congrArg Host.Outcome.next (if_pos hreset)
    · rw [if_neg hreset]
      exact congrArg Host.Outcome.next ((if_neg hreset).trans (if_neg hreset).symm)

end Sys2Proof.Machine
end

-- ==== Proofs: the reset of the part by its command ====
section
/-! RESET_PART (R177): the ACCEPTED reply, the reset event at its completion, and the NOT_READY replies of that event (R172). -/

namespace Sys2Proof.Machine

/-! ### The reset event -/

/-- The state that the reset event leaves, before what follows in it (R177, with R30, R57, R72, R99, R121, R122, R141, R158 and
R168). -/
def State.afterResetEvent (s : State) : State :=
  { s.begun with
    mgmt := { s.mgmt with
      ready := false, notices := if s.time.clock = some .fallback then [.clockState .fallback] else [], overflow := false,
      owed := s.mgmt.owed ++ s.mgmt.commands, commands := [], engine := .idle, startCause := .resetPart, sending := none },
    table := ⟨vmap s.table.generations (fun n => n + 1), [], false⟩, sched := Scheduler.powerOn, store := Store.powerOn true,
    pacers := Vector.replicate 48 Pacer.powerOn, time := ⟨s.time.clock, 0⟩, counters := Counters.powerOn,
    ports := Vector.replicate 48 Port.powerOn, link := Link.afterReset .aligning s.link.expected }

/-- The completion of RESET_PART's ACCEPTED reply is the reset event (R177). -/
theorem transmitDone_resets {s : State} {r : Reply} (hs : s.mgmt.sending = some (.reply r)) (hr : r.status = .accepted)
    (he : s.mgmt.engine = .resetting) : s.begun.transmitDone = s.afterResetEvent := by
  have hsending : s.begun.mgmt.sending = some (.reply r) := hs
  unfold State.transmitDone
  rw [hsending]
  dsimp only
  rw [if_pos (by simp [hr, State.begun, he])]
  unfold State.resetPart State.resetClock State.afterResetEvent
  dsimp only
  by_cases hclock : s.time.clock = some .fallback
  · rw [if_pos (by simpa [State.begun] using hclock), if_pos hclock]
    rfl
  · rw [if_neg (by simpa [State.begun] using hclock), if_neg hclock]
    rfl

/-! ### A part in which nothing comes about -/

/-- A part in which a change leads to nothing in the blocks: no group grants or drains, the link is not UP, the store
initialises, and no CAPTURE waits. -/
structure State.Resting (s : State) : Prop where
  ports : ∀ g, (s.port g).state ≠ .drainOut ∧ (s.port g).state ≠ .active
  link : s.link.state ≠ .up
  store : s.store.initialising = true
  engine : s.mgmt.engine = .idle

theorem State.Resting.consequences {s : State} (h : s.Resting) (wasIdle : Bool) : s.consequences wasIdle = s := by
  have hcapture : s.captureWaiting? = none := by
    unfold State.captureWaiting?
    rw [h.engine]
  unfold State.consequences
  simp only [completeDrains_quiet s (fun g => (h.ports g).1), beginItem_quiet s h.link, beginReleases_quiet s h.link,
    storeArbiter_quiet s wasIdle h.store hcapture, decisions_quiet s 512 (fun g => (h.ports g).2)]

theorem afterResetEvent_resting (s : State) : s.afterResetEvent.Resting := by
  have hport (g : Nat) : s.afterResetEvent.port g = Port.powerOn := vget_replicate _ _ _
  refine ⟨fun g => ?_, nofun, rfl, rfl⟩
  rw [hport]
  exact ⟨nofun, nofun⟩

/-! ### The NOT_READY replies -/

/-- The reply to a command that the reset event took out of the queue (R172, R177). -/
def notReadyTo (f : Frame) : Reply := ⟨f.tag, f.kind, .notReady, .nothing⟩

/-- No NOT_READY reply is owed and no command waits. -/
def Mgmt.Answered (m : Mgmt) : Prop := m.owed = [] ∧ m.commands = []

theorem give_answered {s : State} (h : s.mgmt.Answered) : s.give.mgmt.Answered := by
  obtain ⟨howed, hcommands⟩ := h
  rcases Nat.lt_or_ge (s.mgmt.replies.length + s.mgmt.reserved) 16 with hfree | hfull
  · rw [give_framer howed (Or.inr hcommands) hfree]
    exact ⟨by simpa using howed, by simpa using hcommands⟩
  · rw [give_full hfull]
    exact ⟨howed, hcommands⟩

theorem consequences_answered {s : State} (wasIdle : Bool) (h : s.mgmt.Answered) : (s.consequences wasIdle).mgmt.Answered :=
  ⟨by unfold State.consequences; simpa using h.1, (consequences_commands s wasIdle).trans h.2⟩

theorem serve_answered {s : State} (wasIdle : Bool) (n : Nat) (h : s.mgmt.Answered) :
    (State.serve wasIdle n s).mgmt.Answered :=
  serve_inv (P := fun u => u.mgmt.Answered) (fun _ => give_answered) (fun _ w => consequences_answered w) wasIdle n s h

/-- Places that are free for every owed reply: they are made first and in their order (R172). -/
theorem serve_owed (wasIdle : Bool) (n : Nat) {s : State} (hrest : s.Resting) (hcommands : s.mgmt.commands = [])
    (hfuel : s.mgmt.owed.length ≤ n) (hplaces : s.mgmt.replies.length + s.mgmt.owed.length ≤ 16) :
    (State.serve wasIdle n s).mgmt.Answered ∧
      ∃ more, (State.serve wasIdle n s).mgmt.replies = s.mgmt.replies ++ s.mgmt.owed.map notReadyTo ++ more := by
  induction n generalizing s with
  | zero =>
    have howed := List.length_eq_zero_iff.1 (Nat.le_zero.1 hfuel)
    exact ⟨⟨howed, hcommands⟩, [], by simp [State.serve, howed]⟩
  | succ n ih =>
    cases howed : s.mgmt.owed with
    | nil =>
      obtain ⟨more, hmore⟩ := serve_replies wasIdle (n + 1) s
      exact ⟨serve_answered wasIdle (n + 1) ⟨howed, hcommands⟩, more, by simpa using hmore⟩
    | cons f rest =>
      rw [howed, List.length_cons] at hfuel hplaces
      have hfree : s.mgmt.replies.length + s.mgmt.reserved < 16 := by
        simp only [Mgmt.reserved, hrest.engine]
        omega
      have hgiven := give_owed howed hfree
      have hrest' : s.give.Resting := hgiven ▸ ⟨hrest.ports, hrest.link, hrest.store, hrest.engine⟩
      have hwants : s.mgmt.wantsPlace = true := by
        simp [Mgmt.wantsPlace, placeFree_iff.2 hfree, howed]
      have hturn : State.serve wasIdle (n + 1) s = State.serve wasIdle n s.give := by
        rw [State.serve, if_pos hwants, hrest'.consequences]
      have hreplies : s.give.mgmt.replies = s.mgmt.replies ++ [notReadyTo f] := by rw [hgiven]; rfl
      have hleft : s.give.mgmt.owed = rest := by rw [hgiven]
      obtain ⟨hanswered, more, hmore⟩ := ih hrest' (by rw [hgiven]; exact hcommands) (by rw [hleft]; omega)
        (by rw [hreplies, hleft, List.length_append, List.length_singleton]; omega)
      rw [hturn]
      refine ⟨hanswered, more, ?_⟩
      rw [hmore, hreplies, hleft]
      simp

/-! ### The end of the reset event -/

/-- The replies that the part has made and not yet sent, the one being sent first. -/
def Mgmt.unsent (m : Mgmt) : List Reply := (match m.sending with | some (.reply x) => [x] | _ => []) ++ m.replies

/-- A reply that the transmitter begins stays the first of those unsent (R180). -/
theorem transmit_unsent {s : State} (hs : s.mgmt.sending = none) : s.transmit.mgmt.unsent = s.mgmt.replies := by
  cases hr : s.mgmt.replies with
  | cons r rest => rw [transmit_begins hs hr]; rfl
  | nil =>
    cases hn : s.mgmt.notices with
    | cons n rest => rw [transmit_notice hs hr hn]; exact hr
    | nil => rw [transmit_empty hr hn, Mgmt.unsent, hs, hr]; rfl

/-- An event that finds the transmitter idle in a resting part, with places for every owed reply: all are made, in their
order. -/
theorem settle_answers {s : State} (hrest : s.Resting) (hs : s.mgmt.sending = none) (hcommands : s.mgmt.commands = [])
    (hplaces : s.mgmt.replies.length + s.mgmt.owed.length ≤ 16) (wasIdle : Bool) : (s.settle wasIdle).mgmt.Answered ∧
      ∃ more, (s.settle wasIdle).mgmt.unsent = s.mgmt.replies ++ s.mgmt.owed.map notReadyTo ++ more := by
  obtain ⟨hanswered, more, hmore⟩ := serve_owed wasIdle 16 hrest hcommands ((Nat.le_add_left _ _).trans hplaces) hplaces
  have hidle := (serve_sending wasIdle 16 s).trans hs
  unfold State.settle
  rw [hrest.consequences]
  dsimp only
  generalize State.serve wasIdle 16 s = served at hanswered hmore hidle ⊢
  have hbegun : served.refreshThresholds.transmit.mgmt.Answered := ⟨by simpa using hanswered.1, by simpa using hanswered.2⟩
  have hunsent := (transmit_unsent (s := served.refreshThresholds) hidle).trans hmore
  generalize served.refreshThresholds.transmit = begun at hbegun hunsent ⊢
  obtain ⟨l, hl⟩ := serve_replies wasIdle 16 begun
  refine ⟨serve_answered wasIdle 16 hbegun, more ++ l, ?_⟩
  have hlast : (State.serve wasIdle 16 begun).mgmt.unsent = begun.mgmt.unsent ++ l := by
    simp only [Mgmt.unsent, serve_sending, hl, List.append_assoc]
  rw [← List.append_assoc, ← hunsent]
  exact hlast

/-- Settles O6: the take by RESET_PART's performance, the reset event by `transmitDone_resets`, its replies by
`settle_answers`. -/
theorem resetPartIsAcceptedAndResetsEveryBlock : Obligations.ResetPartIsAcceptedAndResetsEveryBlock := by
  have hend (s : State) (r : Reply) (hr : Runs s) (hs : s.mgmt.sending = some (.reply r)) (ha : r.status = .accepted)
      (he : s.mgmt.engine = .resetting) : EndsAt .transmitComplete s s.afterResetEvent :=
    endsAt_event rfl hr (transmitDone_resets hs ha he)
  refine ⟨fun s tag hS => endsAt_served rfl hS rfl (by simp) rfl, hend, fun s r hr hs ha he hplaces => ?_⟩
  have hall : s.afterResetEvent.mgmt.replies.length + s.afterResetEvent.mgmt.owed.length ≤ 16 := by
    simpa [State.afterResetEvent, Nat.add_assoc] using hplaces
  obtain ⟨⟨howed, hcommands⟩, more, hmore⟩ := settle_answers (afterResetEvent_resting s) rfl rfl hall s.dramIdle
  refine ⟨_, more, hend s r hr hs ha he, howed, hcommands, ?_⟩
  generalize s.afterResetEvent.settle s.dramIdle = t at hmore ⊢
  exact hmore

end Sys2Proof.Machine
end

-- ==== Proofs: the steps and the rows' outcomes ====
section
/-! Which outcome a step and a row have: the row at the front of the queue runs, the reset input holds the part still, and every
row answers a next state that keeps the queue `pending` (log entries 1 to 3, 30, 33). -/

namespace Sys2Proof.Machine

/-! ### Steps -/

theorem step_nil {s : State} (h : s.pending = []) : step s = .next s := by
  unfold step
  rw [h]

theorem step_cons {s : State} {c : Instr} {rest : List Instr} (h : s.pending = c :: rest) :
    step s = exec c { s with pending := rest } := by
  unfold step
  rw [h]

/-- Settles O1. -/
theorem stepRunsTheFrontCommand : Obligations.StepRunsTheFrontCommand :=
  fun c rest s => step_cons (s := { s with pending := c :: rest }) rfl

/-! ### What a row can do -/

/-- A row is an event of its own, bytes on the receive line (a host command's frame among them), or a change of the reset
input. -/
theorem exec_cases (i : Instr) (s : State) :
    (∃ effect, eventOf? i = some effect ∧ exec i s = .next (s.event effect)) ∨
    (∃ bytes, exec i s = bytesOutcome bytes s) ∨
    (i = .resetInputAssert ∧ exec i s = .next s.assertReset) ∨
    (i = .resetInputRelease ∧ exec i s = .next s.releaseReset) := by
  cases he : eventOf? i with
  | some effect => exact .inl ⟨effect, rfl, exec_event i s effect he⟩
  | none =>
    cases hf : frameOf? i with
    | some f => exact .inr (.inl ⟨f.encode, exec_host i s f hf⟩)
    | none =>
      cases i with
      | frameReceived bytes => exact .inr (.inl ⟨bytes, rfl⟩)
      | resetInputAssert => exact .inr (.inr (.inl ⟨rfl, rfl⟩))
      | resetInputRelease => exact .inr (.inr (.inr ⟨rfl, rfl⟩))
      | _ => first | (cases hf; done) | cases he

/-! ### The reset input -/

theorem event_held {s : State} (h : s.inReset = true) (effect : State → State) : s.event effect = s :=
  if_pos h

theorem bytesOutcome_held {s : State} (h : s.inReset = true) (bytes : List Byte) : bytesOutcome bytes s = .next s :=
  congrArg _ (if_pos h)

theorem bytesOutcome_runs {s : State} (h : s.inReset = false) (bytes : List Byte) :
    bytesOutcome bytes s = .next (s.freshEvent.receiveBytes bytes) :=
  congrArg _ (if_neg (by simp [h]))

/-- Settles O2: the idle step by `step_nil`; under the reset input neither an event nor bytes are taken. -/
theorem emptyQueueAndResetInputIdle : Obligations.EmptyQueueAndResetInputIdle := by
  refine ⟨fun s => step_nil, fun i s hheld hassert hrelease => ?_⟩
  obtain ⟨effect, -, hexec⟩ | ⟨bytes, hexec⟩ | ⟨hi, -⟩ | ⟨hi, -⟩ := exec_cases i s
  · rw [hexec, event_held hheld]
  · rw [hexec, bytesOutcome_held hheld]
  · exact absurd hi hassert
  · exact absurd hi hrelease

/-! ### What keeps the queue of pending rows -/

theorem give_pending (s : State) : s.give.pending = s.pending :=
  give_inv (P := fun u => u.pending = s.pending) (fun _ _ h => h)
    (fun _ _ _ _ hp h => (performed_mgmt hp).1.trans h) s rfl

theorem settle_pending (s : State) (wasIdle : Bool) : (s.settle wasIdle).pending = s.pending :=
  settle_inv (P := fun u => u.pending = s.pending) (fun u h => (give_pending u).trans h)
    (fun u w h => (consequences_keeps u w).1.trans h) (fun _ _ h => h) (fun _ _ h => h) (fun _ _ h => h) s wasIdle rfl

/-- An event keeps the queue that its own effect keeps. -/
theorem event_pending {effect : State → State} (he : ∀ u, (effect u).pending = u.pending) (s : State) :
    (s.event effect).pending = s.pending :=
  event_inv (P := fun u => u.pending = s.pending) (fun u w h => (settle_pending u w).trans h) (fun _ _ h => h)
    (fun _ _ h => h) effect (fun u h => (he u).trans h) s rfl

theorem receiveBytes_pending (s : State) (bytes : List Byte) : (s.receiveBytes bytes).pending = s.pending :=
  receiveBytes_inv (P := fun u => u.pending = s.pending) (fun u h => (give_pending u).trans h)
    (fun u w h => (settle_pending u w).trans h) (fun _ _ h => h) s bytes rfl

theorem takeWord_pending {inParams inUp : State → State} (hp : ∀ u, (inParams u).pending = u.pending)
    (hu : ∀ u, (inUp u).pending = u.pending) (s : State) : (s.takeWord inParams inUp).pending = s.pending := by
  unfold State.takeWord
  split
  · rfl
  · simp
  · simp
  · simp [hp]
  · simp [hu]

theorem markerWord_pending {act : State → Nat → State} (h : ∀ u m, (act u m).pending = u.pending) (s : State) (port : Nat) :
    (s.markerWord port act).pending = s.pending := by
  unfold State.markerWord
  dsimp only
  split
  · simp
  · simp [h]

/-- The effect of every row that is an event of its own. -/
theorem eventOf?_pending {i : Instr} {effect : State → State} (hi : eventOf? i = some effect) (s : State) :
    (effect s).pending = s.pending := by
  cases i with
  | packetDescriptor | payloadWord | sighting | statusWord | holdReturn | resumeReturn | idleWord | unknownTypeWord =>
    cases hi
    exact takeWord_pending (fun _ => rfl) (fun u => by simp) s
  | parameterBlock =>
    cases hi
    exact takeWord_pending (fun u => by simp) (fun u => by simp) s
  | divertStarted | divertStopped =>
    cases hi
    exact takeWord_pending (fun _ => rfl) (fun u => markerWord_pending (fun v m => by simp) u _) s
  | _ => cases hi <;> simp

theorem releaseReset_pending (s : State) : s.releaseReset.pending = s.pending := by
  unfold State.releaseReset
  split <;> rfl

/-- Settles O3: each kind of row of `exec_cases` ends in a next state, and none of its parts changes the queue. -/
theorem everyCommandAnswersANextStateAndKeepsTheQueue : Obligations.EveryCommandAnswersANextStateAndKeepsTheQueue := by
  intro i s
  obtain ⟨effect, hi, hexec⟩ | ⟨bytes, hexec⟩ | ⟨-, hexec⟩ | ⟨-, hexec⟩ := exec_cases i s
  · exact ⟨s.event effect, hexec, event_pending (eventOf?_pending hi) s⟩
  · cases hr : s.inReset with
    | true => exact ⟨s, hexec.trans (bytesOutcome_held hr bytes), rfl⟩
    | false =>
      exact ⟨s.freshEvent.receiveBytes bytes, hexec.trans (bytesOutcome_runs hr bytes),
        receiveBytes_pending s.freshEvent bytes⟩
  · exact ⟨s.assertReset, hexec, rfl⟩
  · exact ⟨s.releaseReset, hexec, releaseReset_pending s⟩

end Sys2Proof.Machine
end
